-- ==== Sys2Proof/Word.lean ====
section
/-! DEFINITION. The word types of the Rumelo 2416: the fields of its frames as bit vectors, the
numbers of its objects as bounded numbers (00_scope.md 5.1, 5.5; Table 3). -/

namespace Sys2Proof

/-- One byte of a frame. -/
abbrev Byte := BitVec 8

/-- A 24-bit two's complement audio sample (Table 2). -/
abbrev Sample := BitVec 24

/-- A speaker-local count or stamp in fu, modulo 2^32 (Table 2). -/
abbrev LocalCount := BitVec 32

/-- A 16-bit sequence, issue or beacon number, compared serially (5.3). -/
abbrev SerialNo := BitVec 16

/-- The tag of a directive, returned unchanged in its reply (Table 2). -/
abbrev Tag := BitVec 16

/-- A radio-side air address. -/
abbrev AirAddress := BitVec 16

/-- One 32-bit cue word (Table 89). -/
abbrev CueWord := BitVec 32

/-- An index of Cue Memory, taken modulo 512 (R154). -/
abbrev CueIndex := BitVec 9

/-- A zone number, 0 to 7. -/
abbrev ZoneNo := Fin 8

/-- A speaker number, 0 to 23. -/
abbrev SpeakerNo := Fin 24

/-- A stream number, 0 to 15. -/
abbrev StreamNo := Fin 16

/-- A tracker entry: 0 to 23 for the speakers, 24 to 39 for the streams (R58). -/
abbrev EntryNo := Fin 40

/-- A mark slot, 0 to 7. -/
abbrev MarkNo := Fin 8

/-- A cell of the Cell Store, 0 to 1023. -/
abbrev CellNo := Fin 1024

end Sys2Proof
end

