-- ==== Sys2Proof/Config.lean ====
section
/-! DEFINITION. What the manual fixes for the part as a whole (Tables 3 and 4, R193) and the one
values that it leaves open (assumption log entries 6 and 21). -/

namespace Sys2Proof.Config

/-- Timeline samples in one block (5.1). -/
def blockLength : Nat := 128

/-- Block numbers are below this bound, T having 48 bits (1.1). -/
def blockLimit : Nat := 2 ^ 41

/-- Cells of the Cell Store (Table 3). -/
def cellCount : Nat := 1024

/-- Reports the Report Queue holds (Table 3, R195). -/
def reportCapacity : Nat := 32

/-- Frames the Air transmit queue holds, both classes together (Table 3, R173). -/
def airCapacity : Nat := 96

/-- Tap blocks the tap buffer holds (Table 3, R132). -/
def tapCapacity : Nat := 2

/-- Entries of the Beacon Log (Table 3, R11). -/
def beaconLogCapacity : Nat := 16

/-- Cue words executed per zone and boundary (Table 3, R159). -/
def cueBudget : Nat := 8

/-- The largest value of a 32-bit saturating counter. -/
def counterMax : Nat := 4294967295

/-- The largest magnitude of ρ and τ, in du (Table 2). -/
def rateLimit : Int := 8192

/-- The bias added to the elected ρ (R7 step 2). -/
def electionBias : Int := 16

/-- The largest slew of one election (R7 step 2). -/
def slewLimit : Int := 64

/-- Boundaries between two elections (R7). -/
def electionPeriod : Nat := 1024

/-- The longest interval over which a deviation is measured (R62). -/
def pairingLimit : Int := 2 ^ 20

/-- The gross limit of a measured deviation while ACQUIRING (R64). -/
def grossLimit : Int := 16384

/-- Cells above the depletion mark at which depletion reporting is armed again (R30). -/
def rearmMargin : Nat := 16

/-- The vendor code of IDENTIFY (R193). -/
def vendorCode : Nat := 0x525A

/-- The part number of IDENTIFY (R193). -/
def partNumber : Nat := 2416

/-- The revision of IDENTIFY (R193). -/
def revision : Nat := 1

/-- FREE VALUE, no body (DESIGN CHOICE, log entry 6): the byte by which a QUERY ZONE payload spells
the overlay role "none" of a PROGRAM zone. R104 gives the field one byte and Table 85 lists no code
for none. -/
opaque noOverlayRoleByte : Byte

/-- FREE VALUE, no body (DESIGN CHOICE, log entry 21): the byte by which a payload spells the queue count
of a stream that one byte does not hold. Table 86 gives a count one byte, and a queue of quota 256 may
hold 256 cells (R37). -/
opaque wideCountByte : Nat → Byte

end Sys2Proof.Config
end

