-- ==== Sys2Proof/Syntax.lean ====
section
/-! DEFINITION. The commands of the part: one constructor of `Instr` per row of opcode_table.json.
Operands are the fields of the frames, in the widths of Tables 80, 81, 85 and 88. The events of the
part's own clock carry what the manual leaves to the moment: which of several works of one boundary
is taken first, and which is put off (log entries 2 and 3). -/

namespace Sys2Proof

/-- The rank and tag of a DIRECTIVE frame (Table 81). The rank is bits 1 and 0 of its byte. -/
structure Header where
  rank : BitVec 2
  tag : Tag
  deriving DecidableEq, Repr

/-- The works that fall due at a boundary (R2, R15, R95): the swap with the requests of SWAP marks,
the beacon, the election, each mark's firing, and each zone's work. -/
inductive BoundaryTask where
  | swap
  | beacon
  | election
  | mark (slot : MarkNo)
  | zone (z : ZoneNo)
  deriving DecidableEq, Repr

/-- The body of a SOURCE frame (Table 80). `samples` are the 24-bit samples after the flags, in the
order sent; reception judges how many there are (R203). -/
structure SourceFrame where
  stream : Byte
  seq : SerialNo
  sourceIndex : BitVec 32
  lanes : Byte
  flags : Byte
  samples : List Sample
  deriving DecidableEq, Repr

/-- The body of an ECHO frame (Table 88). -/
structure EchoFrame where
  address : AirAddress
  beacon : SerialNo
  count : LocalCount
  flags : Byte
  gapZone : Byte
  gapCount : Byte
  issues : List SerialNo
  deriving DecidableEq, Repr

/-- The operands of STAGE ZONE (Table 85). -/
structure ZoneOperands where
  zone : Byte
  present : Byte
  kind : Byte
  priority : Byte
  rank : Byte
  stream : Byte
  primeDepth : Byte
  lead : Byte
  startLevel : BitVec 16
  cueEntry : BitVec 16
  members : BitVec 24
  overlayRole : Byte
  deriving DecidableEq, Repr

/-- The operands of STAGE SPEAKER (Table 85). -/
structure SpeakerOperands where
  speaker : Byte
  present : Byte
  rank : Byte
  address : AirAddress
  plannedZone : Byte
  role : Byte
  deriving DecidableEq, Repr

/-- The operands of SET TRACKING (Table 85). -/
structure TrackingOperands where
  g : Byte
  h : Byte
  outlierLimit : BitVec 16
  phaseLimit : BitVec 24
  acquireCount : Byte
  staleLimit : Byte
  lostLimit : Byte
  deriving DecidableEq, Repr

/-- The two links of the part. -/
inductive Link where
  | source
  | air
  deriving DecidableEq, Repr

/-- The commands: one constructor per row of opcode_table.json, in the table's order. -/
inductive Instr where
  /-- RST_N is released. -/
  | rstNRelease
  /-- T reaches the next multiple of 128. `order` names the works taken first, in that order;
  `later` the works put off to a command of their own (log entry 2). -/
  | blockBoundary (order later : List BoundaryTask)
  /-- The beacon of the current boundary, its notice put off for the entries of `later`. -/
  | beacon (later : List EntryNo)
  /-- The election of the current boundary. -/
  | election
  /-- The firing of one mark at the current boundary. -/
  | markFiring (slot : MarkNo)
  /-- A zone's work of the current boundary, at which its cue wait runs out. -/
  | waitRunsOut (zone : ZoneNo)
  /-- One entry's share of a beacon notice, by which it becomes STALE. -/
  | silenceStale (entry : EntryNo)
  /-- One entry's share of a beacon notice, by which it becomes UNLOCKED. -/
  | silenceLost (entry : EntryNo)
  /-- A SOURCE frame arrives. -/
  | sourceFrame (frame : SourceFrame)
  /-- An ECHO frame arrives. -/
  | echo (frame : EchoFrame)
  /-- A DIRECTIVE frame whose kind, or whose length for its kind, fits no row of Table 85. -/
  | unknownDirectiveKind (kind : Byte) (d : Header) (operands : List Byte)
  | identify (d : Header)
  | queryDevice (d : Header)
  | restart (d : Header)
  /-- SET TIMEBASE; `mode` is the mode byte, 0 for LOCAL. A code of no mode stands here too. -/
  | setTimebaseLocal (d : Header) (mode : Byte) (tau : BitVec 16) (candidates : BitVec 16)
  /-- SET TIMEBASE with the mode byte FASTEST. -/
  | setTimebaseFastest (d : Header) (tau : BitVec 16) (candidates : BitVec 16)
  | setBeacon (d : Header) (interval : Byte)
  | armMark (d : Header) (slot : Byte) (block : BitVec 48) (action : Byte) (zone : Byte)
  | disarmMark (d : Header) (slot : Byte)
  | openStream (d : Header) (stream : Byte) (cls : Byte) (lanes : Byte) (quota : BitVec 16)
      (demandMark : BitVec 16)
  | closeStream (d : Header) (stream : Byte)
  | flushStream (d : Header) (stream : Byte)
  | queryStream (d : Header) (stream : Byte)
  | stageZone (d : Header) (ops : ZoneOperands)
  | stageSpeaker (d : Header) (ops : SpeakerOperands)
  | unstage (d : Header)
  | swap (d : Header)
  | queryZone (d : Header) (zone : Byte)
  | querySpeaker (d : Header) (speaker : Byte)
  | startZone (d : Header) (zone : Byte)
  /-- STOP ZONE; `mode` is the mode byte, 0 for SOFT. A code of no mode stands here too. -/
  | stopZoneSoft (d : Header) (zone : Byte) (mode : Byte)
  /-- STOP ZONE with the mode byte HARD. -/
  | stopZoneHard (d : Header) (zone : Byte)
  | setLevel (d : Header) (zone : Byte) (target : BitVec 16) (gainStep : BitVec 16)
  | setTrim (d : Header) (speaker : Byte) (gain : BitVec 16) (delay : BitVec 24)
  | pollAccessed (d : Header)
  | resyncSpeaker (d : Header) (speaker : Byte)
  | setTracking (d : Header) (ops : TrackingOperands)
  | setStore (d : Header) (mark : BitVec 16) (reserve : Byte) (margin : Byte)
  | queryStore (d : Header)
  | writeCues (d : Header) (start : BitVec 16) (words : List CueWord)
  | cueGo (d : Header) (zone : Byte) (index : BitVec 16)
  | cueHalt (d : Header) (zone : Byte)
  | cueResume (d : Header) (zone : Byte)
  | setPrescale (d : Header) (zone : Byte) (prescale : BitVec 16)
  | armTap (d : Header) (zone : Byte)
  | disarmTap (d : Header) (zone : Byte)
  /-- The Source Link loses training. -/
  | sourceLinkDown
  /-- The Source Link completes training. -/
  | sourceLinkUp
  /-- The Air Link loses training. -/
  | airLinkDown
  /-- The Air Link completes training. -/
  | airLinkUp
  /-- The frame being sent on the Air Link has been sent whole. -/
  | airSendComplete
  /-- The frame being sent on the Source Link has been sent whole. -/
  | sourceSendComplete
  /-- An inbound frame that fails the reception check: its link, class code and body. -/
  | malformedFrame (link : Link) (cls : Byte) (body : List Byte)
  /-- RST_N is driven low. -/
  | rstNAssertion
  deriving DecidableEq, Repr

end Sys2Proof
end

