-- ==== Sys2Proof/Machine/State.lean ====
section
/-! DEFINITION. The state of the part as plain data: every piece of state that the manual gives to its
blocks (INVENTORY.md, State), the queue of waiting commands, the agenda of the current boundary
(the model's own, log entry 2), and the values after the release of RST_N. -/

namespace Sys2Proof.Machine

open Sys2Proof

/-! ### The Timeline (chapter 1) -/

/-- The timebase modes (Table 6). -/
inductive TimebaseMode where
  | localMode
  | fastest
  deriving DecidableEq, Repr

/-- The actions of a mark (Table 8). -/
inductive MarkAction where
  | notify
  | swap
  | start
  | stop
  deriving DecidableEq, Repr

/-- A mark slot (Table 8). `zone` is `none` where the zone is unused. -/
structure Mark where
  armed : Bool
  block : Nat
  action : MarkAction
  zone : Option ZoneNo
  late : Bool
  deriving DecidableEq, Repr

/-- The Timeline Unit: the sample count T, the current block number, τ, the timebase state of
Table 6, the beacon state, the Beacon Log (oldest first) and the marks. -/
structure Timeline where
  count : Nat
  block : Nat
  tau : Int
  mode : TimebaseMode
  candidates : BitVec 16
  elected : Option StreamNo
  noCandidate : Bool
  beaconInterval : Nat
  beaconNumber : SerialNo
  beaconLog : List (SerialNo × Nat)
  marks : Vector Mark 8
  deriving DecidableEq, Repr

/-! ### The Cell Store (chapter 2) -/

/-- Speaker roles (Table 37). -/
inductive Role where
  | left
  | right
  | mono
  | low
  deriving DecidableEq, Repr

/-- The contents of an AUDIO cell (Table 13, R21): the header less its link, which the queue, ring or
free list that holds the cell gives (`linkOf`), and the samples in the order sent. -/
structure AudioCell where
  stream : StreamNo
  seq : SerialNo
  sourceIndex : BitVec 32
  lanes : Nat
  endFlag : Bool
  discontinuity : Bool
  samples : List Sample
  deriving DecidableEq, Repr

/-- The contents of a CLAIM cell (Table 14), less its link, which the stack gives. -/
structure ClaimCell where
  zone : ZoneNo
  priority : Nat
  role : Role
  claimedAt : Nat
  deriving DecidableEq, Repr

/-- What a cell holds. `blank` is a cell that nothing has written since power-on. -/
inductive Cell where
  | blank
  | audio (c : AudioCell)
  | claim (c : ClaimCell)
  deriving DecidableEq, Repr

/-- The Cell Store: the cells, the free list from its head (the free count is its length, R24), the
three settings and the depletion armed flag. -/
structure CellStore where
  cells : Vector Cell 1024
  freeList : List CellNo
  depletionMark : Nat
  claimReserve : Nat
  refillMargin : Nat
  depletionArmed : Bool
  deriving DecidableEq, Repr

/-! ### Stream Intake (chapter 3) -/

/-- Stream classes (Table 19). -/
inductive StreamClass where
  | live
  | paced
  deriving DecidableEq, Repr

/-- The eight stream counters (Table 22). -/
structure StreamCounters where
  accepted : Nat
  gaps : Nat
  old : Nat
  overflows : Nat
  overruns : Nat
  storeDrops : Nat
  slips : Nat
  underruns : Nat
  deriving DecidableEq, Repr

/-- A stream descriptor with its queue, oldest cell first (Table 19). `expected` is `none` for
"any". -/
structure Stream where
  present : Bool
  cls : StreamClass
  lanes : Nat
  quota : Nat
  demandMark : Nat
  expected : Option SerialNo
  demandArmed : Bool
  queue : List CellNo
  counters : StreamCounters
  deriving DecidableEq, Repr

/-- Stream Intake: the Stream Table and the two device counters. -/
structure Intake where
  streams : Vector Stream 16
  strayFrames : Nat
  malformedFrames : Nat
  deriving DecidableEq, Repr

/-! ### The Clock Tracker (chapter 4) -/

/-- Tracker states (Table 28). -/
inductive TrackState where
  | unlocked
  | acquiring
  | locked
  | stale
  deriving DecidableEq, Repr

/-- A tracker entry (Table 27). -/
structure TrackerEntry where
  state : TrackState
  rho : Int
  rawT : Nat
  rawL : LocalCount
  anchorT : Nat
  anchorL : LocalCount
  accepted : Nat
  outlierRun : Nat
  silence : Nat
  echoesAccepted : Nat
  outliers : Nat
  staleEchoes : Nat
  phaseSteps : Nat
  clamps : Nat
  deriving DecidableEq, Repr

/-- The tracking parameters (Table 32). -/
structure TrackingParams where
  g : Nat
  h : Nat
  outlierLimit : Nat
  phaseLimit : Nat
  acquireCount : Nat
  staleLimit : Nat
  lostLimit : Nat
  deriving DecidableEq, Repr

/-- The Clock Tracker: the Tracker Table and its parameters. -/
structure Tracker where
  entries : Vector TrackerEntry 40
  params : TrackingParams
  deriving DecidableEq, Repr

/-! ### The Plan (chapter 5) -/

/-- Zone kinds (Table 36). -/
inductive ZoneKind where
  | program
  | overlay
  deriving DecidableEq, Repr

/-- A zone descriptor (Table 36). -/
structure ZoneDesc where
  present : Bool
  kind : ZoneKind
  priority : Nat
  rank : Nat
  stream : Option StreamNo
  primeDepth : Nat
  lead : Nat
  startLevel : Nat
  cueEntry : Option CueIndex
  members : BitVec 24
  overlayRole : Option Role
  deriving DecidableEq, Repr

/-- A speaker descriptor (Table 37). -/
structure SpeakerDesc where
  present : Bool
  rank : Nat
  address : AirAddress
  plannedZone : Option ZoneNo
  role : Role
  deriving DecidableEq, Repr

/-- One bank of the plan (R84). -/
structure Bank where
  zones : Vector ZoneDesc 8
  speakers : Vector SpeakerDesc 24
  deriving DecidableEq, Repr

/-- A speaker's trims (R88). -/
structure Trim where
  gain : Nat
  delay : Nat
  deriving DecidableEq, Repr

/-- The Plan: both banks, the swap-pending flag, the trims and the accessed flags. -/
structure Plan where
  active : Bank
  staged : Bank
  swapPending : Bool
  trims : Vector Trim 24
  accessed : Vector Bool 24
  deriving DecidableEq, Repr

/-! ### Zone Playout (chapter 6) -/

/-- Zone states (Table 45). -/
inductive ZoneState where
  | idle
  | priming
  | playing
  | draining
  deriving DecidableEq, Repr

/-- Kinds of issue entry (Table 46). -/
inductive EntryKind where
  | normal
  | repeated
  | silent
  deriving DecidableEq, Repr

/-- An issue entry (Table 46); `block` is its presentation block p. -/
structure IssueEntry where
  number : SerialNo
  block : Nat
  kind : EntryKind
  cell : Option CellNo
  gainStart : Nat
  gainEnd : Nat
  rampIn : Bool
  rampOut : Bool
  deriving DecidableEq, Repr

/-- Zone runtime state (Table 43), the Issue Ring oldest first. `prevKind` is `none` for "none". -/
structure ZoneRun where
  state : ZoneState
  runningLead : Nat
  runningPrime : Nat
  primingBegan : Nat
  gain : Nat
  target : Nat
  gainStep : Nat
  issueNumber : SerialNo
  prevKind : Option EntryKind
  ring : List IssueEntry
  issued : Nat
  repeats : Nat
  silents : Nat
  deriving DecidableEq, Repr

/-- Speaker runtime state (Table 44). -/
structure SpeakerRun where
  zone : Option ZoneNo
  role : Role
  horizon : Nat
  rampPending : Bool
  rampMarker : Option (ZoneNo × SerialNo)
  firstSends : Nat
  backfills : Nat
  overlaps : Nat
  cuts : Nat
  deriving DecidableEq, Repr

/-- Tap states (R132). -/
inductive TapState where
  | disarmed
  | armed (z : ZoneNo)
  | active (z : ZoneNo)
  deriving DecidableEq, Repr

/-- A tap block (R132). -/
structure TapBlock where
  zone : ZoneNo
  number : SerialNo
  block : Nat
  samples : List Sample
  deriving DecidableEq, Repr

/-- The reference tap: its state, the tap buffer oldest first, and the tap overrun counter. -/
structure Tap where
  state : TapState
  buffer : List TapBlock
  overruns : Nat
  deriving DecidableEq, Repr

/-- Zone Playout: the zones, the speakers and the tap. -/
structure Playout where
  zones : Vector ZoneRun 8
  speakers : Vector SpeakerRun 24
  tap : Tap
  deriving DecidableEq, Repr

/-! ### The Overlay unit (chapter 7) -/

/-- The claim counters of a zone (R151). -/
structure ClaimCounters where
  made : Nat
  outranked : Nat
  failed : Nat
  deriving DecidableEq, Repr

/-- The Overlay unit: each speaker's Claim Stack as its chain of CLAIM cells, top first (R140; the
depth is the length), and each zone's claim counters. -/
structure Overlay where
  claimStacks : Vector (List CellNo) 24
  counters : Vector ClaimCounters 8
  deriving DecidableEq, Repr

/-! ### The Cue Engine (chapter 8) -/

/-- Cue states (Table 58). -/
inductive CueStatus where
  | running
  | halted
  | stopped
  | faulted
  deriving DecidableEq, Repr

/-- The cue state of a zone (Table 57). -/
structure CueRun where
  status : CueStatus
  pointer : CueIndex
  wait : Nat
  prescale : Nat
  prescaleCount : Nat
  loopCount : Nat
  loopStart : CueIndex
  deriving DecidableEq, Repr

/-- The Cue Engine: Cue Memory and each zone's cue state. -/
structure CueEngine where
  memory : Vector CueWord 512
  runs : Vector CueRun 8
  deriving DecidableEq, Repr

/-! ### The Air Link (chapter 9) -/

/-- A frame of the control class (Tables 65 and 88). -/
inductive ControlFrame where
  | beacon (number : SerialNo) (block : Nat) (interval : Nat)
  | cut (address : AirAddress) (stamp : LocalCount)
  deriving DecidableEq, Repr

/-- The three kinds of PLAYOUT frame (Table 65). -/
inductive AudioKind where
  | firstSend
  | backfill
  | refill
  deriving DecidableEq, Repr

/-- A PLAYOUT frame (Table 87). -/
structure PlayoutFrame where
  address : AirAddress
  zone : ZoneNo
  role : Role
  audioKind : AudioKind
  entryKind : EntryKind
  rampIn : Bool
  rampOut : Bool
  number : SerialNo
  stamp : LocalCount
  rate : BitVec 16
  samples : List Sample
  deriving DecidableEq, Repr

/-- A frame of the audio class with the speaker number and presentation block that the Air Link keeps
beside it and does not send (R173). -/
structure AudioItem where
  frame : PlayoutFrame
  speaker : SpeakerNo
  block : Nat
  deriving DecidableEq, Repr

/-- The frame being sent on the Air Link. -/
inductive AirSend where
  | control (f : ControlFrame)
  | audio (i : AudioItem)
  deriving DecidableEq, Repr

/-- Per-speaker air counters (Table 68). -/
structure AirCounters where
  drops : Nat
  lateDiscards : Nat
  cutPurges : Nat
  refillsMade : Nat
  refillsTooLate : Nat
  deriving DecidableEq, Repr

/-- The Air Link: link state, transmit side (`none` is FREE), the two classes of the transmit queue
oldest first, and the counters of Tables 68 and 69. -/
structure AirLink where
  up : Bool
  sending : Option AirSend
  control : List ControlFrame
  audio : List AudioItem
  counters : Vector AirCounters 24
  controlSent : Nat
  audioSent : Nat
  controlDrops : Nat
  downDiscards : Nat
  deriving DecidableEq, Repr

/-! ### The Source Link (chapter 10) -/

/-- Reply status (Table 71). -/
inductive Status where
  | ok
  | clamped
  | rank
  | absent
  | busy
  | bound
  | index
  | value
  | form
  deriving DecidableEq, Repr

/-- Event codes, each with its report kind (Table 75). -/
inductive EventCode where
  | zonePlaying
  | zoneEnded
  | zoneStarved
  | streamDemand
  | streamOverrun
  | streamStoreDrop
  | speakerLocked
  | speakerStale
  | speakerLost
  | speakerRecovered
  | speakerReacquire
  | speakerPhaseStep
  | storeDepletion
  | claimOutranked
  | claimFailed
  | cueNote
  | cueFault
  | markFired
  | markLate
  | markActionRefused
  | markMerged
  | swapDone
  | swapRefused
  | timebaseElected
  | timebaseNoCandidate
  | tapEnd
  deriving DecidableEq, Repr

/-- The sorts of report (Table 73). -/
inductive ReportSort where
  | reply (kind : Byte) (status : Status) (tag : Tag)
  | event (code : EventCode) (subject : Nat)
  | ready
  deriving DecidableEq, Repr

/-- One field of a payload: its width in bytes and its value (R204). -/
structure Field where
  width : Nat
  value : Int
  deriving DecidableEq, Repr

/-- A report (Table 73). -/
structure Report where
  sort : ReportSort
  count : Nat
  block : Nat
  payload : List Field
  loss : Bool
  deriving DecidableEq, Repr

/-- The frame being sent on the Source Link. -/
inductive SourceSend where
  | report (r : Report)
  | tap (b : TapBlock)
  deriving DecidableEq, Repr

/-- The Source Link: link state, transmit side (`none` is FREE), the Report Queue oldest first, the
LOSS-pending flag and the counters of Table 74. -/
structure SourceLink where
  up : Bool
  sending : Option SourceSend
  reports : List Report
  lossPending : Bool
  reportsSent : Nat
  tapSent : Nat
  eventDrops : Nat
  replyDrops : Nat
  deriving DecidableEq, Repr

/-! ### The machine -/

/-- What the current boundary still has to do: the MODEL's own bookkeeping (log entry 2). `beacon`
holds the interval in force at the boundary while its beacon is due, `marks` the slots whose firing
is due, `swap` a pending swap, `swapTaken` that a swap has been completed or refused at this
boundary, `zones` the zones whose work is due, and `notices` the tracker entries whose share of the
latest beacon notice is due. -/
structure Agenda where
  beacon : Option Nat
  election : Bool
  marks : Vector Bool 8
  swap : Bool
  swapTaken : Bool
  zones : Vector Bool 8
  notices : Vector Bool 40
  deriving DecidableEq, Repr

/-- Why a step can stop with a fault. -/
inductive Fault where
  /-- Raised by BLOCK_BOUNDARY, and by the idle step that reaches a boundary, when the next block
  number would be 2^41, past the 48 bits of T. The manual says the count does not reach this in
  service and gives no effect (log entry 1). The stop is the safe side. -/
  | timelineExhausted
  deriving DecidableEq, Repr

/-- Why a step can be refused. -/
inductive Refusal where
  /-- Raised by an arm of `exec` for a command without a meaning; no arm raises it. The safe side. -/
  | notModelled (mnemonic : String)
  deriving DecidableEq, Repr

/-- The whole part. `rstLow` is the level of RST_N (true while it is held low). `pending` is the queue
of waiting commands, first in, first out. -/
structure State where
  rstLow : Bool
  timeline : Timeline
  store : CellStore
  intake : Intake
  tracker : Tracker
  plan : Plan
  playout : Playout
  overlay : Overlay
  cue : CueEngine
  air : AirLink
  source : SourceLink
  agenda : Agenda
  pending : List Instr
  deriving DecidableEq, Repr

/-! ### Values after the release of RST_N -/

/-- A disarmed slot (R19). The other fields are DESIGN CHOICE (log entry 5). -/
def Mark.reset : Mark :=
  { armed := false, block := 0, action := .notify, zone := none, late := false }

/-- R19, Table 11. -/
def Timeline.reset : Timeline :=
  { count := 0, block := 0, tau := 0, mode := .localMode, candidates := 0, elected := none,
    noCandidate := false, beaconInterval := 32, beaconNumber := 0, beaconLog := [],
    marks := Vector.replicate 8 Mark.reset }

/-- The cells below `k` in ascending order, then `rest`. -/
def cellsBelow : Nat → List CellNo → List CellNo
  | 0, rest => rest
  | k + 1, rest => cellsBelow k (Fin.ofNat 1024 k :: rest)

/-- The cells in ascending order, cell 0 at the head (R35). -/
def ascendingCells : List CellNo := cellsBelow 1024 []

/-- R35. What a cell holds before its first take is DESIGN CHOICE (log entry 5). -/
def CellStore.reset : CellStore :=
  { cells := Vector.replicate 1024 .blank, freeList := ascendingCells, depletionMark := 48,
    claimReserve := 24, refillMargin := 2, depletionArmed := true }

/-- Counters at 0 (R56). -/
def StreamCounters.reset : StreamCounters :=
  { accepted := 0, gaps := 0, old := 0, overflows := 0, overruns := 0, storeDrops := 0, slips := 0,
    underruns := 0 }

/-- R56. -/
def Stream.reset : Stream :=
  { present := false, cls := .live, lanes := 1, quota := 1, demandMark := 0, expected := none,
    demandArmed := false, queue := [], counters := StreamCounters.reset }

/-- R56. -/
def Intake.reset : Intake :=
  { streams := Vector.replicate 16 Stream.reset, strayFrames := 0, malformedFrames := 0 }

/-- R82. -/
def TrackerEntry.reset : TrackerEntry :=
  { state := .unlocked, rho := 0, rawT := 0, rawL := 0, anchorT := 0, anchorL := 0, accepted := 0,
    outlierRun := 0, silence := 0, echoesAccepted := 0, outliers := 0, staleEchoes := 0,
    phaseSteps := 0, clamps := 0 }

/-- The defaults of Table 32. -/
def TrackingParams.reset : TrackingParams :=
  { g := 3, h := 2, outlierLimit := 256, phaseLimit := 16384, acquireCount := 4, staleLimit := 8,
    lostLimit := 64 }

/-- R82. -/
def Tracker.reset : Tracker :=
  { entries := Vector.replicate 40 TrackerEntry.reset, params := TrackingParams.reset }

/-- Table 41. -/
def ZoneDesc.reset : ZoneDesc :=
  { present := false, kind := .program, priority := 0, rank := 3, stream := none, primeDepth := 1,
    lead := 4, startLevel := 0, cueEntry := none, members := 0, overlayRole := none }

/-- Table 41: the air address is the speaker number plus 1. -/
def SpeakerDesc.reset (address : Nat) : SpeakerDesc :=
  { present := false, rank := 3, address := BitVec.ofNat 16 address, plannedZone := none,
    role := .mono }

/-- Table 41. -/
def Bank.reset : Bank :=
  { zones := Vector.replicate 8 ZoneDesc.reset
    speakers := ⟨⟨(List.range' 1 24).map SpeakerDesc.reset⟩, by simp⟩ }

/-- R106, Table 41. -/
def Plan.reset : Plan :=
  { active := Bank.reset, staged := Bank.reset, swapPending := false,
    trims := Vector.replicate 24 { gain := 16384, delay := 0 },
    accessed := Vector.replicate 24 false }

/-- R137. The priming-began block is DESIGN CHOICE (log entry 5). -/
def ZoneRun.reset : ZoneRun :=
  { state := .idle, runningLead := 4, runningPrime := 1, primingBegan := 0, gain := 0, target := 0,
    gainStep := 0, issueNumber := 0, prevKind := none, ring := [], issued := 0, repeats := 0,
    silents := 0 }

/-- R137. -/
def SpeakerRun.reset : SpeakerRun :=
  { zone := none, role := .mono, horizon := 0, rampPending := false, rampMarker := none,
    firstSends := 0, backfills := 0, overlaps := 0, cuts := 0 }

/-- R137. -/
def Playout.reset : Playout :=
  { zones := Vector.replicate 8 ZoneRun.reset, speakers := Vector.replicate 24 SpeakerRun.reset,
    tap := { state := .disarmed, buffer := [], overruns := 0 } }

/-- R152. -/
def Overlay.reset : Overlay :=
  { claimStacks := Vector.replicate 24 [],
    counters := Vector.replicate 8 { made := 0, outranked := 0, failed := 0 } }

/-- R171. -/
def CueRun.reset : CueRun :=
  { status := .stopped, pointer := 0, wait := 0, prescale := 0, prescaleCount := 0, loopCount := 0,
    loopStart := 0 }

/-- R171: every word a STOP, the word of all zeros (11.5). -/
def CueEngine.reset : CueEngine :=
  { memory := Vector.replicate 512 0, runs := Vector.replicate 8 CueRun.reset }

/-- Counters at 0 (R187). -/
def AirCounters.reset : AirCounters :=
  { drops := 0, lateDiscards := 0, cutPurges := 0, refillsMade := 0, refillsTooLate := 0 }

/-- R187. -/
def AirLink.reset : AirLink :=
  { up := false, sending := none, control := [], audio := [],
    counters := Vector.replicate 24 AirCounters.reset, controlSent := 0, audioSent := 0,
    controlDrops := 0, downDiscards := 0 }

/-- R202. -/
def SourceLink.reset : SourceLink :=
  { up := false, sending := none, reports := [], lossPending := false, reportsSent := 0,
    tapSent := 0, eventDrops := 0, replyDrops := 0 }

/-- Nothing is due before the first boundary (R2; the model's own, log entry 2). -/
def Agenda.reset : Agenda :=
  { beacon := none, election := false, marks := Vector.replicate 8 false, swap := false,
    swapTaken := false, zones := Vector.replicate 8 false, notices := Vector.replicate 40 false }

/-- The part right after the release of RST_N (R19, R35, R56, R82, R106, R137, R152, R171, R187,
R202), with no command waiting. -/
def State.reset : State :=
  { rstLow := false, timeline := Timeline.reset, store := CellStore.reset, intake := Intake.reset,
    tracker := Tracker.reset, plan := Plan.reset, playout := Playout.reset,
    overlay := Overlay.reset, cue := CueEngine.reset, air := AirLink.reset,
    source := SourceLink.reset, agenda := Agenda.reset, pending := [] }

end Sys2Proof.Machine
end

