-- ==== Sys2Proof/Decode.lean ====
section
/-! DEFINITION. From bytes to commands: the reception checks of R203 and the inbound frame bodies of
Tables 80, 81, 85 and 88, each field most significant byte first (5.4). `decodeTableWord` answers
none: no row of opcode_table.json has bits. The operand bytes of a directive are given in the other
direction too, so that the two can be held against each other. -/

namespace Sys2Proof

/-- No row of opcode_table.json gives bits, so no word spells a command. -/
def decodeTableWord (_nbits _w : Nat) : Option Instr := none

/-! ### Fields of a frame (5.4) -/

/-- The number that bytes spell, most significant byte first (5.4). -/
def fromBytes : List Byte → Nat → Nat
  | [], acc => acc
  | b :: rest, acc => fromBytes rest (acc * 256 + b.toNat)

/-- The `n` bytes of a number, most significant byte first (5.4). -/
def toBytes : Nat → Nat → List Byte
  | 0, _ => []
  | n + 1, v => BitVec.ofNat 8 (v / 256 ^ n) :: toBytes n v

/-- The field of `n` bytes at `offset`, as a bit vector of width `w`. -/
def fieldAt (w : Nat) (body : List Byte) (offset n : Nat) : BitVec w :=
  BitVec.ofNat w (fromBytes ((body.drop offset).take n) 0)

/-- The bytes taken three at a time as samples; an incomplete group at the end is left out. -/
def samplesOf : List Byte → List Sample
  | a :: b :: c :: rest => BitVec.ofNat 24 (fromBytes [a, b, c] 0) :: samplesOf rest
  | _ => []

/-- The bytes taken two at a time as issue numbers; an odd byte at the end is left out. -/
def issuesOf : List Byte → List SerialNo
  | a :: b :: rest => BitVec.ofNat 16 (fromBytes [a, b] 0) :: issuesOf rest
  | _ => []

/-- The bytes taken four at a time as cue words, or none when they do not come out even. -/
def cueWordsOf : List Byte → Option (List CueWord)
  | [] => some []
  | a :: b :: c :: d :: rest =>
      (cueWordsOf rest).map (BitVec.ofNat 32 (fromBytes [a, b, c, d] 0) :: ·)
  | _ => none

/-! ### Reception (R203, Table 79) -/

/-- The class code of SOURCE frames (Table 79). -/
def classSource : Byte := 0x01

/-- The class code of DIRECTIVE frames (Table 79). -/
def classDirective : Byte := 0x02

/-- The class code of ECHO frames (Table 79). -/
def classEcho : Byte := 0x14

/-- The length check of a SOURCE frame, from its body length and its lanes field (R203). -/
def sourceLengthPasses (length lanes : Nat) : Bool :=
  (length == 393 || length == 777) && (!(lanes == 1 || lanes == 2) || length == 9 + 384 * lanes)

/-- The length check of a DIRECTIVE frame (R203). -/
def directiveLengthPasses (length : Nat) : Bool := 4 ≤ length && length ≤ 134

/-- The length check of an ECHO frame, from its body length and its gap count field (R203). -/
def echoLengthPasses (length gapCount : Nat) : Bool := 11 ≤ length && length == 11 + 2 * gapCount

/-- The reception check of R203 on a raw frame. -/
def receptionPasses (link : Link) (cls : Byte) (body : List Byte) : Bool :=
  match link with
  | .source =>
      (cls == classSource && sourceLengthPasses body.length (fieldAt 8 body 7 1).toNat)
        || (cls == classDirective && directiveLengthPasses body.length)
  | .air => cls == classEcho && echoLengthPasses body.length (fieldAt 8 body 10 1).toNat

/-- The body length of a SOURCE frame (Table 80). -/
def SourceFrame.length (f : SourceFrame) : Nat := 9 + 3 * f.samples.length

/-- The reception check of R203 on a SOURCE frame. -/
def SourceFrame.received (f : SourceFrame) : Bool := sourceLengthPasses f.length f.lanes.toNat

/-- The END flag of a SOURCE frame, bit 0 of its flags (Table 80). -/
def SourceFrame.endFlag (f : SourceFrame) : Bool := f.flags.getLsbD 0

/-- The body length of an ECHO frame (Table 88). -/
def EchoFrame.length (f : EchoFrame) : Nat := 11 + 2 * f.issues.length

/-- The reception check of R203 on an ECHO frame. -/
def EchoFrame.received (f : EchoFrame) : Bool := echoLengthPasses f.length f.gapCount.toNat

/-- The RESYNC flag of an ECHO frame, bit 0 of its flags (Table 88). -/
def EchoFrame.resync (f : EchoFrame) : Bool := f.flags.getLsbD 0

/-- A SOURCE body read by Table 80. -/
def parseSource (body : List Byte) : SourceFrame :=
  { stream := fieldAt 8 body 0 1, seq := fieldAt 16 body 1 2, sourceIndex := fieldAt 32 body 3 4,
    lanes := fieldAt 8 body 7 1, flags := fieldAt 8 body 8 1, samples := samplesOf (body.drop 9) }

/-- An ECHO body read by Table 88. -/
def parseEcho (body : List Byte) : EchoFrame :=
  { address := fieldAt 16 body 0 2, beacon := fieldAt 16 body 2 2, count := fieldAt 32 body 4 4,
    flags := fieldAt 8 body 8 1, gapZone := fieldAt 8 body 9 1, gapCount := fieldAt 8 body 10 1,
    issues := issuesOf (body.drop 11) }

/-- The rank and tag of a DIRECTIVE body (Table 81): bits 7 to 2 of the rank byte are ignored. -/
def parseHeader (body : List Byte) : Header :=
  { rank := BitVec.ofNat 2 (fieldAt 8 body 1 1).toNat, tag := fieldAt 16 body 2 2 }

/-! ### Directives (Table 85) -/

/-- The directive of kind SET TIMEBASE that its mode byte makes it (Table 85, R204). -/
def timebaseDirective (d : Header) (mode : Byte) (tau candidates : BitVec 16) : Instr :=
  if mode = 1 then .setTimebaseFastest d tau candidates
  else .setTimebaseLocal d mode tau candidates

/-- The directive of kind STOP ZONE that its mode byte makes it (Table 85, R204). -/
def stopDirective (d : Header) (zone mode : Byte) : Instr :=
  if mode = 1 then .stopZoneHard d zone else .stopZoneSoft d zone mode

/-- A directive without operands. -/
def operands0 (i : Instr) (ops : List Byte) : Option Instr :=
  match ops with
  | [] => some i
  | _ => none

/-- A directive with one operand byte. -/
def operands1 (f : Byte → Instr) (ops : List Byte) : Option Instr :=
  match ops with
  | [a] => some (f a)
  | _ => none

/-- WRITE CUES: the start index, then 1 to 32 cue words (Table 85). -/
def parseWriteCues (d : Header) (ops : List Byte) : Option Instr :=
  match ops with
  | a :: b :: rest =>
      match cueWordsOf rest with
      | some words =>
          if 1 ≤ words.length ∧ words.length ≤ 32 then
            some (.writeCues d (BitVec.ofNat 16 (fromBytes [a, b] 0)) words)
          else none
      | none => none
  | _ => none

/-- The directive that a kind code and operand bytes spell by Table 85; none where the kind code names
no directive or the length is not that of the kind, the two cases that R190 refuses with FORM. -/
def parseDirective (kind : Byte) (d : Header) (ops : List Byte) : Option Instr :=
  match kind.toNat with
  | 0x01 => operands0 (.identify d) ops
  | 0x02 => operands0 (.queryDevice d) ops
  | 0x03 => operands0 (.restart d) ops
  | 0x10 =>
      if ops.length = 5 then
        some (timebaseDirective d (fieldAt 8 ops 0 1) (fieldAt 16 ops 1 2) (fieldAt 16 ops 3 2))
      else none
  | 0x11 => operands1 (.setBeacon d) ops
  | 0x12 =>
      if ops.length = 9 then
        some (.armMark d (fieldAt 8 ops 0 1) (fieldAt 48 ops 1 6) (fieldAt 8 ops 7 1)
          (fieldAt 8 ops 8 1))
      else none
  | 0x13 => operands1 (.disarmMark d) ops
  | 0x20 =>
      if ops.length = 7 then
        some (.openStream d (fieldAt 8 ops 0 1) (fieldAt 8 ops 1 1) (fieldAt 8 ops 2 1)
          (fieldAt 16 ops 3 2) (fieldAt 16 ops 5 2))
      else none
  | 0x21 => operands1 (.closeStream d) ops
  | 0x22 => operands1 (.flushStream d) ops
  | 0x23 => operands1 (.queryStream d) ops
  | 0x30 =>
      if ops.length = 16 then
        some (.stageZone d
          { zone := fieldAt 8 ops 0 1, present := fieldAt 8 ops 1 1, kind := fieldAt 8 ops 2 1,
            priority := fieldAt 8 ops 3 1, rank := fieldAt 8 ops 4 1, stream := fieldAt 8 ops 5 1,
            primeDepth := fieldAt 8 ops 6 1, lead := fieldAt 8 ops 7 1,
            startLevel := fieldAt 16 ops 8 2, cueEntry := fieldAt 16 ops 10 2,
            members := fieldAt 24 ops 12 3, overlayRole := fieldAt 8 ops 15 1 })
      else none
  | 0x31 =>
      if ops.length = 7 then
        some (.stageSpeaker d
          { speaker := fieldAt 8 ops 0 1, present := fieldAt 8 ops 1 1, rank := fieldAt 8 ops 2 1,
            address := fieldAt 16 ops 3 2, plannedZone := fieldAt 8 ops 5 1,
            role := fieldAt 8 ops 6 1 })
      else none
  | 0x32 => operands0 (.unstage d) ops
  | 0x33 => operands0 (.swap d) ops
  | 0x34 => operands1 (.queryZone d) ops
  | 0x35 => operands1 (.querySpeaker d) ops
  | 0x40 => operands1 (.startZone d) ops
  | 0x41 =>
      if ops.length = 2 then some (stopDirective d (fieldAt 8 ops 0 1) (fieldAt 8 ops 1 1)) else none
  | 0x42 =>
      if ops.length = 5 then
        some (.setLevel d (fieldAt 8 ops 0 1) (fieldAt 16 ops 1 2) (fieldAt 16 ops 3 2))
      else none
  | 0x43 =>
      if ops.length = 6 then
        some (.setTrim d (fieldAt 8 ops 0 1) (fieldAt 16 ops 1 2) (fieldAt 24 ops 3 3))
      else none
  | 0x44 => operands0 (.pollAccessed d) ops
  | 0x45 => operands1 (.resyncSpeaker d) ops
  | 0x50 =>
      if ops.length = 10 then
        some (.setTracking d
          { g := fieldAt 8 ops 0 1, h := fieldAt 8 ops 1 1, outlierLimit := fieldAt 16 ops 2 2,
            phaseLimit := fieldAt 24 ops 4 3, acquireCount := fieldAt 8 ops 7 1,
            staleLimit := fieldAt 8 ops 8 1, lostLimit := fieldAt 8 ops 9 1 })
      else none
  | 0x51 =>
      if ops.length = 4 then
        some (.setStore d (fieldAt 16 ops 0 2) (fieldAt 8 ops 2 1) (fieldAt 8 ops 3 1))
      else none
  | 0x52 => operands0 (.queryStore d) ops
  | 0x60 => parseWriteCues d ops
  | 0x61 =>
      if ops.length = 3 then some (.cueGo d (fieldAt 8 ops 0 1) (fieldAt 16 ops 1 2)) else none
  | 0x62 => operands1 (.cueHalt d) ops
  | 0x63 => operands1 (.cueResume d) ops
  | 0x64 =>
      if ops.length = 3 then some (.setPrescale d (fieldAt 8 ops 0 1) (fieldAt 16 ops 1 2)) else none
  | 0x70 => operands1 (.armTap d) ops
  | 0x71 => operands1 (.disarmTap d) ops
  | _ => none

/-- A DIRECTIVE frame as a command: the directive that it spells, or, where R190 refuses its form, the
frame of no directive. -/
def directiveOf (kind : Byte) (d : Header) (ops : List Byte) : Instr :=
  (parseDirective kind d ops).getD (.unknownDirectiveKind kind d ops)

/-- The kind code, header and operand bytes by which a directive is sent (Tables 81 and 85); none for
a command that is no directive. -/
def directiveBytes : Instr → Option (Byte × Header × List Byte)
  | .identify d => some (0x01, d, [])
  | .queryDevice d => some (0x02, d, [])
  | .restart d => some (0x03, d, [])
  | .setTimebaseLocal d mode tau cands =>
      some (0x10, d, [mode] ++ toBytes 2 tau.toNat ++ toBytes 2 cands.toNat)
  | .setTimebaseFastest d tau cands =>
      some (0x10, d, [1] ++ toBytes 2 tau.toNat ++ toBytes 2 cands.toNat)
  | .setBeacon d interval => some (0x11, d, [interval])
  | .armMark d slot block action zone =>
      some (0x12, d, [slot] ++ toBytes 6 block.toNat ++ [action, zone])
  | .disarmMark d slot => some (0x13, d, [slot])
  | .openStream d stream cls lanes quota mark =>
      some (0x20, d, [stream, cls, lanes] ++ toBytes 2 quota.toNat ++ toBytes 2 mark.toNat)
  | .closeStream d stream => some (0x21, d, [stream])
  | .flushStream d stream => some (0x22, d, [stream])
  | .queryStream d stream => some (0x23, d, [stream])
  | .stageZone d o =>
      some (0x30, d, [o.zone, o.present, o.kind, o.priority, o.rank, o.stream, o.primeDepth, o.lead]
        ++ toBytes 2 o.startLevel.toNat ++ toBytes 2 o.cueEntry.toNat ++ toBytes 3 o.members.toNat
        ++ [o.overlayRole])
  | .stageSpeaker d o =>
      some (0x31, d, [o.speaker, o.present, o.rank] ++ toBytes 2 o.address.toNat
        ++ [o.plannedZone, o.role])
  | .unstage d => some (0x32, d, [])
  | .swap d => some (0x33, d, [])
  | .queryZone d zone => some (0x34, d, [zone])
  | .querySpeaker d speaker => some (0x35, d, [speaker])
  | .startZone d zone => some (0x40, d, [zone])
  | .stopZoneSoft d zone mode => some (0x41, d, [zone, mode])
  | .stopZoneHard d zone => some (0x41, d, [zone, 1])
  | .setLevel d zone target gainStep =>
      some (0x42, d, [zone] ++ toBytes 2 target.toNat ++ toBytes 2 gainStep.toNat)
  | .setTrim d speaker gain delay =>
      some (0x43, d, [speaker] ++ toBytes 2 gain.toNat ++ toBytes 3 delay.toNat)
  | .pollAccessed d => some (0x44, d, [])
  | .resyncSpeaker d speaker => some (0x45, d, [speaker])
  | .setTracking d o =>
      some (0x50, d, [o.g, o.h] ++ toBytes 2 o.outlierLimit.toNat ++ toBytes 3 o.phaseLimit.toNat
        ++ [o.acquireCount, o.staleLimit, o.lostLimit])
  | .setStore d mark reserve margin =>
      some (0x51, d, toBytes 2 mark.toNat ++ [reserve, margin])
  | .queryStore d => some (0x52, d, [])
  | .writeCues d start words =>
      some (0x60, d, toBytes 2 start.toNat ++ words.flatMap (fun w => toBytes 4 w.toNat))
  | .cueGo d zone index => some (0x61, d, [zone] ++ toBytes 2 index.toNat)
  | .cueHalt d zone => some (0x62, d, [zone])
  | .cueResume d zone => some (0x63, d, [zone])
  | .setPrescale d zone prescale => some (0x64, d, [zone] ++ toBytes 2 prescale.toNat)
  | .armTap d zone => some (0x70, d, [zone])
  | .disarmTap d zone => some (0x71, d, [zone])
  | .unknownDirectiveKind kind d ops => some (kind, d, ops)
  | .rstNRelease => none
  | .blockBoundary _ _ => none
  | .beacon _ => none
  | .election => none
  | .markFiring _ => none
  | .waitRunsOut _ => none
  | .silenceStale _ => none
  | .silenceLost _ => none
  | .sourceFrame _ => none
  | .echo _ => none
  | .sourceLinkDown => none
  | .sourceLinkUp => none
  | .airLinkDown => none
  | .airLinkUp => none
  | .airSendComplete => none
  | .sourceSendComplete => none
  | .malformedFrame _ _ _ => none
  | .rstNAssertion => none

end Sys2Proof
end

