-- ==== Sys2Proof/Machine/Operands.lean ====
section
/-! DEFINITION. Operand forms: the index checks and codes of R204, clamping and the three roundings of
5.2, serial comparison (5.3), and the numbered objects in ascending order. -/

namespace Sys2Proof.Machine

open Sys2Proof

/-! ### Rounding and clamping (5.2) -/

/-- A number clamped to a range (5.2). -/
def clampNat (lo hi v : Nat) : Nat := if v < lo then lo else if hi < v then hi else v

/-- A number clamped to a range (5.2). -/
def clampInt (lo hi v : Int) : Int := if v < lo then lo else if hi < v then hi else v

/-- "truncate": the quotient rounded toward zero (5.2). -/
def truncDiv (a b : Int) : Int := a.tdiv b

/-- "floor": the quotient rounded toward minus infinity (5.2). -/
def floorDiv (a b : Int) : Int := a.fdiv b

/-- "round": the nearest integer, halves away from zero, for a positive divisor (5.2). -/
def roundDiv (a b : Int) : Int :=
  if 0 ≤ a then (2 * a + b).fdiv (2 * b) else -((2 * -a + b).fdiv (2 * b))

/-- ρ and τ held within −8192 to +8192 du (R3, R58). -/
def clampRate (v : Int) : Int := clampInt (-Config.rateLimit) Config.rateLimit v

/-- How far a serial number lies ahead of another (5.3). -/
def serialDistance (a b : SerialNo) : Nat := (a - b).toNat

/-- Serial "behind": a distance of 32768 to 65535 (5.3). -/
def serialBehind (a b : SerialNo) : Bool := decide (32768 ≤ serialDistance a b)

/-! ### Index checks: what is out of range answers none, for INDEX (Table 71) -/

/-- A zone operand (above 7 out of range). -/
def zoneIndex (b : Byte) : Option ZoneNo :=
  if h : b.toNat < 8 then some ⟨b.toNat, h⟩ else none

/-- A speaker operand (above 23 out of range). -/
def speakerIndex (b : Byte) : Option SpeakerNo :=
  if h : b.toNat < 24 then some ⟨b.toNat, h⟩ else none

/-- A stream operand (above 15 out of range). -/
def streamIndex (b : Byte) : Option StreamNo :=
  if h : b.toNat < 16 then some ⟨b.toNat, h⟩ else none

/-- A mark slot operand (above 7 out of range). -/
def markIndex (b : Byte) : Option MarkNo :=
  if h : b.toNat < 8 then some ⟨b.toNat, h⟩ else none

/-- A cue index operand (above 511 out of range). -/
def cueIndex (v : BitVec 16) : Option CueIndex :=
  if v.toNat < 512 then some (BitVec.ofNat 9 v.toNat) else none

/-- A zone operand in which 0xFF stands for none (R204); the outer none is out of range. -/
def optZoneIndex (b : Byte) : Option (Option ZoneNo) :=
  if b = 0xFF then some none else (zoneIndex b).map some

/-- A stream operand in which 0xFF stands for none (R204); the outer none is out of range. -/
def optStreamIndex (b : Byte) : Option (Option StreamNo) :=
  if b = 0xFF then some none else (streamIndex b).map some

/-- A cue index operand in which 0xFFFF stands for none (R204); the outer none is out of range. -/
def optCueIndex (v : BitVec 16) : Option (Option CueIndex) :=
  if v = 0xFFFF then some none else (cueIndex v).map some

/-! ### Codes (R204): what is in no list answers none, for VALUE -/

/-- Role codes. -/
def roleOf (b : Byte) : Option Role :=
  match b.toNat with
  | 0 => some .left
  | 1 => some .right
  | 2 => some .mono
  | 3 => some .low
  | _ => none

/-- Zone kind codes. -/
def zoneKindOf (b : Byte) : Option ZoneKind :=
  match b.toNat with
  | 0 => some .program
  | 1 => some .overlay
  | _ => none

/-- Stream class codes. -/
def streamClassOf (b : Byte) : Option StreamClass :=
  match b.toNat with
  | 0 => some .live
  | 1 => some .paced
  | _ => none

/-- Timebase mode codes. -/
def timebaseModeOf (b : Byte) : Option TimebaseMode :=
  match b.toNat with
  | 0 => some .localMode
  | 1 => some .fastest
  | _ => none

/-- Mark action codes. -/
def markActionOf (b : Byte) : Option MarkAction :=
  match b.toNat with
  | 0 => some .notify
  | 1 => some .swap
  | 2 => some .start
  | 3 => some .stop
  | _ => none

/-- STOP ZONE mode codes: `some true` is HARD. -/
def stopModeOf (b : Byte) : Option Bool :=
  match b.toNat with
  | 0 => some false
  | 1 => some true
  | _ => none

/-- A present operand: 0 means no, any other value yes (R204). -/
def presentOf (b : Byte) : Bool := b != 0

/-! ### The numbered objects, ascending -/

/-- Zones 0 to 7. -/
def allZones : List ZoneNo := [0, 1, 2, 3, 4, 5, 6, 7]

/-- Marks 0 to 7. -/
def allMarks : List MarkNo := [0, 1, 2, 3, 4, 5, 6, 7]

/-- Streams 0 to 15. -/
def allStreams : List StreamNo := [0, 1, 2, 3, 4, 5, 6, 7, 8, 9, 10, 11, 12, 13, 14, 15]

/-- Speakers 0 to 23. -/
def allSpeakers : List SpeakerNo :=
  [0, 1, 2, 3, 4, 5, 6, 7, 8, 9, 10, 11, 12, 13, 14, 15, 16, 17, 18, 19, 20, 21, 22, 23]

/-- Tracker entries 0 to 39. -/
def allEntries : List EntryNo :=
  [0, 1, 2, 3, 4, 5, 6, 7, 8, 9, 10, 11, 12, 13, 14, 15, 16, 17, 18, 19, 20, 21, 22, 23, 24, 25, 26,
   27, 28, 29, 30, 31, 32, 33, 34, 35, 36, 37, 38, 39]

/-- The tracker entry of a speaker (R58). -/
def speakerEntry (s : SpeakerNo) : EntryNo := ⟨s.val, by omega⟩

/-- The tracker entry of a stream (R58). -/
def streamEntry (s : StreamNo) : EntryNo := ⟨24 + s.val, by omega⟩

/-- The speaker of a tracker entry; none for a stream's entry (R58). -/
def entrySpeaker (e : EntryNo) : Option SpeakerNo :=
  if h : e.val < 24 then some ⟨e.val, h⟩ else none

end Sys2Proof.Machine
end

