-- ==== Sys2Proof/Machine/Flags.lean ====
section
/-! DEFINITION. Status, flag and code values: the saturating counters, the reply status of a clamped
directive, the codes that payloads carry (R204, Table 83), and the widths of Table 86. -/

namespace Sys2Proof.Machine

open Sys2Proof

/-- A 32-bit counter increased by `k`, saturating (R48 and elsewhere). -/
def bump (n k : Nat) : Nat := min (n + k) Config.counterMax

/-- The reply status of a taken directive: CLAMPED when a value was limited, else OK. -/
def takenStatus (clamped : Bool) : Status := if clamped then .clamped else .ok

/-! ### Codes of payload fields (R204) -/

/-- Status codes (Table 83). -/
def Status.code : Status → Nat
  | .ok => 0
  | .clamped => 1
  | .rank => 2
  | .absent => 3
  | .busy => 4
  | .bound => 5
  | .index => 6
  | .value => 7
  | .form => 8

/-- The report kind code of an event (Table 83). -/
def EventCode.kind : EventCode → Nat
  | .zonePlaying => 1
  | .zoneEnded => 1
  | .zoneStarved => 1
  | .streamDemand => 2
  | .streamOverrun => 2
  | .streamStoreDrop => 2
  | .speakerLocked => 3
  | .speakerStale => 3
  | .speakerLost => 3
  | .speakerRecovered => 3
  | .speakerReacquire => 3
  | .speakerPhaseStep => 3
  | .storeDepletion => 4
  | .claimOutranked => 5
  | .claimFailed => 5
  | .cueNote => 6
  | .cueFault => 6
  | .markFired => 7
  | .markLate => 7
  | .markActionRefused => 7
  | .markMerged => 7
  | .swapDone => 8
  | .swapRefused => 8
  | .timebaseElected => 9
  | .timebaseNoCandidate => 9
  | .tapEnd => 10

/-- The code of an event within its kind (Table 83). -/
def EventCode.code : EventCode → Nat
  | .zonePlaying => 0
  | .zoneEnded => 1
  | .zoneStarved => 2
  | .streamDemand => 0
  | .streamOverrun => 1
  | .streamStoreDrop => 2
  | .speakerLocked => 0
  | .speakerStale => 1
  | .speakerLost => 2
  | .speakerRecovered => 3
  | .speakerReacquire => 4
  | .speakerPhaseStep => 5
  | .storeDepletion => 0
  | .claimOutranked => 0
  | .claimFailed => 1
  | .cueNote => 0
  | .cueFault => 1
  | .markFired => 0
  | .markLate => 1
  | .markActionRefused => 2
  | .markMerged => 3
  | .swapDone => 0
  | .swapRefused => 1
  | .timebaseElected => 0
  | .timebaseNoCandidate => 1
  | .tapEnd => 0

/-- Role codes. -/
def Role.code : Role → Nat
  | .left => 0
  | .right => 1
  | .mono => 2
  | .low => 3

/-- Zone kind codes. -/
def ZoneKind.code : ZoneKind → Nat
  | .program => 0
  | .overlay => 1

/-- Stream class codes. -/
def StreamClass.code : StreamClass → Nat
  | .live => 0
  | .paced => 1

/-- Timebase mode codes. -/
def TimebaseMode.code : TimebaseMode → Nat
  | .localMode => 0
  | .fastest => 1

/-- Mark action codes. -/
def MarkAction.code : MarkAction → Nat
  | .notify => 0
  | .swap => 1
  | .start => 2
  | .stop => 3

/-- Tracker state codes. -/
def TrackState.code : TrackState → Nat
  | .unlocked => 0
  | .acquiring => 1
  | .locked => 2
  | .stale => 3

/-- Zone state codes. -/
def ZoneState.code : ZoneState → Nat
  | .idle => 0
  | .priming => 1
  | .playing => 2
  | .draining => 3

/-- Cue state codes. -/
def CueStatus.code : CueStatus → Nat
  | .running => 0
  | .halted => 1
  | .stopped => 2
  | .faulted => 3

/-- Tap state codes. -/
def TapState.code : TapState → Nat
  | .disarmed => 0
  | .armed _ => 1
  | .active _ => 2

/-- The zone that the tap names. -/
def TapState.zone : TapState → Option ZoneNo
  | .disarmed => none
  | .armed z => some z
  | .active z => some z

/-- Entry kind codes; 3 stands for none. -/
def entryKindCode : Option EntryKind → Nat
  | some .normal => 0
  | some .repeated => 1
  | some .silent => 2
  | none => 3

/-- A flag: 1 where it is set, 0 where it is clear. Of a flag that has a byte of a payload to itself R204 names no
byte; it is sent so (DEDUCED, log entry 24). -/
def flagCode (b : Bool) : Nat := if b then 1 else 0

/-! ### Fields by their width (Table 86) -/

/-- A field of one byte. -/
def f1 (v : Nat) : Field := { width := 1, value := v }

/-- The queue count of a stream, a count and so one byte (Table 86); the byte of a count that one byte does
not hold is a free value (DESIGN CHOICE, log entry 21). -/
def fQueueCount (n : Nat) : Field :=
  f1 (if n < 256 then n else (Config.wideCountByte n).toNat)

/-- A field of two bytes. -/
def f2 (v : Nat) : Field := { width := 2, value := v }

/-- A field of three bytes. -/
def f3 (v : Nat) : Field := { width := 3, value := v }

/-- A field of four bytes. -/
def f4 (v : Nat) : Field := { width := 4, value := v }

/-- A field of six bytes: T, a block number or a presentation block. -/
def f6 (v : Nat) : Field := { width := 6, value := v }

/-- A signed field of two bytes: ρ, τ or an applied change. -/
def fRate (v : Int) : Field := { width := 2, value := v }

/-- A signed field of four bytes: ε. -/
def fPhase (v : Int) : Field := { width := 4, value := v }

/-- A yes or no of a payload: the link states, transmit sides and causes by R204, the flags by log entry 24
(DEDUCED). -/
def fFlag (b : Bool) : Field := f1 (flagCode b)

/-- A zone, stream or speaker field in which 0xFF stands for none (R204). -/
def fIndex {n : Nat} (i : Option (Fin n)) : Field :=
  match i with
  | some i => f1 i.val
  | none => f1 0xFF

/-- A value that may be absent: its presence byte, then the value in full width, 0 when absent
(R204). -/
def fOptional (width : Nat) (v : Option Nat) : List Field :=
  match v with
  | some v => [f1 1, { width := width, value := v }]
  | none => [f1 0, { width := width, value := 0 }]

/-- A set of speakers as a 24-bit value, bit s for speaker s (Table 85). -/
def speakerSet (l : List SpeakerNo) : Nat :=
  l.foldl (fun acc s => acc + 2 ^ s.val) 0

end Sys2Proof.Machine
end

