-- ==== Sys2Proof/Machine/Ops.lean ====
section
/-! DEFINITION. The named operations over tables and state: reading one element of a table, changing
one element, and which commands reach the part at all (R1, R183, R199). -/

namespace Sys2Proof.Machine

open Sys2Proof

/-! ### Tables -/

/-- One element of a table. -/
def tblGet {α : Type} {n : Nat} (t : Vector α n) (i : Fin n) : α := t[i]

/-- A table with one element replaced. -/
def tblSet {α : Type} {n : Nat} (t : Vector α n) (i : Fin n) (x : α) : Vector α n :=
  t.set i.val x i.isLt

/-- A table with one element changed. -/
def tblMod {α : Type} {n : Nat} (t : Vector α n) (i : Fin n) (f : α → α) : Vector α n :=
  tblSet t i (f (tblGet t i))

/-- A table with every element changed. -/
def tblMap {α β : Type} {n : Nat} (t : Vector α n) (f : α → β) : Vector β n :=
  ⟨⟨t.toList.map f⟩, by simp⟩

/-! ### Reading the state -/

/-- The current block number (R2). -/
def State.block (s : State) : Nat := s.timeline.block

/-- The runtime state of a zone. -/
def State.zone (s : State) (z : ZoneNo) : ZoneRun := tblGet s.playout.zones z

/-- The runtime state of a speaker. -/
def State.speaker (s : State) (sp : SpeakerNo) : SpeakerRun := tblGet s.playout.speakers sp

/-- A tracker entry. -/
def State.entry (s : State) (e : EntryNo) : TrackerEntry := tblGet s.tracker.entries e

/-- A stream descriptor. -/
def State.stream (s : State) (st : StreamNo) : Stream := tblGet s.intake.streams st

/-- The cue state of a zone. -/
def State.cueRun (s : State) (z : ZoneNo) : CueRun := tblGet s.cue.runs z

/-- A mark slot. -/
def State.mark (s : State) (k : MarkNo) : Mark := tblGet s.timeline.marks k

/-- The active descriptor of a zone. -/
def State.activeZone (s : State) (z : ZoneNo) : ZoneDesc := tblGet s.plan.active.zones z

/-- The active descriptor of a speaker. -/
def State.activeSpeaker (s : State) (sp : SpeakerNo) : SpeakerDesc :=
  tblGet s.plan.active.speakers sp

/-- The trims of a speaker. -/
def State.trim (s : State) (sp : SpeakerNo) : Trim := tblGet s.plan.trims sp

/-- The Claim Stack of a speaker, top first. -/
def State.claimStack (s : State) (sp : SpeakerNo) : List CellNo := tblGet s.overlay.claimStacks sp

/-- The contents of a cell. -/
def State.cell (s : State) (c : CellNo) : Cell := tblGet s.store.cells c

/-- The contents of an AUDIO cell. -/
def State.audioCell (s : State) (c : CellNo) : Option AudioCell :=
  match s.cell c with
  | .audio a => some a
  | .claim _ => none
  | .blank => none

/-- The contents of a CLAIM cell. -/
def State.claimCell (s : State) (c : CellNo) : Option ClaimCell :=
  match s.cell c with
  | .claim a => some a
  | .audio _ => none
  | .blank => none

/-- The free count: the number of cells in the free list (2.1). -/
def State.freeCount (s : State) : Nat := s.store.freeList.length

/-- The speakers present in the active plan, ascending. -/
def State.presentSpeakers (s : State) : List SpeakerNo :=
  allSpeakers.filter (fun sp => (s.activeSpeaker sp).present)

/-- The next cell after `c` in a chain: the link field of `c` (2.2). -/
def nextInChain (c : CellNo) : List CellNo → Option CellNo
  | [] => none
  | [_] => none
  | a :: b :: rest => if a = c then some b else nextInChain c (b :: rest)

/-- The link field of a cell (2.2): the next cell of the free list, queue or Claim Stack that holds it;
none at a chain's end and in an Issue Ring. -/
def State.linkOf (s : State) (c : CellNo) : Option CellNo :=
  let chains := s.store.freeList :: (allStreams.map (fun st => (s.stream st).queue))
    ++ allSpeakers.map s.claimStack
  chains.findSome? (nextInChain c)

/-! ### Changing the state -/

/-- The Timeline changed. -/
def State.modTimeline (s : State) (f : Timeline → Timeline) : State :=
  { s with timeline := f s.timeline }

/-- The Cell Store changed. -/
def State.modStore (s : State) (f : CellStore → CellStore) : State := { s with store := f s.store }

/-- Stream Intake changed. -/
def State.modIntake (s : State) (f : Intake → Intake) : State := { s with intake := f s.intake }

/-- The Clock Tracker changed. -/
def State.modTracker (s : State) (f : Tracker → Tracker) : State := { s with tracker := f s.tracker }

/-- The Plan changed. -/
def State.modPlan (s : State) (f : Plan → Plan) : State := { s with plan := f s.plan }

/-- Zone Playout changed. -/
def State.modPlayout (s : State) (f : Playout → Playout) : State := { s with playout := f s.playout }

/-- The Overlay unit changed. -/
def State.modOverlay (s : State) (f : Overlay → Overlay) : State := { s with overlay := f s.overlay }

/-- The Cue Engine changed. -/
def State.modCueEngine (s : State) (f : CueEngine → CueEngine) : State := { s with cue := f s.cue }

/-- The Air Link changed. -/
def State.modAir (s : State) (f : AirLink → AirLink) : State := { s with air := f s.air }

/-- The Source Link changed. -/
def State.modSource (s : State) (f : SourceLink → SourceLink) : State :=
  { s with source := f s.source }

/-- The agenda changed. -/
def State.modAgenda (s : State) (f : Agenda → Agenda) : State := { s with agenda := f s.agenda }

/-- One zone's runtime state changed. -/
def State.modZone (s : State) (z : ZoneNo) (f : ZoneRun → ZoneRun) : State :=
  s.modPlayout fun p => { p with zones := tblMod p.zones z f }

/-- One speaker's runtime state changed. -/
def State.modSpeaker (s : State) (sp : SpeakerNo) (f : SpeakerRun → SpeakerRun) : State :=
  s.modPlayout fun p => { p with speakers := tblMod p.speakers sp f }

/-- The tap changed. -/
def State.modTap (s : State) (f : Tap → Tap) : State :=
  s.modPlayout fun p => { p with tap := f p.tap }

/-- One tracker entry changed. -/
def State.modEntry (s : State) (e : EntryNo) (f : TrackerEntry → TrackerEntry) : State :=
  s.modTracker fun t => { t with entries := tblMod t.entries e f }

/-- One stream descriptor changed. -/
def State.modStream (s : State) (st : StreamNo) (f : Stream → Stream) : State :=
  s.modIntake fun i => { i with streams := tblMod i.streams st f }

/-- One zone's cue state changed. -/
def State.modCueRun (s : State) (z : ZoneNo) (f : CueRun → CueRun) : State :=
  s.modCueEngine fun c => { c with runs := tblMod c.runs z f }

/-- One mark slot changed. -/
def State.modMark (s : State) (k : MarkNo) (f : Mark → Mark) : State :=
  s.modTimeline fun t => { t with marks := tblMod t.marks k f }

/-- One speaker's Claim Stack replaced. -/
def State.setClaimStack (s : State) (sp : SpeakerNo) (l : List CellNo) : State :=
  s.modOverlay fun o => { o with claimStacks := tblSet o.claimStacks sp l }

/-- One zone's claim counters changed. -/
def State.modClaimCounters (s : State) (z : ZoneNo) (f : ClaimCounters → ClaimCounters) : State :=
  s.modOverlay fun o => { o with counters := tblMod o.counters z f }

/-- One speaker's air counters changed. -/
def State.modAirCounters (s : State) (sp : SpeakerNo) (f : AirCounters → AirCounters) : State :=
  s.modAir fun a => { a with counters := tblMod a.counters sp f }

/-- A cell's contents written. -/
def State.setCell (s : State) (c : CellNo) (x : Cell) : State :=
  s.modStore fun st => { st with cells := tblSet st.cells c x }

/-- A speaker's accessed flag written. -/
def State.setAccessed (s : State) (sp : SpeakerNo) (b : Bool) : State :=
  s.modPlan fun p => { p with accessed := tblSet p.accessed sp b }

/-- A work of the boundary taken in turn for each of a list of objects. -/
def State.forEach {α : Type} (s : State) (l : List α) (f : α → State → State) : State :=
  l.foldl (fun s a => f a s) s

/-- The device stray frame counter increased (R42, R180). -/
def State.countStray (s : State) : State :=
  s.modIntake fun i => { i with strayFrames := bump i.strayFrames 1 }

/-- The device malformed frame counter increased (R43, R180, R203). -/
def State.countMalformed (s : State) : State :=
  s.modIntake fun i => { i with malformedFrames := bump i.malformedFrames 1 }

/-! ### What reaches the part -/

/-- The outcome of a command: the next state. -/
abbrev Result := Host.Outcome State Fault Refusal

/-- An event of the part's own: none comes about while RST_N is held low (R1, 7 of the introduction;
log entry 4). -/
def State.awake (s : State) (f : State → State) : Result :=
  .next (if s.rstLow then s else f s)

/-- A frame on the Source Link: none is received while the link is DOWN (R189, R199) or RST_N is held
low. -/
def State.onSource (s : State) (f : State → State) : Result :=
  .next (if s.rstLow || !s.source.up then s else f s)

/-- A frame on the Air Link: none is received while the link is DOWN (R183) or RST_N is held low. -/
def State.onAir (s : State) (f : State → State) : Result :=
  .next (if s.rstLow || !s.air.up then s else f s)

end Sys2Proof.Machine
end

