-- ==== Sys2Proof/Machine/AirQueue.lean ====
section
/-! DEFINITION. The transmit queue of the Air Link (chapter 9): hand-offs, the full queue, the purge of
a CUT, the selection with its late judgement, and the completion of a send. -/

namespace Sys2Proof.Machine

open Sys2Proof

/-- The queue count: the frames waiting in both classes (R173). -/
def AirLink.queueCount (a : AirLink) : Nat := a.control.length + a.audio.length

/-- A frame discarded for a DOWN link (R183). -/
def countDown (k : Nat) (s : State) : State :=
  s.modAir fun a => { a with downDiscards := bump a.downDiscards k }

/-- A frame of a speaker displaced or not queued (R176 to R178). -/
def countAirDrop (sp : SpeakerNo) (s : State) : State :=
  s.modAirCounters sp fun c => { c with drops := bump c.drops 1 }

/-- Whether an audio-class frame is late at block `m` (R175). -/
def AudioItem.late (i : AudioItem) (m margin : Nat) : Bool := decide (i.block < m + margin)

/-- The late frames at the head of the audio class are discarded and counted; the first frame that is
not late is selected (R174 step 2, R175). -/
def selectAudio : List AudioItem → State → State
  | [], s => s.modAir fun a => { a with audio := [] }
  | i :: rest, s =>
      if i.late s.block s.store.refillMargin then
        selectAudio rest
          (s.modAirCounters i.speaker fun c => { c with lateDiscards := bump c.lateDiscards 1 })
      else s.modAir fun a => { a with audio := rest, sending := some (.audio i) }

/-- A selection on the Air Link (R174): on a FREE side of an UP link the oldest control frame, or else
the first audio-class frame that is not late. -/
def selectAir (s : State) : State :=
  if s.air.up && s.air.sending.isNone then
    match s.air.control with
    | f :: rest => s.modAir fun a => { a with control := rest, sending := some (.control f) }
    | [] => selectAudio s.air.audio s
  else s

/-- A control frame joins the tail of its class. -/
def queueControl (f : ControlFrame) (s : State) : State :=
  s.modAir fun a => { a with control := a.control ++ [f] }

/-- A control frame placed in the queue of an UP link (R173, R176). -/
def placeControl (f : ControlFrame) (s : State) : State :=
  if s.air.queueCount < Config.airCapacity then queueControl f s
  else
    match s.air.audio.getLast? with
    | some newest =>
        queueControl f
          (countAirDrop newest.speaker (s.modAir fun a => { a with audio := a.audio.dropLast }))
    | none => s.modAir fun a => { a with controlDrops := bump a.controlDrops 1 }

/-- A BEACON handed to the Air Link (R173, R176, R183). -/
def handBeacon (number : SerialNo) (block interval : Nat) (s : State) : State :=
  if s.air.up then selectAir (placeControl (.beacon number block interval) s)
  else countDown 1 s

/-- Whether a CUT purges an audio-class frame (R179). -/
def AudioItem.purgedBy (i : AudioItem) (address : AirAddress) (cutBlock : Nat) : Bool :=
  i.frame.address == address && decide (cutBlock ≤ i.block)

/-- The purge of a CUT of speaker `sp` (R179). -/
def purge (sp : SpeakerNo) (address : AirAddress) (cutBlock : Nat) (s : State) : State :=
  let gone := s.air.audio.filter (·.purgedBy address cutBlock)
  (s.modAir fun a => { a with audio := a.audio.filter fun i => !i.purgedBy address cutBlock })
    |>.modAirCounters sp fun c => { c with cutPurges := bump c.cutPurges gone.length }

/-- A CUT of speaker `sp` handed to the Air Link (R173, R176, R179, R183). -/
def handCut (sp : SpeakerNo) (address : AirAddress) (stamp : LocalCount) (cutBlock : Nat)
    (s : State) : State :=
  if s.air.up then
    selectAir (placeControl (.cut address stamp) (purge sp address cutBlock s))
  else countDown 1 s

/-- A BACKFILL or REFILL frame. -/
def AudioItem.isExtra (i : AudioItem) : Bool := i.frame.audioKind != .firstSend

/-- The audio class without its newest BACKFILL or REFILL (R177). -/
def dropNewestExtra (l : List AudioItem) : List AudioItem :=
  (l.reverse.eraseP AudioItem.isExtra).reverse

/-- An audio-class frame joins the tail of its class. -/
def queueAudio (i : AudioItem) (s : State) : State :=
  s.modAir fun a => { a with audio := a.audio ++ [i] }

/-- An audio-class frame placed in the queue of an UP link (R173, R177, R178). -/
def placeAudio (i : AudioItem) (s : State) : State :=
  if s.air.queueCount < Config.airCapacity then queueAudio i s
  else if i.isExtra then countAirDrop i.speaker s
  else
    match s.air.audio.reverse.find? AudioItem.isExtra with
    | some shed =>
        queueAudio i
          (countAirDrop shed.speaker (s.modAir fun a => { a with audio := dropNewestExtra a.audio }))
    | none => countAirDrop i.speaker s

/-- An audio-class frame handed to the Air Link (R173, R177, R178, R183). -/
def handAudio (i : AudioItem) (s : State) : State :=
  if s.air.up then selectAir (placeAudio i s) else countDown 1 s

/-- The completion of a send on the Air Link (R174). -/
def completeAir (s : State) : State :=
  match s.air.sending with
  | none => s
  | some (.control _) =>
      selectAir (s.modAir fun a => { a with sending := none, controlSent := bump a.controlSent 1 })
  | some (.audio _) =>
      selectAir (s.modAir fun a => { a with sending := none, audioSent := bump a.audioSent 1 })

/-- The Air Link goes DOWN (R183). -/
def airDown (s : State) : State :=
  if s.air.up then
    s.modAir fun a =>
      { a with
        up := false, sending := none, control := [], audio := []
        downDiscards :=
          bump a.downDiscards (a.queueCount + (if a.sending.isSome then 1 else 0)) }
  else s

/-- The Air Link comes UP (R184). -/
def airUp (s : State) : State :=
  if s.air.up then s
  else s.modAir fun a => { a with up := true, sending := none, control := [], audio := [] }

/-- The Air Link's share of RESTART (R188): the queue emptied uncounted. -/
def restartAir (s : State) : State := s.modAir fun a => { a with control := [], audio := [] }

end Sys2Proof.Machine
end

