-- ==== Sys2Proof/Machine/Reports.lean ====
section
/-! DEFINITION. The Report Queue and the transmit side of the Source Link (chapter 10): offering a
report (R195, R196), the selection (R197), and the reply of a directive (R192). -/

namespace Sys2Proof.Machine

open Sys2Proof

/-- An event report of this code and subject (kind, code and subject of R195). -/
def Report.isEvent (r : Report) (code : EventCode) (subject : Nat) : Bool :=
  r.sort == .event code subject

/-- An event report of any code. -/
def Report.isAnyEvent (r : Report) : Bool :=
  match r.sort with
  | .event _ _ => true
  | .reply _ _ _ => false
  | .ready => false

/-- A queued report after an equal one has merged into it (R195 step 1). -/
def Report.merged (r : Report) (payload : List Field) (block : Nat) : Report :=
  { r with count := min 255 (r.count + 1), payload := payload, block := block }

/-- A report takes a new entry at the tail; it carries the LOSS flag when loss is pending, which that
clears (R195 step 2, R196). -/
def SourceLink.enter (l : SourceLink) (sort : ReportSort) (payload : List Field) (block : Nat) :
    SourceLink :=
  { l with
    reports := l.reports ++
      [{ sort := sort, count := 1, block := block, payload := payload, loss := l.lossPending }]
    lossPending := false }

/-- An event report offered: merged, entered or lost (R195, R196). -/
def SourceLink.offerEvent (l : SourceLink) (code : EventCode) (subject : Nat)
    (payload : List Field) (block : Nat) : SourceLink :=
  if l.reports.any (·.isEvent code subject) then
    { l with
      reports := l.reports.map fun r =>
        if r.isEvent code subject then r.merged payload block else r }
  else if l.reports.length < Config.reportCapacity then l.enter (.event code subject) payload block
  else { l with eventDrops := bump l.eventDrops 1, lossPending := true }

/-- The queue without its newest event report (R196). -/
def dropNewestEvent (reports : List Report) : List Report :=
  (reports.reverse.eraseP Report.isAnyEvent).reverse

/-- A REPLY or READY offered: entered, in place of the newest event report if need be, or lost
(R195, R196). -/
def SourceLink.offerFirm (l : SourceLink) (sort : ReportSort) (payload : List Field) (block : Nat) :
    SourceLink :=
  if l.reports.length < Config.reportCapacity then l.enter sort payload block
  else if l.reports.any Report.isAnyEvent then
    ({ l with
       reports := dropNewestEvent l.reports
       eventDrops := bump l.eventDrops 1
       lossPending := true } : SourceLink).enter sort payload block
  else { l with replyDrops := bump l.replyDrops 1, lossPending := true }

/-- A selection on the Source Link (R197): on a FREE side of an UP link the oldest report, or else the
oldest tap block, begins to be sent. -/
def selectSource (s : State) : State :=
  if s.source.up && s.source.sending.isNone then
    match s.source.reports, s.playout.tap.buffer with
    | r :: rest, _ => s.modSource fun l => { l with reports := rest, sending := some (.report r) }
    | [], b :: rest =>
        (s.modTap fun t => { t with buffer := rest }).modSource fun l =>
          { l with sending := some (.tap b) }
    | [], [] => s
  else s

/-- An event report made by a block at the current block (R195 to R197). -/
def offerEvent (code : EventCode) (subject : Nat) (payload : List Field) (s : State) : State :=
  selectSource (s.modSource fun l => l.offerEvent code subject payload s.block)

/-- A REPLY or READY made at the current block (R195 to R197). -/
def offerFirm (sort : ReportSort) (payload : List Field) (s : State) : State :=
  selectSource (s.modSource fun l => l.offerFirm sort payload s.block)

/-- The REPLY of a directive (R192). -/
def reply (kind : Byte) (d : Header) (status : Status) (payload : List Field) (s : State) : State :=
  offerFirm (.reply kind status d.tag) payload s

/-- The READY report of a link that comes UP (R200). -/
def offerReady (s : State) : State := offerFirm .ready [f6 s.block] s

/-- The completion of a send on the Source Link (R197). -/
def completeSource (s : State) : State :=
  match s.source.sending with
  | none => s
  | some (.report _) =>
      selectSource (s.modSource fun l =>
        { l with sending := none, reportsSent := bump l.reportsSent 1 })
  | some (.tap _) =>
      selectSource (s.modSource fun l => { l with sending := none, tapSent := bump l.tapSent 1 })

end Sys2Proof.Machine
end

