-- ==== Sys2Proof/Machine/Derive.lean ====
section
/-! DEFINITION. What a frame carries: the stamp mapping of a speaker (R76, R77) and the derivation of a
speaker's 128 samples from an issue entry (R122 to R125), with the samples of a tap block (R132). -/

namespace Sys2Proof.Machine

open Sys2Proof

/-- The local count, not yet reduced, at which a clock stands `dt` fu of the timeline after its anchor:
the common part of the prediction of R68 and the mapping of R76. -/
def extrapolate (e : TrackerEntry) (dt : Int) : Int :=
  (e.anchorL.toNat : Int) + dt + roundDiv (dt * e.rho) (2 ^ 24)

/-- The stamp mapping of R76: when a block must begin to sound, in the speaker's own clock. -/
def stampOf (e : TrackerEntry) (delay : Nat) (p : Nat) : LocalCount :=
  BitVec.ofInt 32 (extrapolate e (256 * (128 * (p : Int) - (e.anchorT : Int))) + (delay : Int))

/-- The stamp of a block for a speaker, from its entry and trim delay as they stand (R76, R77). -/
def State.stamp (s : State) (sp : SpeakerNo) (p : Nat) : LocalCount :=
  stampOf (s.entry (speakerEntry sp)) (s.trim sp).delay p

/-- The rate field of a frame: the speaker's ρ as a signed 16-bit value (R77). -/
def State.rate (s : State) (sp : SpeakerNo) : BitVec 16 :=
  BitVec.ofInt 16 (s.entry (speakerEntry sp)).rho

/-- One lane of a sample frame of a cell (R21, Table 80). -/
def AudioCell.lane (a : AudioCell) (i lane : Nat) : Int :=
  (a.samples.getD (i * a.lanes + lane) 0).toInt

/-- Both lanes of a sample frame taken as one: floor of half their sum (R122, R132). -/
def AudioCell.mixed (a : AudioCell) (i : Nat) : Int := floorDiv (a.lane i 0 + a.lane i 1) 2

/-- Lane selection (R122, Table 47); 0 for an entry without a cell. -/
def selectLane (cell : Option AudioCell) (role : Role) (i : Nat) : Int :=
  match cell with
  | none => 0
  | some a =>
      if a.lanes = 1 then a.lane i 0
      else
        match role with
        | .left => a.lane i 0
        | .right => a.lane i 1
        | .mono => a.mixed i
        | .low => a.mixed i

/-- The zone gain at sample frame `i` (R123 step 1). -/
def zoneGain (e : IssueEntry) (i : Nat) : Int :=
  (e.gainStart : Int) + truncDiv (((e.gainEnd : Int) - (e.gainStart : Int)) * (i : Int)) 128

/-- The zone gain with the speaker's trim (R123 step 2). -/
def trimmedGain (e : IssueEntry) (trim : Nat) (i : Nat) : Int :=
  floorDiv (zoneGain e i * (trim : Int) + 8192) 16384

/-- The ramps in force, RAMP_IN first (R124). -/
def rampedGain (rampIn rampOut : Bool) (g : Int) (i : Nat) : Int :=
  let g := if rampIn then floorDiv (g * (i : Int)) 128 else g
  if rampOut then floorDiv (g * (127 - (i : Int))) 128 else g

/-- A sample multiplied by a gain, rounded and saturated to 24 bits (R125). -/
def applyGain (x g : Int) : Sample :=
  BitVec.ofInt 24 (clampInt (-8388608) 8388607 (floorDiv (x * g + 8192) 16384))

/-- The 128 samples derived for one speaker from one issue entry (R122 to R125). -/
def deriveSamples (cell : Option AudioCell) (e : IssueEntry) (role : Role) (trim : Nat)
    (rampIn rampOut : Bool) : List Sample :=
  (List.range 128).map fun i =>
    applyGain (selectLane cell role i) (rampedGain rampIn rampOut (trimmedGain e trim i) i)

/-- The 128 samples of a tap block: no trim and no ramps (R132). -/
def tapSamples (cell : Option AudioCell) (e : IssueEntry) : List Sample :=
  (List.range 128).map fun i => applyGain (selectLane cell .mono i) (zoneGain e i)

/-- The cell that an issue entry references. -/
def State.entryCell (s : State) (e : IssueEntry) : Option AudioCell := e.cell.bind s.audioCell

/-- A PLAYOUT frame made for a speaker from an issue entry of a zone (R127, R129, R181). `speakerRamp`
is the speaker-level RAMP_IN of R128. -/
def State.playoutFrame (s : State) (kind : AudioKind) (speakerRamp : Bool) (sp : SpeakerNo)
    (z : ZoneNo) (e : IssueEntry) : AudioItem :=
  let rampIn := e.rampIn || speakerRamp
  let role := (s.speaker sp).role
  { frame :=
      { address := (s.activeSpeaker sp).address, zone := z, role := role, audioKind := kind,
        entryKind := e.kind, rampIn := rampIn, rampOut := e.rampOut, number := e.number,
        stamp := s.stamp sp e.block, rate := s.rate sp,
        samples := deriveSamples (s.entryCell e) e role (s.trim sp).gain rampIn e.rampOut }
    speaker := sp
    block := e.block }

end Sys2Proof.Machine
end

