-- ==== Sys2Proof/Machine/Speakers.lean ====
section
/-! DEFINITION. Speakers at Zone Playout (6.5): effective zone and role, first-sends and backfills, the
join, the CUT procedure and the notices of Table 50. -/

namespace Sys2Proof.Machine

open Sys2Proof

/-- The top record of a speaker's Claim Stack. -/
def State.topClaim (s : State) (sp : SpeakerNo) : Option ClaimCell :=
  (s.claimStack sp).head?.bind s.claimCell

/-- The effective zone that R126 gives a speaker. -/
def State.effectiveZone (s : State) (sp : SpeakerNo) : Option ZoneNo :=
  if (s.activeSpeaker sp).present then
    match s.topClaim sp with
    | some c => some c.zone
    | none => (s.activeSpeaker sp).plannedZone
  else none

/-- The effective role that R126 gives a speaker. -/
def State.effectiveRole (s : State) (sp : SpeakerNo) : Role :=
  match s.topClaim sp with
  | some c => c.role
  | none => (s.activeSpeaker sp).role

/-- A speaker is sent audio frames only while its entry is LOCKED or STALE (R59, R127). -/
def State.eligible (s : State) (sp : SpeakerNo) : Bool :=
  match (s.entry (speakerEntry sp)).state with
  | .locked => true
  | .stale => true
  | .unlocked => false
  | .acquiring => false

/-- The ramp pending flag of a speaker set (R128). -/
def setRampPending (sp : SpeakerNo) (s : State) : State :=
  s.modSpeaker sp fun r => { r with rampPending := true }

/-- What a first-send or backfill of an entry does to a speaker's runtime state (R127 to R129). -/
def SpeakerRun.afterSend (r : SpeakerRun) (kind : AudioKind) (z : ZoneNo) (e : IssueEntry) :
    SpeakerRun :=
  { r with
    horizon := e.block
    rampPending := false
    rampMarker := if r.rampPending then some (z, e.number) else r.rampMarker
    firstSends := if kind = .firstSend then bump r.firstSends 1 else r.firstSends
    backfills := if kind = .backfill then bump r.backfills 1 else r.backfills }

/-- A first-send or backfill made: the frame handed to the Air Link, the horizon raised, the ramp
pending flag consumed (R127 to R129). -/
def sendEntry (kind : AudioKind) (z : ZoneNo) (sp : SpeakerNo) (e : IssueEntry) (s : State) : State :=
  handAudio (s.playoutFrame kind (s.speaker sp).rampPending sp z e)
    (s.modSpeaker sp fun r => r.afterSend kind z e)

/-- The entries of a ring that a join backfills (R129 step 3). -/
def backfillable (ring : List IssueEntry) (horizon m margin : Nat) : List IssueEntry :=
  ring.filter fun e => decide (horizon < e.block) && decide (m + margin < e.block)

/-- The join of a speaker to its effective zone (R129). -/
def join (sp : SpeakerNo) (s : State) : State :=
  match (s.speaker sp).zone with
  | none => setRampPending sp s
  | some z =>
      if (s.zone z).state = .playing ∧ s.eligible sp then
        (setRampPending sp s).forEach
          (backfillable (s.zone z).ring (s.speaker sp).horizon s.block s.store.refillMargin)
          (sendEntry .backfill z sp)
      else setRampPending sp s

/-- The effective zone and role of a speaker recomputed, without a join (R126). -/
def recompute (sp : SpeakerNo) (s : State) : State :=
  s.modSpeaker sp fun r => { r with zone := s.effectiveZone sp, role := s.effectiveRole sp }

/-- The effective zone and role recomputed; the speaker joins a zone that is new to it (R126). -/
def refresh (sp : SpeakerNo) (s : State) : State :=
  let before := (s.speaker sp).zone
  let after := s.effectiveZone sp
  if after ≠ before ∧ after ≠ none then join sp (recompute sp s) else recompute sp s

/-- The CUT procedure at the current block, addressed to `address` (R130). -/
def cutAt (sp : SpeakerNo) (address : AirAddress) (s : State) : State :=
  let cutBlock := s.block + s.store.refillMargin
  (handCut sp address (s.stamp sp cutBlock) cutBlock s).modSpeaker sp fun r =>
    { r with horizon := cutBlock - 1, rampPending := true, cuts := bump r.cuts 1 }

/-- The CUT procedure addressed to the speaker's own air address (R130). -/
def cut (sp : SpeakerNo) (s : State) : State := cutAt sp (s.activeSpeaker sp).address s

/-- A resync notice: the horizon becomes the current block (R131). -/
def resyncNotice (sp : SpeakerNo) (s : State) : State :=
  s.modSpeaker sp fun r => { r with horizon := s.block }

/-- A presence notice: the horizon becomes the current block, the effective zone is recomputed, and the
join is made (R131). -/
def presenceNotice (sp : SpeakerNo) (s : State) : State :=
  join sp (recompute sp (resyncNotice sp s))

/-- A first-send of a new entry judged for one speaker (R127). -/
def firstSend (z : ZoneNo) (e : IssueEntry) (sp : SpeakerNo) (s : State) : State :=
  if s.eligible sp then
    if (s.speaker sp).horizon < e.block then sendEntry .firstSend z sp e s
    else s.modSpeaker sp fun r => { r with overlaps := bump r.overlaps 1 }
  else s

/-- The present speakers whose effective zone is `z`, ascending. -/
def State.listeners (s : State) (z : ZoneNo) : List SpeakerNo :=
  s.presentSpeakers.filter fun sp => (s.speaker sp).zone == some z

/-- The first-sends of a new entry, in ascending speaker number (R112 step 5, R127). -/
def firstSends (z : ZoneNo) (e : IssueEntry) (s : State) : State :=
  s.forEach (s.listeners z) (firstSend z e)

end Sys2Proof.Machine
end

