-- ==== Sys2Proof/Machine/Store.lean ====
section
/-! DEFINITION. The Cell Store (chapter 2): takes, releases, depletion reporting and the rebuild of the
free list. -/

namespace Sys2Proof.Machine

open Sys2Proof

/-- The kinds of take (Table 15). -/
inductive TakeKind where
  | intake
  | concealment
  | claimRecord
  deriving DecidableEq, Repr

/-- The take condition of R26. -/
def CellStore.grants (st : CellStore) (kind : TakeKind) : Bool :=
  match kind with
  | .intake => decide (st.claimReserve < st.freeList.length)
  | .concealment => decide (st.claimReserve < st.freeList.length)
  | .claimRecord => decide (0 < st.freeList.length)

/-- The depletion check after a granted take (R29). -/
def depletionCheck (s : State) : State :=
  if s.freeCount ≤ s.store.depletionMark ∧ s.store.depletionArmed then
    offerEvent .storeDepletion 0 [f4 s.freeCount, f4 s.store.depletionMark]
      (s.modStore fun st => { st with depletionArmed := false })
  else s

/-- A take (R25, R26): the cell at the head of the free list and the state it leaves, or none where it
is refused. The contents are written by the requesting block. -/
def takeCell (kind : TakeKind) (s : State) : Option (CellNo × State) :=
  match s.store.freeList with
  | [] => none
  | c :: rest =>
      if s.store.grants kind then
        some (c, depletionCheck (s.modStore fun st => { st with freeList := rest }))
      else none

/-- The re-arming level for a depletion mark (R30). -/
def rearmLevel (mark : Nat) : Nat := min (mark + Config.rearmMargin) Config.cellCount

/-- The re-arming check (R30, R32 step 4). -/
def CellStore.rearm (st : CellStore) : CellStore :=
  if !st.depletionArmed && decide (rearmLevel st.depletionMark ≤ st.freeList.length) then
    { st with depletionArmed := true }
  else st

/-- A release (R28): the cell becomes the head of the free list. -/
def releaseCell (c : CellNo) (s : State) : State :=
  s.modStore fun st => ({ st with freeList := c :: st.freeList } : CellStore).rearm

/-- Cells released one after another (R28). -/
def releaseCells (cs : List CellNo) (s : State) : State := s.forEach cs releaseCell

/-- The rebuild of RESTART (R36): every cell free, ascending, the armed flag set, the settings kept. What the
cells then hold is not stated; the model leaves their contents as they were (DESIGN CHOICE, log entry 22). -/
def rebuildStore (s : State) : State :=
  s.modStore fun st => { st with freeList := ascendingCells, depletionArmed := true }

end Sys2Proof.Machine
end

