-- ==== Sys2Proof/Machine/Claims.lean ====
section
/-! DEFINITION. The Overlay unit (chapter 7): making claims, releasing records, and the return of a
speaker. -/

namespace Sys2Proof.Machine

open Sys2Proof

/-- The stack priority of a speaker (R139). -/
def State.stackPriority (s : State) (sp : SpeakerNo) : Nat :=
  match s.topClaim sp with
  | some c => c.priority
  | none => 0

/-- An outranked claim (R143). Table 86 has no row for a priority; it has the one byte of its operand
(DEDUCED, log entry 7). -/
def claimOutranked (z : ZoneNo) (q : Nat) (sp : SpeakerNo) (s : State) : State :=
  let top := s.topClaim sp
  offerEvent .claimOutranked sp.val
    [f1 z.val, f1 q, fIndex (top.map ClaimCell.zone), f1 (s.stackPriority sp), f6 s.block]
    (s.modClaimCounters z fun c => { c with outranked := bump c.outranked 1 })

/-- A failed claim (R144). Table 86 has no row for a priority; it has the one byte of its operand (DEDUCED, log
entry 7). -/
def claimFailed (z : ZoneNo) (q : Nat) (sp : SpeakerNo) (s : State) : State :=
  offerEvent .claimFailed sp.val [f1 z.val, f1 q, f4 s.freeCount, f6 s.block]
    (s.modClaimCounters z fun c => { c with failed := bump c.failed 1 })

/-- A claim made with the cell that its take was granted (R142): the record written and pushed, the
counter, then the claim notice, which CUTs the speaker and makes it join the overlay. -/
def claimMade (z : ZoneNo) (q : Nat) (role : Role) (sp : SpeakerNo) (c : CellNo) (s : State) : State :=
  let record : ClaimCell := { zone := z, priority := q, role := role, claimedAt := s.block }
  let s := (s.setCell c (.claim record)).setClaimStack sp (c :: s.claimStack sp)
  let s := s.modClaimCounters z fun k => { k with made := bump k.made 1 }
  refresh sp (cut sp s)

/-- One member speaker judged for a claim (R141). -/
def judgeClaim (z : ZoneNo) (q : Nat) (role : Role) (sp : SpeakerNo) (s : State) : State :=
  if q ≤ s.stackPriority sp then claimOutranked z q sp s
  else
    match takeCell .claimRecord s with
    | some (c, s') => claimMade z q role sp c s'
    | none => claimFailed z q sp s

/-- The speakers of a member set, ascending. -/
def membersOf (set : BitVec 24) : List SpeakerNo := allSpeakers.filter fun sp => set.getLsbD sp.val

/-- The entry notice of an overlay zone entering PLAYING (R141). -/
def entryNotice (z : ZoneNo) (s : State) : State :=
  let d := s.activeZone z
  s.forEach (membersOf d.members) (judgeClaim z d.priority (d.overlayRole.getD .mono))

/-- Whether a cell holds a record naming an overlay zone. -/
def State.namesZone (s : State) (z : ZoneNo) (c : CellNo) : Bool :=
  match s.claimCell c with
  | some r => r.zone == z
  | none => false

/-- A record unlinked from a speaker's stack and its cell freed (R146). -/
def releaseRecord (sp : SpeakerNo) (c : CellNo) (s : State) : State :=
  releaseCell c (s.setClaimStack sp ((s.claimStack sp).erase c))

/-- One speaker at an overlay's end: its record naming the zone is released, and when it was the top the
speaker returns (R145 to R147). -/
def endClaim (z : ZoneNo) (sp : SpeakerNo) (s : State) : State :=
  match (s.claimStack sp).find? (s.namesZone z) with
  | none => s
  | some c =>
      if (s.claimStack sp).head? = some c then refresh sp (releaseRecord sp c s)
      else releaseRecord sp c s

/-- The ended notice of an overlay zone reaching IDLE (R145). -/
def endedNotice (z : ZoneNo) (s : State) : State := s.forEach s.presentSpeakers (endClaim z)

/-- A removal: every record of a speaker released from the top down, without notices (R148). -/
def removeClaims (sp : SpeakerNo) (s : State) : State :=
  releaseCells (s.claimStack sp) (s.setClaimStack sp [])

/-- RESTART empties every Claim Stack (R153). -/
def restartClaims (s : State) : State :=
  s.modOverlay fun o => { o with claimStacks := Vector.replicate 24 [] }

end Sys2Proof.Machine
end

