-- ==== Sys2Proof/Machine/Zones.lean ====
section
/-! DEFINITION. Zone states (6.1): START, soft and hard STOP, the release of ring entries, and reaching
IDLE; the tap's disarming (6.6). -/

namespace Sys2Proof.Machine

open Sys2Proof

/-- The tap disarmed with a TAP END report, when it names the zone (R114 step 3, R133). -/
def endTap (z : ZoneNo) (s : State) : State :=
  if s.playout.tap.state.zone = some z then
    offerEvent .tapEnd z.val [] (s.modTap fun t => { t with state := .disarmed })
  else s

/-- A zone reaching IDLE (R114). -/
def reachIdle (z : ZoneNo) (s : State) : State :=
  let s := s.modZone z fun r => { r with state := .idle }
  let s := offerEvent .zoneEnded z.val [f2 (s.zone z).issueNumber.toNat, f6 s.block] s
  let s := endTap z s
  if (s.activeZone z).kind = .overlay then endedNotice z s else s

/-- A DRAINING zone whose ring is empty reaches IDLE at the same event (R113). -/
def settleDraining (z : ZoneNo) (s : State) : State :=
  if (s.zone z).state = .draining ∧ (s.zone z).ring = [] then reachIdle z s else s

/-- A zone's state becomes DRAINING, the ring left as it is. -/
def enterDraining (z : ZoneNo) (s : State) : State :=
  s.modZone z fun r => { r with state := .draining }

/-- A soft STOP of a zone (R109). -/
def softStop (z : ZoneNo) (s : State) : State :=
  match (s.zone z).state with
  | .priming => settleDraining z (enterDraining z s)
  | .playing => settleDraining z (enterDraining z s)
  | .idle => s
  | .draining => s

/-- The cells that ring entries reference, oldest first. -/
def ringCells (l : List IssueEntry) : List CellNo := l.filterMap IssueEntry.cell

/-- The ring of a zone cut down to the entries that `keep` holds for; the cells of the others are
released in ascending issue number (R110 step 1, R111 step 1). -/
def trimRing (z : ZoneNo) (keep : IssueEntry → Bool) (s : State) : State :=
  let ring := (s.zone z).ring
  releaseCells (ringCells (ring.filter fun e => !keep e))
    (s.modZone z fun r => { r with ring := ring.filter keep })

/-- The ring entries due at the current block released (R111 step 1). -/
def releaseDue (z : ZoneNo) (s : State) : State :=
  trimRing z (fun e => decide (s.block < e.block)) s

/-- A hard STOP of a zone (R110): DRAINING, the ring trimmed from the refill margin on, the listeners
CUT, and IDLE when the ring is empty. -/
def hardStop (z : ZoneNo) (s : State) : State :=
  if (s.zone z).state = .idle then s
  else
    let s := enterDraining z s
    let limit := s.block + s.store.refillMargin
    let s := trimRing z (fun e => decide (e.block < limit)) s
    let s := s.forEach (s.listeners z) cut
    settleDraining z s

/-- Why a START is refused: ABSENT, then BUSY (R108 steps 3 and 4). -/
def startRefusal (z : ZoneNo) (s : State) : Option Status :=
  let d := s.activeZone z
  let streamPresent :=
    match d.stream with
    | some st => (s.stream st).present
    | none => false
  if !d.present || !streamPresent then some .absent
  else if (s.zone z).state ≠ .idle then some .busy
  else none

/-- The start notice at the Cue Engine (R156). -/
def startNotice (z : ZoneNo) (s : State) : State :=
  let entry := (s.activeZone z).cueEntry
  s.modCueRun z fun c =>
    { c with
      pointer := entry.getD c.pointer
      status := if entry.isSome then .running else .stopped
      wait := 0, prescaleCount := 0, loopCount := 0 }

/-- A START that is taken (R108). -/
def startZone (z : ZoneNo) (s : State) : State :=
  let level := (s.activeZone z).startLevel
  (startNotice z s).modZone z fun r =>
    { r with
      gain := level, target := level, gainStep := 0, prevKind := none, state := .priming
      primingBegan := s.block }

/-- A rebinding notice at a swap (R115). -/
def rebind (z : ZoneNo) (s : State) : State :=
  s.modZone z fun r =>
    { r with state := .priming, primingBegan := s.block, prevKind := none }

end Sys2Proof.Machine
end

