-- ==== Sys2Proof/Machine/Cues.lean ====
section
/-! DEFINITION. The Cue Engine at a boundary (8.3, 8.4): the fields of a cue word (Table 89), the count
of a wait, the execution of words, and the boundary notice of a zone. -/

namespace Sys2Proof.Machine

open Sys2Proof

/-- The kind code of a cue word, bits 31 to 28 (Table 89). -/
def cueKind (w : CueWord) : Nat := (w.extractLsb' 28 4).toNat

/-- The target of a LEVEL, bits 26 to 12 (Table 89). -/
def cueTarget (w : CueWord) : Nat := (w.extractLsb' 12 15).toNat

/-- The step of a LEVEL, and the n of a WAIT or REPEAT, bits 11 to 0 (Table 89). -/
def cueCount (w : CueWord) : Nat := (w.extractLsb' 0 12).toNat

/-- The tag of a NOTE, bits 7 to 0 (Table 89). -/
def cueTag (w : CueWord) : Nat := (w.extractLsb' 0 8).toNat

/-- The stop flag of a NOTE, bit 8 (Table 89). -/
def cueStopFlag (w : CueWord) : Bool := w.getLsbD 8

/-- The index of a JUMP, bits 8 to 0 (Table 89). -/
def cueJump (w : CueWord) : CueIndex := w.extractLsb' 0 9

/-- The word at an index of Cue Memory. -/
def State.cueWord (s : State) (i : CueIndex) : CueWord := tblGet s.cue.memory i.toFin

/-- The pointer advanced to the next index, modulo 512 (R159). -/
def CueRun.advance (c : CueRun) : CueRun := { c with pointer := c.pointer + 1 }

/-- A program that ends after its word (R162, R163). -/
def CueRun.stop (c : CueRun) : CueRun := { c with status := .stopped }

/-- The count of a wait at a boundary notice (R158). -/
def CueRun.countWait (c : CueRun) : CueRun :=
  if c.prescale + 1 ≤ c.prescaleCount + 1 then { c with prescaleCount := 0, wait := c.wait - 1 }
  else { c with prescaleCount := c.prescaleCount + 1 }

/-- LEVEL (R160). -/
def cueLevel (z : ZoneNo) (w : CueWord) (s : State) : State :=
  (s.modZone z fun r => { r with target := cueTarget w, gainStep := cueCount w }).modCueRun z
    CueRun.advance

/-- WAIT (R160). -/
def cueWait (z : ZoneNo) (w : CueWord) (s : State) : State :=
  s.modCueRun z fun c =>
    if cueCount w = 0 then c.advance
    else { c.advance with wait := cueCount w, prescaleCount := 0 }

/-- REPEAT (R161). -/
def cueRepeat (z : ZoneNo) (w : CueWord) (s : State) : State :=
  s.modCueRun z fun c =>
    if cueCount w = 0 then c.advance
    else { c.advance with loopCount := cueCount w, loopStart := c.pointer + 1 }

/-- LOOP (R161). -/
def cueLoop (z : ZoneNo) (s : State) : State :=
  s.modCueRun z fun c =>
    if 0 < c.loopCount then { c with loopCount := c.loopCount - 1, pointer := c.loopStart }
    else c.advance

/-- NOTE (R162). Table 86 has no row for a tag; it has one byte, which its eight bits fill (DEDUCED, log entry
7). -/
def cueNote (z : ZoneNo) (w : CueWord) (s : State) : State :=
  (offerEvent .cueNote z.val [f1 (cueTag w), f2 (s.cueRun z).pointer.toNat, f6 s.block] s).modCueRun z
    fun c => if cueStopFlag w then c.advance.stop else c.advance

/-- JUMP (R160). -/
def cueJumpTo (z : ZoneNo) (w : CueWord) (s : State) : State :=
  s.modCueRun z fun c => { c with pointer := cueJump w }

/-- RELEASE (R163): the program ends and the zone is stopped softly. -/
def cueRelease (z : ZoneNo) (s : State) : State := softStop z (s.modCueRun z fun c => c.advance.stop)

/-- A word of code 8 to 15 (R164): it is not executed, and the pointer stays. -/
def cueFault (z : ZoneNo) (w : CueWord) (s : State) : State :=
  offerEvent .cueFault z.val [f2 (s.cueRun z).pointer.toNat, f1 (cueKind w), f6 s.block]
    (s.modCueRun z fun c => { c with status := .faulted })

/-- One word of a run: the state it leaves, and whether it ends the run (Table 59, R159). -/
def executeWord (z : ZoneNo) (s : State) : State × Bool :=
  let w := s.cueWord (s.cueRun z).pointer
  match cueKind w with
  | 0 => (s.modCueRun z fun c => c.advance.stop, true)
  | 1 => (cueLevel z w s, false)
  | 2 => (cueWait z w s, cueCount w != 0)
  | 3 => (cueRepeat z w s, false)
  | 4 => (cueLoop z s, false)
  | 5 => (cueNote z w s, cueStopFlag w)
  | 6 => (cueJumpTo z w s, false)
  | 7 => (cueRelease z s, true)
  | _ => (cueFault z w s, true)

/-- An execution run of at most `budget` words (R159). -/
def executeRun (z : ZoneNo) : Nat → State → State
  | 0, s => s
  | budget + 1, s =>
      match executeWord z s with
      | (s', true) => s'
      | (s', false) => executeRun z budget s'

/-- The count of a wait in progress (R157 step 1). -/
def CueRun.countIfWaiting (c : CueRun) : CueRun := if 0 < c.wait then c.countWait else c

/-- The boundary notice of a zone (R155, R157). -/
def boundaryNotice (z : ZoneNo) (s : State) : State :=
  if (s.cueRun z).status = .running then
    let s := s.modCueRun z CueRun.countIfWaiting
    if 0 < (s.cueRun z).wait then s else executeRun z Config.cueBudget s
  else s

/-- Whether the boundary notice of a zone would let its wait run out (R157, R158). -/
def State.waitRunsOut (s : State) (z : ZoneNo) : Bool :=
  let c := s.cueRun z
  c.status == .running && decide (0 < c.wait) && decide (c.countIfWaiting.wait = 0)

/-- RESTART at the Cue Engine (R172). -/
def restartCues (s : State) : State :=
  s.modCueEngine fun e =>
    { e with
      runs := tblMap e.runs fun c =>
        { c with status := .stopped, wait := 0, prescaleCount := 0, loopCount := 0 } }

/-- The words of a WRITE CUES written from an index on, wrapping from 511 to 0 (R165). -/
def writeCueWords : List CueWord → CueIndex → Vector CueWord 512 → Vector CueWord 512
  | [], _, m => m
  | w :: rest, i, m => writeCueWords rest (i + 1) (tblSet m i.toFin w)

end Sys2Proof.Machine
end

