-- ==== Sys2Proof/Machine/Queues.lean ====
section
/-! DEFINITION. The stream queues of Stream Intake (3.2, 3.4, 3.5): demand, the answer to an issue, the
flush, and the stream's share of RESTART. -/

namespace Sys2Proof.Machine

open Sys2Proof

/-- A stream's counters changed. -/
def Stream.count (st : Stream) (f : StreamCounters → StreamCounters) : Stream :=
  { st with counters := f st.counters }

/-- The STREAM DEMAND report of a stream, with its queue count and free space; the demand armed flag is
cleared (R54, R38, R40, R57). Table 86 has no row for free space; it has the two bytes of the quota (DEDUCED,
log entry 7). -/
def demandReport (st : StreamNo) (s : State) : State :=
  let d := s.stream st
  offerEvent .streamDemand st.val [fQueueCount d.queue.length, f2 (d.quota - d.queue.length)]
    (s.modStream st fun d => { d with demandArmed := false })

/-- The demand check after an issue has taken a cell (R54). -/
def demandCheck (st : StreamNo) (s : State) : State :=
  let d := s.stream st
  if d.cls = .paced ∧ d.demandArmed ∧ d.queue.length ≤ d.demandMark then demandReport st s else s

/-- The answer to a zone that issues: the oldest cell, or empty with a slip or an underrun counted
(R51). -/
def issueAnswer (st : StreamNo) (s : State) : Option CellNo × State :=
  match (s.stream st).queue with
  | c :: rest => (some c, demandCheck st (s.modStream st fun d => { d with queue := rest }))
  | [] =>
      (none, s.modStream st fun d =>
        match d.cls with
        | .live => d.count fun k => { k with slips := bump k.slips 1 }
        | .paced => d.count fun k => { k with underruns := bump k.underruns 1 })

/-- Whether a queued cell of a stream carries END (R52, R55). -/
def State.queueHasEnd (s : State) (st : StreamNo) : Bool :=
  (s.stream st).queue.any fun c =>
    match s.audioCell c with
    | some a => a.endFlag
    | none => false

/-- The priming question: the queue count and whether a queued cell carries END; 0 and no END for a
zone without a stream (R52). -/
def primingAnswer (stream : Option StreamNo) (s : State) : Nat × Bool :=
  match stream with
  | none => (0, false)
  | some st => ((s.stream st).queue.length, s.queueHasEnd st)

/-- The cells of a queue released from head to tail, the queue emptied, the expected sequence any (R39
and R40, steps 1 to 3). -/
def emptyQueue (st : StreamNo) (s : State) : State :=
  (releaseCells (s.stream st).queue s).modStream st fun d => { d with queue := [], expected := none }

/-- What follows the reply of a flush: for a PACED stream the DEMAND report (R40, R41). -/
def flushQueue (st : StreamNo) (s : State) : State :=
  let s := emptyQueue st s
  if (s.stream st).cls = .paced then demandReport st s else s

/-- The zones of the active plan that are present and name a stream, ascending. -/
def Bank.zonesOn (b : Bank) (st : StreamNo) : List ZoneNo :=
  allZones.filter fun z => (tblGet b.zones z).present && (tblGet b.zones z).stream == some st

/-- The zone bound to a stream in the active plan (R85). -/
def State.boundZone (s : State) (st : StreamNo) : Option ZoneNo := (s.plan.active.zonesOn st).head?

/-- One stream's share of the DEMAND reports of RESTART (R57). -/
def restartDemand (st : StreamNo) (s : State) : State :=
  if (s.stream st).present ∧ (s.stream st).cls = .paced then demandReport st s else s

/-- Stream Intake at RESTART: every queue empty, every expected sequence any, every demand armed flag
clear, then the DEMAND reports in ascending stream number (R57). -/
def restartStreams (s : State) : State :=
  let s := s.modIntake fun i =>
    { i with
      streams := tblMap i.streams fun d =>
        { d with queue := [], expected := none, demandArmed := false } }
  s.forEach allStreams restartDemand

end Sys2Proof.Machine
end

