-- ==== Sys2Proof/Machine/Tracking.lean ====
section
/-! DEFINITION. The Clock Tracker (chapter 4): what an input does to an entry, what it says of a
speaker, silence, RESYNC, removal, and the rate-change notice. -/

namespace Sys2Proof.Machine

open Sys2Proof

/-- What an input's acceptance or rejection makes known of a speaker (R65 to R67, R70). -/
inductive TrackEvent where
  | locked
  | phaseStep (phase : Bool) (error : Int)
  | reacquire
  | recovered
  deriving DecidableEq, Repr

/-- ρ written, clamped, a clamp that acts being counted (R58). -/
def TrackerEntry.writeRho (e : TrackerEntry) (v : Int) : TrackerEntry :=
  { e with
    rho := clampRate v
    clamps := if clampRate v = v then e.clamps else bump e.clamps 1 }

/-- The raw pair and the anchor both set to an input (a hard anchor, R63 to R67). -/
def TrackerEntry.hardAnchor (e : TrackerEntry) (t : Nat) (l : LocalCount) : TrackerEntry :=
  { e with rawT := t, rawL := l, anchorT := t, anchorL := l }

/-- The echoes accepted counter increased. -/
def TrackerEntry.countAccepted (e : TrackerEntry) : TrackerEntry :=
  { e with echoesAccepted := bump e.echoesAccepted 1 }

/-- Acquisition begun from an input, ρ kept: the state ACQUIRING, the accepted count 1, no consecutive
outliers (R63, R67, R72). -/
def TrackerEntry.acquireFrom (e : TrackerEntry) (t : Nat) (l : LocalCount) : TrackerEntry :=
  { e.hardAnchor t l with state := .acquiring, accepted := 1, outlierRun := 0 }

/-- ΔT of an input, in timeline samples (R62). -/
def TrackerEntry.deltaT (e : TrackerEntry) (t : Nat) : Int := (t : Int) - (e.rawT : Int)

/-- The measured deviation r of an input, in du (R62). -/
def TrackerEntry.measured (e : TrackerEntry) (t : Nat) (l : LocalCount) : Int :=
  truncDiv ((((l - e.rawL).toNat : Int) - 256 * e.deltaT t) * 65536) (e.deltaT t)

/-- ρ moved toward the measured deviation by a share 1 / 2^k (R65 with k = 1, R69 with k = g). -/
def TrackerEntry.moveRho (e : TrackerEntry) (r : Int) (k : Nat) : TrackerEntry :=
  e.writeRho (e.rho + roundDiv (r - e.rho) (2 ^ k))

/-- The prediction P of R68: the local count that the estimate gives for an input's timeline count. -/
def TrackerEntry.predict (e : TrackerEntry) (t : Nat) : LocalCount :=
  BitVec.ofInt 32 (extrapolate e (256 * ((t : Int) - (e.anchorT : Int))))

/-- An input to an ACQUIRING entry that is not stale (R64, R65). -/
def TrackerEntry.acquire (p : TrackingParams) (e : TrackerEntry) (t : Nat) (l : LocalCount) :
    TrackerEntry × List TrackEvent :=
  let r := e.measured t l
  if Config.pairingLimit < e.deltaT t ∨ Config.grossLimit < |r| then
    ({ e.hardAnchor t l with accepted := 1, outliers := bump e.outliers 1 }, [])
  else
    let e := ((e.moveRho r 1).hardAnchor t l).countAccepted
    let e := { e with accepted := e.accepted + 1 }
    if p.acquireCount ≤ e.accepted then ({ e with state := .locked, outlierRun := 0 }, [.locked])
    else (e, [])

/-- An outlier at a LOCKED or STALE entry; the third in a row makes it reacquire (R67, R70). -/
def TrackerEntry.reject (e : TrackerEntry) (t : Nat) (l : LocalCount) :
    TrackerEntry × List TrackEvent :=
  let e := { e with outliers := bump e.outliers 1, outlierRun := e.outlierRun + 1 }
  if 3 ≤ e.outlierRun then (e.acquireFrom t l, [.reacquire]) else (e, [])

/-- The phase part of an acceptance: the anchor moved by a share of the error, or hard beyond the phase
limit (R68). -/
def TrackerEntry.movePhase (p : TrackingParams) (e : TrackerEntry) (t : Nat) (l : LocalCount) :
    TrackerEntry × List TrackEvent :=
  let predicted := e.predict t
  let error := (l - predicted).toInt
  if |error| ≤ (p.phaseLimit : Int) then
    ({ e with
       anchorT := t
       anchorL := predicted + BitVec.ofInt 32 (roundDiv error (2 ^ p.h))
       outlierRun := 0 }, [])
  else
    ({ e with
       anchorT := t, anchorL := l, outlierRun := 0, phaseSteps := bump e.phaseSteps 1 },
     [.phaseStep true error])

/-- An acceptance at a LOCKED or STALE entry: the phase, then the rate (R68, R69). -/
def TrackerEntry.accept (p : TrackingParams) (e : TrackerEntry) (t : Nat) (l : LocalCount) :
    TrackerEntry × List TrackEvent :=
  let r := e.measured t l
  let (e', events) := e.movePhase p t l
  (({ (e'.moveRho r p.g) with rawT := t, rawL := l }).countAccepted, events)

/-- A gap at a LOCKED or STALE entry: a hard re-anchor without a rate update (R66). -/
def TrackerEntry.gap (e : TrackerEntry) (t : Nat) (l : LocalCount) : TrackerEntry × List TrackEvent :=
  (({ e.hardAnchor t l with outlierRun := 0, phaseSteps := bump e.phaseSteps 1 }).countAccepted,
   [.phaseStep false 0])

/-- A STALE entry whose input wrote the raw pair is LOCKED again (R70). -/
def recover (was : TrackState) (x : TrackerEntry × List TrackEvent) :
    TrackerEntry × List TrackEvent :=
  if was = .stale then ({ x.1 with state := .locked }, x.2 ++ [.recovered]) else x

/-- An input to a LOCKED or STALE entry that is not stale (R66 to R70). -/
def TrackerEntry.follow (p : TrackingParams) (e : TrackerEntry) (t : Nat) (l : LocalCount) :
    TrackerEntry × List TrackEvent :=
  if Config.pairingLimit < e.deltaT t then recover e.state (e.gap t l)
  else if (p.outlierLimit : Int) < |e.measured t l - e.rho| then e.reject t l
  else recover e.state (e.accept p t l)

/-- An input (T_k, L_k) processed by an entry according to its state (R61 to R70). -/
def TrackerEntry.input (p : TrackingParams) (e : TrackerEntry) (t : Nat) (l : LocalCount) :
    TrackerEntry × List TrackEvent :=
  match e.state with
  | .unlocked => ((e.acquireFrom t l).countAccepted, [])
  | .acquiring =>
      if e.deltaT t ≤ 0 then ({ e with staleEchoes := bump e.staleEchoes 1 }, [])
      else e.acquire p t l
  | .locked =>
      if e.deltaT t ≤ 0 then ({ e with staleEchoes := bump e.staleEchoes 1 }, [])
      else e.follow p t l
  | .stale =>
      if e.deltaT t ≤ 0 then ({ e with staleEchoes := bump e.staleEchoes 1 }, [])
      else e.follow p t l

/-- The cause codes of SPEAKER REACQUIRE: 0 OUTLIERS, 1 RESYNC (R204). -/
def reacquireReport (sp : SpeakerNo) (cause : Nat) (s : State) : State :=
  offerEvent .speakerReacquire sp.val [f1 cause, fRate (s.entry (speakerEntry sp)).rho] s

/-- What an input makes known of a speaker: its report (R78), and the notice to Zone Playout, after the
report (R65, R66, R68). -/
def speakerEvent (sp : SpeakerNo) (ev : TrackEvent) (s : State) : State :=
  let e := s.entry (speakerEntry sp)
  match ev with
  | .locked => join sp (offerEvent .speakerLocked sp.val [fRate e.rho, f1 e.accepted] s)
  | .phaseStep phase error =>
      setRampPending sp (offerEvent .speakerPhaseStep sp.val [fFlag phase, fPhase error] s)
  | .reacquire => reacquireReport sp 0 s
  | .recovered => offerEvent .speakerRecovered sp.val [fRate e.rho] s

/-- An input processed by entry `e`; a stream entry makes no report and hands no notice (R61). -/
def trackInput (e : EntryNo) (t : Nat) (l : LocalCount) (s : State) : State :=
  let out := (s.entry e).input s.tracker.params t l
  let s := s.modEntry e fun _ => out.1
  match entrySpeaker e with
  | some sp => s.forEach out.2 (speakerEvent sp)
  | none => s

/-- The silence count of an entry returned to 0 (R60 step 1, R61). -/
def clearSilence (e : EntryNo) (s : State) : State := s.modEntry e fun x => { x with silence := 0 }

/-- An observation of a LIVE stream (R50, R61). -/
def observe (st : StreamNo) (sourceIndex : BitVec 32) (s : State) : State :=
  trackInput (streamEntry st) s.timeline.count (sourceIndex * 256)
    (clearSilence (streamEntry st) s)

/-- The block number of a logged beacon, by exact match (R11). -/
def State.lookupBeacon (s : State) (n : SerialNo) : Option Nat :=
  (s.timeline.beaconLog.find? fun b => b.1 == n).map Prod.snd

/-- The entry after an echo with RESYNC, its beacon found or not (R72). -/
def TrackerEntry.resync (e : TrackerEntry) (found : Option Nat) (l : LocalCount) : TrackerEntry :=
  match found with
  | some block => ({ (e.acquireFrom (128 * block) l) with rho := 0 }).countAccepted
  | none => { e with state := .unlocked, rho := 0 }

/-- The RESYNC rule (R72). -/
def resyncEcho (sp : SpeakerNo) (found : Option Nat) (l : LocalCount) (s : State) : State :=
  resyncNotice sp (reacquireReport sp 1 (s.modEntry (speakerEntry sp) fun e => e.resync found l))

/-- A matched echo handed to the Clock Tracker (R60). -/
def handEcho (sp : SpeakerNo) (f : SerialNo) (l : LocalCount) (resync : Bool) (s : State) : State :=
  let e := speakerEntry sp
  let s := (clearSilence e s).setAccessed sp true
  let found := s.lookupBeacon f
  let s :=
    if found.isNone then
      s.modEntry e fun x => { x with staleEchoes := bump x.staleEchoes 1 }
    else s
  if resync then resyncEcho sp found l s
  else
    match found with
    | some block => trackInput e (128 * block) l s
    | none => s

/-- An entry's share of a beacon notice: silence counted, and at most one transition (R71, Table 29).
The second part is whether it goes STALE, the third whether it is lost. -/
def TrackerEntry.hush (p : TrackingParams) (e : TrackerEntry) : TrackerEntry × Bool × Bool :=
  let quiet := { e with silence := min 255 (e.silence + 1) }
  match e.state with
  | .unlocked => (e, false, false)
  | .locked =>
      if p.staleLimit ≤ quiet.silence then ({ quiet with state := .stale }, true, false)
      else (quiet, false, false)
  | .stale =>
      if p.lostLimit ≤ quiet.silence then ({ quiet with state := .unlocked }, false, true)
      else (quiet, false, false)
  | .acquiring =>
      if p.lostLimit ≤ quiet.silence then ({ quiet with state := .unlocked }, false, true)
      else (quiet, false, false)

/-- An entry's share of a beacon notice taken, with the report of a speaker entry (R71, R78). -/
def takeNotice (e : EntryNo) (s : State) : State :=
  let (entry, stale, lost) := (s.entry e).hush s.tracker.params
  let s := s.modEntry e fun _ => entry
  match entrySpeaker e with
  | none => s
  | some sp =>
      let payload := [f1 entry.silence, fRate entry.rho]
      if stale then offerEvent .speakerStale sp.val payload s
      else if lost then offerEvent .speakerLost sp.val payload s
      else s

/-- A removal at a swap: the entry UNLOCKED, the rest kept (R74). -/
def removeEntry (sp : SpeakerNo) (s : State) : State :=
  s.modEntry (speakerEntry sp) fun e => { e with state := .unlocked }

/-- The RESYNC SPEAKER directive at an entry (R73). -/
def TrackerEntry.resetEstimate (e : TrackerEntry) : TrackerEntry :=
  { e with state := .unlocked, rho := 0, accepted := 0, outlierRun := 0, silence := 0 }

/-- RESTART at an entry: as after power-on but for the counters (R83). -/
def TrackerEntry.restart (e : TrackerEntry) : TrackerEntry :=
  { e.resetEstimate with rawT := 0, rawL := 0, anchorT := 0, anchorL := 0 }

/-- A rate-change notice carrying the applied change `c` (R75). -/
def rateChange (c : Int) (s : State) : State :=
  s.modTracker fun t => { t with entries := tblMap t.entries fun e => e.writeRho (e.rho - c) }

/-- RESTART at the Clock Tracker (R83). -/
def restartTracker (s : State) : State :=
  s.modTracker fun t => { t with entries := tblMap t.entries TrackerEntry.restart }

end Sys2Proof.Machine
end

