-- ==== Sys2Proof/Machine/Swap.lean ====
section
/-! DEFINITION. The swap of the plan at a boundary (5.5, 5.6): validation, refusal, completion and the
notices that it hands on. -/

namespace Sys2Proof.Machine

open Sys2Proof

/-- A zone descriptor of a bank. -/
def Bank.zone (b : Bank) (z : ZoneNo) : ZoneDesc := tblGet b.zones z

/-- A speaker descriptor of a bank. -/
def Bank.speaker (b : Bank) (sp : SpeakerNo) : SpeakerDesc := tblGet b.speakers sp

/-- Why a swap is refused: the reason code (R204), the subject, and the payload of the row of Table 38. -/
structure SwapRefusal where
  reason : Nat
  subject : Nat
  payload : List Field
  deriving DecidableEq, Repr

/-- STREAM_SHARED at one stream (Table 38, row 1). -/
def streamShared (b : Bank) (st : StreamNo) : Option SwapRefusal :=
  match b.zonesOn st with
  | z :: z' :: _ => some { reason := 0, subject := st.val, payload := [f1 z.val, f1 z'.val] }
  | _ => none

/-- Whether the staged bank changes a zone in a way that a zone in play may not change (Table 38, row
2). -/
def zoneMoved (old new : ZoneDesc) : Bool :=
  !new.present || new.kind != old.kind || (old.kind == .overlay && new.stream != old.stream)

/-- ZONE_BUSY at one zone (Table 38, row 2). -/
def zoneBusy (s : State) (z : ZoneNo) : Option SwapRefusal :=
  let state := (s.zone z).state
  if (s.plan.active.zone z).present ∧ state ≠ .idle ∧
      zoneMoved (s.plan.active.zone z) (s.plan.staged.zone z) then
    some { reason := 1, subject := z.val, payload := [f1 state.code] }
  else none

/-- BAD_MEMBER at one speaker (Table 38, row 3). -/
def badMember (b : Bank) (sp : SpeakerNo) : Option SwapRefusal :=
  if (b.speaker sp).present then
    match (b.speaker sp).plannedZone with
    | some z =>
        if !(b.zone z).present || (b.zone z).kind == .overlay then
          some { reason := 2, subject := sp.val, payload := [f1 z.val] }
        else none
    | none => none
  else none

/-- DUPLICATE_ADDRESS at one speaker: the lowest higher-numbered present speaker that shares its address
(Table 38, row 4). -/
def duplicateAddress (b : Bank) (sp : SpeakerNo) : Option SwapRefusal :=
  if (b.speaker sp).present then
    match allSpeakers.find? fun o =>
        decide (sp < o) && (b.speaker o).present && (b.speaker o).address == (b.speaker sp).address with
    | some o =>
        some { reason := 3, subject := sp.val,
               payload := [f1 o.val, f2 (b.speaker o).address.toNat] }
    | none => none
  else none

/-- ABSENT_MEMBER at one zone (Table 38, row 5). -/
def absentMember (b : Bank) (z : ZoneNo) : Option SwapRefusal :=
  if (b.zone z).present ∧ (b.zone z).kind = .overlay then
    match (membersOf (b.zone z).members).find? fun sp => !(b.speaker sp).present with
    | some sp => some { reason := 4, subject := z.val, payload := [f1 sp.val] }
    | none => none
  else none

/-- Validation of the staged bank: the first object that fails the first failing reason (R96). -/
def validateSwap (s : State) : Option SwapRefusal :=
  (allStreams.findSome? (streamShared s.plan.staged))
    <|> (allZones.findSome? (zoneBusy s))
    <|> (allSpeakers.findSome? (badMember s.plan.staged))
    <|> (allSpeakers.findSome? (duplicateAddress s.plan.staged))
    <|> (allZones.findSome? (absentMember s.plan.staged))

/-- A refused swap (R97). -/
def refuseSwap (r : SwapRefusal) (s : State) : State :=
  offerEvent .swapRefused r.subject (f1 r.reason :: r.payload ++ [f6 s.block])
    (s.modPlan fun p => { p with swapPending := false })

/-- The zone notice of a swap: a rebinding of a zone in play whose stream changed (R99). -/
def zoneNotice (old : Bank) (z : ZoneNo) (s : State) : State :=
  let new := s.activeZone z
  if (old.zone z).present ∧ new.present ∧ (old.zone z).stream ≠ new.stream
      ∧ (s.zone z).state ≠ .idle then rebind z s
  else s

/-- A speaker made absent by a swap (R100): its claims, then its CUT at the outgoing address, then its
tracker entry; its accessed flag is cleared. -/
def speakerRemoved (old : Bank) (sp : SpeakerNo) (s : State) : State :=
  let s := removeClaims sp s
  let s := recompute sp (cutAt sp (old.speaker sp).address s)
  (removeEntry sp s).setAccessed sp false

/-- A speaker readdressed by a swap (R101). -/
def speakerReaddressed (old : Bank) (sp : SpeakerNo) (s : State) : State :=
  presenceNotice sp (removeEntry sp (cutAt sp (old.speaker sp).address s))

/-- The speaker notices of a swap (R100 to R102). -/
def speakerNotice (old : Bank) (sp : SpeakerNo) (s : State) : State :=
  let was := old.speaker sp
  let now := s.activeSpeaker sp
  if was.present then
    if now.present then
      let s := if was.address ≠ now.address then speakerReaddressed old sp s else s
      if was.plannedZone ≠ now.plannedZone then refresh sp s else s
    else speakerRemoved old sp s
  else if now.present then presenceNotice sp s
  else s

/-- The stream release of a swap (R103, R41). -/
def streamNotice (old : Bank) (st : StreamNo) (s : State) : State :=
  let d := s.stream st
  if d.present ∧ old.zonesOn st ≠ [] ∧ s.plan.active.zonesOn st = [] ∧ d.queue ≠ [] then
    flushQueue st s
  else s

/-- The effective role follows a swap from the same boundary (R102, R126); the zone follows by its
notice. -/
def followRole (sp : SpeakerNo) (s : State) : State :=
  s.modSpeaker sp fun r => { r with role := s.effectiveRole sp }

/-- A successful swap (R98): the banks, the flag, the report, then the notices. -/
def completeSwap (s : State) : State :=
  let old := s.plan.active
  let s := s.modPlan fun p => { p with active := p.staged, swapPending := false }
  let s := offerEvent .swapDone 0 [f6 s.block] s
  let s := s.forEach allSpeakers followRole
  let s := s.forEach allZones (zoneNotice old)
  let s := s.forEach allSpeakers (speakerNotice old)
  s.forEach allStreams (streamNotice old)

/-- The swap of a boundary: completed or refused (R95 to R98). -/
def takeSwap (s : State) : State :=
  let s := s.modAgenda fun a => { a with swap := false, swapTaken := true }
  match validateSwap s with
  | some r => refuseSwap r s
  | none => completeSwap s

/-- RESTART at the Plan (R107). -/
def restartPlan (s : State) : State :=
  s.modPlan fun p => { p with swapPending := false, accessed := Vector.replicate 24 false }

end Sys2Proof.Machine
end

