-- ==== Sys2Proof/Machine/ZoneWork.lean ====
section
/-! DEFINITION. A zone's work of a boundary (R111 to R113): priming, the issue of an entry (R117 to
R119) with its gain (R120), the tap block (R134) and the first-sends. -/

namespace Sys2Proof.Machine

open Sys2Proof

/-- The end gain of the block to be issued (R120). -/
def nextGain (gain target gainStep : Nat) : Nat :=
  if gainStep = 0 then target
  else if gain < target then min (gain + gainStep) target
  else if target < gain then max (gain - gainStep) target
  else gain

/-- An entry joins the newest end of a zone's ring; the counters, issue number and previous entry kind
follow (R117 to R119). -/
def ZoneRun.addEntry (r : ZoneRun) (e : IssueEntry) : ZoneRun :=
  { r with
    ring := r.ring ++ [e]
    issueNumber := e.number
    prevKind := some e.kind
    issued := bump r.issued 1
    repeats := if e.kind = .repeated then bump r.repeats 1 else r.repeats
    silents := if e.kind = .silent then bump r.silents 1 else r.silents }

/-- The SILENT entry of a zone's next issue, which the other kinds are made from: issue number one above
the last, presentation block the running lead ahead, and the gains (R112 step 4, R119, R120). -/
def silentEntry (r : ZoneRun) (m gainStart : Nat) : IssueEntry :=
  { number := r.issueNumber + 1, block := m + r.runningLead, kind := .silent, cell := none,
    gainStart := gainStart, gainEnd := r.gain, rampIn := false, rampOut := false }

/-- The NORMAL entry for a cell handed over (R117). -/
def normalEntry (r : ZoneRun) (m gainStart : Nat) (c : CellNo) (a : Option AudioCell) : IssueEntry :=
  let discontinuity :=
    match a with
    | some a => a.discontinuity
    | none => false
  { silentEntry r m gainStart with
    kind := .normal, cell := some c
    rampIn := discontinuity || r.prevKind != some .normal }

/-- The REPEAT entry for a concealment copy (R118). -/
def repeatEntry (r : ZoneRun) (m gainStart : Nat) (c : CellNo) : IssueEntry :=
  { silentEntry r m gainStart with kind := .repeated, cell := some c, rampOut := true }

/-- The contents of a concealment copy (R22). -/
def concealmentCopy (a : AudioCell) : AudioCell := { a with endFlag := false, discontinuity := false }

/-- The cell contents of a zone's newest ring entry, as a concealment copy repeats them (R22). -/
def State.copyOfNewest (s : State) (z : ZoneNo) : Cell :=
  match ((s.zone z).ring.getLast?.bind IssueEntry.cell).bind s.audioCell with
  | some a => .audio (concealmentCopy a)
  | none => .blank

/-- An issue answered empty on a LIVE stream (R118). -/
def issueConcealed (z : ZoneNo) (gainStart : Nat) (s : State) : IssueEntry × State :=
  let r := s.zone z
  let silent := silentEntry r s.block gainStart
  if r.prevKind = some .normal then
    match takeCell .concealment s with
    | some (c, s') =>
        let e := repeatEntry r s.block gainStart c
        (e, (s'.setCell c (s.copyOfNewest z)).modZone z fun r => r.addEntry e)
    | none => (silent, s.modZone z fun r => r.addEntry silent)
  else (silent, s.modZone z fun r => r.addEntry silent)

/-- An issue answered empty on a PACED stream (R119). -/
def issueStarved (z : ZoneNo) (st : StreamNo) (gainStart : Nat) (s : State) : IssueEntry × State :=
  let e := silentEntry (s.zone z) s.block gainStart
  (e, offerEvent .zoneStarved z.val [f1 st.val, f2 e.number.toNat, f6 e.block]
    (s.modZone z fun r => r.addEntry e))

/-- An issue answered with a cell (R117). -/
def issueNormal (z : ZoneNo) (c : CellNo) (gainStart : Nat) (s : State) : IssueEntry × State :=
  let e := normalEntry (s.zone z) s.block gainStart c (s.audioCell c)
  (e, s.modZone z fun r => r.addEntry e)

/-- The issue of one entry by a zone (R112 step 4). A PLAYING zone without a stream does not arise; it
would issue SILENT. -/
def issue (z : ZoneNo) (gainStart : Nat) (s : State) : IssueEntry × State :=
  match (s.activeZone z).stream with
  | none =>
      let e := silentEntry (s.zone z) s.block gainStart
      (e, s.modZone z fun r => r.addEntry e)
  | some st =>
      match issueAnswer st s with
      | (some c, s') => issueNormal z c gainStart s'
      | (none, s') =>
          match (s.stream st).cls with
          | .live => issueConcealed z gainStart s'
          | .paced => issueStarved z st gainStart s'

/-- A tap block put into the buffer: discarded while the Source Link is DOWN (R199), in place of the
oldest when the buffer is full (R134). -/
def bufferTap (b : TapBlock) (s : State) : State :=
  if s.source.up then
    selectSource (s.modTap fun t =>
      if t.buffer.length < Config.tapCapacity then { t with buffer := t.buffer ++ [b] }
      else { t with buffer := t.buffer.drop 1 ++ [b], overruns := bump t.overruns 1 })
  else s.modTap fun t => { t with overruns := bump t.overruns 1 }

/-- The tap block of an issue, when the tap is ARMED or ACTIVE for the zone (R134). -/
def tapIssue (z : ZoneNo) (e : IssueEntry) (s : State) : State :=
  if s.playout.tap.state.zone = some z then
    bufferTap
      { zone := z, number := e.number, block := e.block, samples := tapSamples (s.entryCell e) e }
      (s.modTap fun t => { t with state := .active z })
  else s

/-- Whether the cell of an entry carries END (R112 step 5). A concealment copy never does (R22). -/
def State.entryEnds (s : State) (e : IssueEntry) : Bool :=
  match s.entryCell e with
  | some a => a.endFlag
  | none => false

/-- Steps 3 to 5 of the work of a PLAYING zone (R112). -/
def issueWork (z : ZoneNo) (s : State) : State :=
  let gainStart := (s.zone z).gain
  let s := s.modZone z fun r => { r with gain := nextGain r.gain r.target r.gainStep }
  let (e, s) := issue z gainStart s
  let s := firstSends z e (tapIssue z e s)
  if s.entryEnds e then settleDraining z (enterDraining z s) else s

/-- Steps 2 to 5 of the work of a PLAYING zone (R112): the cues come first, and a zone they leave
DRAINING issues nothing. -/
def playingSteps (z : ZoneNo) (s : State) : State :=
  let s := boundaryNotice z s
  if (s.zone z).state = .playing then issueWork z s else s

/-- Whether a PRIMING zone enters PLAYING (R111 step 3). -/
def State.primed (s : State) (z : ZoneNo) : Bool :=
  let d := s.activeZone z
  let (count, hasEnd) := primingAnswer d.stream s
  let ringClear :=
    match (s.zone z).ring.getLast? with
    | none => true
    | some e => decide (e.block < s.block + d.lead)
  (decide (d.primeDepth ≤ count) || hasEnd) && ringClear

/-- A zone entering PLAYING, up to its report (R111 step 4). -/
def enterPlaying (z : ZoneNo) (s : State) : State :=
  let d := s.activeZone z
  let s := s.modZone z fun r =>
    { r with state := .playing, runningLead := d.lead, runningPrime := d.primeDepth }
  let s := if d.kind = .overlay then entryNotice z s else s
  offerEvent .zonePlaying z.val [f1 d.lead, f1 d.primeDepth, f6 s.block] s

/-- The work of a PRIMING zone (R111). -/
def primingWork (z : ZoneNo) (s : State) : State :=
  let s := releaseDue z s
  if s.block = (s.zone z).primingBegan then s
  else if s.primed z then playingSteps z (enterPlaying z s)
  else s

/-- The work of a PLAYING zone (R112). -/
def playingWork (z : ZoneNo) (s : State) : State := playingSteps z (releaseDue z s)

/-- The work of a DRAINING zone (R113): a zone that the release brings to IDLE runs no cues (R157). -/
def drainingWork (z : ZoneNo) (s : State) : State :=
  let s := settleDraining z (releaseDue z s)
  if (s.zone z).state = .draining then boundaryNotice z s else s

/-- A zone's work of the current boundary, by its state (Table 45). -/
def zoneWork (z : ZoneNo) (s : State) : State :=
  match (s.zone z).state with
  | .idle => s
  | .priming => primingWork z s
  | .playing => playingWork z s
  | .draining => drainingWork z s

end Sys2Proof.Machine
end

