-- ==== Sys2Proof/Machine/Boundary.lean ====
section
/-! DEFINITION. The part's own events: the boundary with its works (R2), the beacon (R10), the election
(R6 to R8), the firing of marks (R15 to R17), and the passing of time; the meanings of the rows
RST_N_RELEASE, RST_N_ASSERTION, BLOCK_BOUNDARY, BEACON, ELECTION, MARK_FIRING, WAIT_RUNS_OUT,
SILENCE_STALE and SILENCE_LOST. -/

namespace Sys2Proof.Machine

open Sys2Proof

/-! ### τ and the election -/

/-- A write of τ, clamped; an applied change that is not zero is handed to the Clock Tracker (R3). -/
def writeTau (v : Int) (s : State) : State :=
  let change := clampRate v - s.timeline.tau
  let s := s.modTimeline fun t => { t with tau := clampRate v }
  if change = 0 then s else rateChange change s

/-- Whether a stream is a candidate (R6). -/
def State.isCandidate (s : State) (st : StreamNo) : Bool :=
  s.timeline.candidates.getLsbD st.val && (s.stream st).present && (s.stream st).cls == .live
    && (s.entry (streamEntry st)).state == .locked

/-- ρ of a stream's tracker entry. -/
def State.streamRho (s : State) (st : StreamNo) : Int := (s.entry (streamEntry st)).rho

/-- The first stream of a list that no other exceeds in ρ (R7 step 1). -/
def greatestRho (rho : StreamNo → Int) : List StreamNo → Option StreamNo
  | [] => none
  | st :: rest =>
      match greatestRho rho rest with
      | none => some st
      | some other => if rho st < rho other then some other else some st

/-- The candidate that an election elects (R7 step 1). -/
def State.electee (s : State) : Option StreamNo :=
  greatestRho s.streamRho (allStreams.filter s.isCandidate)

/-- An election that finds a candidate (R7, R8). -/
def elect (st : StreamNo) (s : State) : State :=
  let rho := s.streamRho st
  let before := s.timeline.tau
  let held := s.timeline.elected
  let slew := clampInt (-Config.slewLimit) Config.slewLimit (rho + Config.electionBias)
  let s := writeTau (before + slew) s
  let s := s.modTimeline fun t => { t with elected := some st, noCandidate := false }
  if held = some st then s
  else
    offerEvent .timebaseElected st.val
      [fRate rho, fRate (s.timeline.tau - before), fRate s.timeline.tau] s

/-- An election that finds no candidate (R8). -/
def electNone (s : State) : State :=
  let known := s.timeline.noCandidate
  let s := s.modTimeline fun t => { t with elected := none, noCandidate := true }
  if known then s else offerEvent .timebaseNoCandidate 0 [fRate s.timeline.tau] s

/-- The election of the current boundary, where it is due and the mode is FASTEST when it is taken (R7,
R9). -/
def takeElection (s : State) : State :=
  if s.agenda.election then
    let s := s.modAgenda fun a => { a with election := false }
    if s.timeline.mode = .fastest then
      match s.electee with
      | some st => elect st s
      | none => electNone s
    else s
  else s

/-! ### The beacon -/

/-- The Beacon Log with a new entry; the oldest goes when there are already 16 (R11). -/
def logBeacon (log : List (SerialNo × Nat)) (n : SerialNo) (block : Nat) : List (SerialNo × Nat) :=
  (if log.length < Config.beaconLogCapacity then log else log.drop 1) ++ [(n, block)]

/-- An entry's share of the latest beacon notice, where it is due. -/
def dueNotice (e : EntryNo) (s : State) : State :=
  if tblGet s.agenda.notices e then
    takeNotice e (s.modAgenda fun a => { a with notices := tblSet a.notices e false })
  else s

/-- The shares of a beacon notice that are due taken for a list of entries. -/
def dueNotices (l : List EntryNo) (s : State) : State := s.forEach l dueNotice

/-- Steps 1 to 3 of a beacon, and its notice made due for every entry (R10). -/
def emitBeacon (interval : Nat) (s : State) : State :=
  let n := s.timeline.beaconNumber + 1
  let s := s.modTimeline fun t =>
    { t with beaconNumber := n, beaconLog := logBeacon t.beaconLog n t.block }
  let s := handBeacon n s.block interval s
  s.modAgenda fun a => { a with beacon := none, notices := Vector.replicate 40 true }

/-- The beacon of the current boundary, where it is due (R10, R71); the entries of `later` take their
share of the notice afterwards. -/
def takeBeacon (later : List EntryNo) (s : State) : State :=
  match s.agenda.beacon with
  | none => s
  | some interval =>
      dueNotices (allEntries.filter fun e => !later.contains e)
        (emitBeacon interval (dueNotices allEntries s))

/-! ### Marks -/

/-- The MARK report of a firing (R15, R204); the reason stands last. -/
def markReport (k : MarkNo) (mk : Mark) (code : EventCode) (reason : List Field) (s : State) : State :=
  offerEvent code k.val
    ([f1 mk.action.code, fIndex mk.zone, f6 mk.block, f6 s.block, fFlag mk.late] ++ reason) s

/-- The code of a firing whose action was carried out (Table 9). -/
def Mark.carriedOut (mk : Mark) : EventCode := if mk.late then .markLate else .markFired

/-- A firing mark's action and report (R15 to R17). A START or STOP without a zone does not arise
(R13). -/
def markAction (k : MarkNo) (mk : Mark) (s : State) : State :=
  match mk.action with
  | .notify => markReport k mk mk.carriedOut [] s
  | .swap =>
      if s.agenda.swap || s.agenda.swapTaken then markReport k mk .markMerged [] s
      else markReport k mk mk.carriedOut [] (takeSwap s)
  | .start =>
      match mk.zone with
      | none => markReport k mk mk.carriedOut [] s
      | some z =>
          match startRefusal z s with
          | some status => markReport k mk .markActionRefused [f1 status.code] s
          | none => markReport k mk mk.carriedOut [] (startZone z s)
  | .stop =>
      match mk.zone with
      | none => markReport k mk mk.carriedOut [] s
      | some z => markReport k mk mk.carriedOut [] (softStop z s)

/-- A mark's firing, where it is due: the slot disarmed, the action, the report (R15). -/
def fireMark (k : MarkNo) (s : State) : State :=
  if tblGet s.agenda.marks k then
    let mk := s.mark k
    let s := s.modAgenda fun a => { a with marks := tblSet a.marks k false }
    if mk.armed then markAction k mk (s.modMark k fun m => { m with armed := false }) else s
  else s

/-- The requests of the SWAP marks that are due (R94). -/
def fireSwapMark (k : MarkNo) (s : State) : State :=
  if (s.mark k).action = .swap then fireMark k s else s

/-- The swap of the boundary settled: a pending swap, then the requests of SWAP marks (R94, R95). -/
def settleSwap (s : State) : State :=
  (if s.agenda.swap then takeSwap s else s).forEach allMarks fireSwapMark

/-! ### The boundary -/

/-- A zone's work of the current boundary, where it is due, on the plan that the swap left (R95). -/
def dueZone (z : ZoneNo) (s : State) : State :=
  if tblGet s.agenda.zones z then
    zoneWork z ((settleSwap s).modAgenda fun a => { a with zones := tblSet a.zones z false })
  else s

/-- A mark's firing; a START or STOP is judged after any swap of the boundary (R17). -/
def dueMark (k : MarkNo) (s : State) : State :=
  match (s.mark k).action with
  | .notify => fireMark k s
  | .swap => fireMark k s
  | .start => fireMark k (settleSwap s)
  | .stop => fireMark k (settleSwap s)

/-- One work of the current boundary, where it is due. -/
def runTask (t : BoundaryTask) (s : State) : State :=
  match t with
  | .swap => settleSwap s
  | .beacon => takeBeacon [] s
  | .election => takeElection s
  | .mark k => dueMark k s
  | .zone z => dueZone z s

/-- The works of a boundary in the order taken where nothing else is said (DESIGN CHOICE, log entry 2):
the Plan, the Timeline's own three, then the zones, ascending. -/
def allTasks : List BoundaryTask :=
  [.swap, .beacon] ++ allMarks.map .mark ++ [.election] ++ allZones.map .zone

/-- Everything that the current boundary still has to do. -/
def finishBoundary (s : State) : State := dueNotices allEntries (s.forEach allTasks runTask)

/-- Whether the current boundary still has something to do. -/
def Agenda.busy (a : Agenda) : Bool :=
  a.beacon.isSome || a.election || a.swap || a.marks.toList.any id || a.zones.toList.any id
    || a.notices.toList.any id

/-- What boundary `n` finds due, with the timeline as it stands (R7, R10, R15, R95). -/
def agendaAt (n : Nat) (s : State) : Agenda :=
  { beacon :=
      if n % s.timeline.beaconInterval = 0 then some s.timeline.beaconInterval else none
    election := decide (n % Config.electionPeriod = 0)
    marks := tblMap s.timeline.marks fun m => m.armed && (decide (m.block = n) || m.late)
    swap := s.plan.swapPending
    swapTaken := false
    zones := Vector.replicate 8 true
    notices := Vector.replicate 40 false }

/-- T reaches the next multiple of 128: the block number advances and its works fall due (R2). -/
def openBoundary (s : State) : State :=
  let n := s.block + 1
  { s with
    timeline := { s.timeline with count := Config.blockLength * n, block := n }
    agenda := agendaAt n s }

/-- The works of a boundary just opened: the swap before all is left, those named first in their order,
then the others but those put off. The swap and the SWAP marks are never put off (R94, R95). -/
def boundaryWorks (order later : List BoundaryTask) (s : State) : State :=
  let works := (order ++ allTasks).filter fun t => t == .swap || !later.contains t
  settleSwap (s.forEach works runTask)

/-- A boundary: what the last one left is finished first (log entry 2). -/
def takeBoundary (order later : List BoundaryTask) (s : State) : State :=
  boundaryWorks order later (openBoundary (finishBoundary s))

/-- The outcome of a boundary: past 48 bits of T the manual gives no effect (log entry 1). -/
def boundaryOutcome (order later : List BoundaryTask) (s : State) : Result :=
  if s.rstLow then .next s
  else if s.block + 1 < Config.blockLimit then .next (takeBoundary order later s)
  else .fault .timelineExhausted

/-- What passes when no command waits (log entry 3): what the boundary left to do, else one timeline
sample, at whose end the next boundary may stand (R1, R2). -/
def idle (s : State) : Result :=
  if s.rstLow then .next s
  else if s.agenda.busy then .next (finishBoundary s)
  else if s.timeline.count + 1 < Config.blockLength * (s.block + 1) then
    .next (s.modTimeline fun t => { t with count := t.count + 1 })
  else boundaryOutcome [] [] s

/-! ### Meanings -/

/-- RST_N_RELEASE (R1, R19): the power-on values of every block; the waiting commands stand. -/
def execRstNRelease (s : State) : Result := .next { State.reset with pending := s.pending }

/-- RST_N_ASSERTION (R1): the part at rest, T at 0 and not counting, until the release. -/
def execRstNAssertion (s : State) : Result :=
  .next { State.reset with rstLow := true, pending := s.pending }

/-- BLOCK_BOUNDARY (R2). -/
def execBlockBoundary (order later : List BoundaryTask) (s : State) : Result :=
  boundaryOutcome order later s

/-- BEACON (R10). -/
def execBeacon (later : List EntryNo) (s : State) : Result := s.awake (takeBeacon later)

/-- ELECTION (R7). -/
def execElection (s : State) : Result := s.awake takeElection

/-- MARK_FIRING (R15). -/
def execMarkFiring (slot : MarkNo) (s : State) : Result := s.awake (dueMark slot)

/-- Whether a zone's work of the current boundary hands the Cue Engine a boundary notice (R157): PLAYING,
or PRIMING and about to enter it, or DRAINING with an entry that the release leaves. -/
def State.handsNotice (s : State) (z : ZoneNo) : Bool :=
  match (s.zone z).state with
  | .idle => false
  | .priming => decide (s.block ≠ (s.zone z).primingBegan) && s.primed z
  | .playing => true
  | .draining => (s.zone z).ring.any fun e => decide (s.block < e.block)

/-- WAIT_RUNS_OUT (R158): the work of a zone, due and with a cue wait that runs out in it, the whole of
it being one event (6.1). The event does not come about otherwise (log entry 2). -/
def waitEvent (z : ZoneNo) (s : State) : State :=
  if tblGet s.agenda.zones z && s.waitRunsOut z && s.handsNotice z then dueZone z s else s

/-- WAIT_RUNS_OUT. -/
def execWaitRunsOut (zone : ZoneNo) (s : State) : Result := s.awake (waitEvent zone)

/-- SILENCE_STALE (R71; log entry 2): an entry's due share of a beacon notice, where it makes it STALE. -/
def staleEvent (e : EntryNo) (s : State) : State :=
  if ((s.entry e).hush s.tracker.params).2.1 then dueNotice e s else s

/-- SILENCE_STALE. -/
def execSilenceStale (entry : EntryNo) (s : State) : Result := s.awake (staleEvent entry)

/-- SILENCE_LOST (R71; log entry 2): an entry's due share of a beacon notice, where it makes it UNLOCKED. -/
def lostEvent (e : EntryNo) (s : State) : State :=
  if ((s.entry e).hush s.tracker.params).2.2 then dueNotice e s else s

/-- SILENCE_LOST. -/
def execSilenceLost (entry : EntryNo) (s : State) : Result := s.awake (lostEvent entry)

end Sys2Proof.Machine
end

