-- ==== Sys2Proof/Machine/Arrival.lean ====
section
/-! DEFINITION. Frames that arrive: SOURCE frames at Stream Intake (3.3) and ECHO frames at the Air Link
(9.4), with the meanings of the rows SOURCE_FRAME and ECHO. -/

namespace Sys2Proof.Machine

open Sys2Proof

/-- The gap of a SOURCE frame against the expected sequence; none for a frame that is behind (R44,
Table 21). -/
def sequenceGap (expected : Option SerialNo) (seq : SerialNo) : Option Nat :=
  match expected with
  | none => some 0
  | some e => if serialBehind seq e then none else some (serialDistance seq e)

/-- The cell at the head of a queue marked DISCONTINUITY (R45 step 3). -/
def markHead (st : StreamNo) (s : State) : State :=
  match (s.stream st).queue with
  | [] => s
  | c :: _ =>
      match s.audioCell c with
      | some a => s.setCell c (.audio { a with discontinuity := true })
      | none => s

/-- A LIVE overflow: the oldest cell released and counted, the new head marked (R45 steps 1 to 3). -/
def overflow (st : StreamNo) (s : State) : State :=
  match (s.stream st).queue with
  | [] => s
  | c :: rest =>
      markHead st
        ((releaseCell c s).modStream st fun d =>
          { (d.count fun k => { k with overflows := bump k.overflows 1 }) with queue := rest })

/-- The cell that a SOURCE frame writes (R21, R48 step 1). -/
def audioCellOf (st : StreamNo) (f : SourceFrame) (discontinuity : Bool) : AudioCell :=
  { stream := st, seq := f.seq, sourceIndex := f.sourceIndex, lanes := f.lanes.toNat,
    endFlag := f.endFlag, discontinuity := discontinuity, samples := f.samples }

/-- The descriptor after an append: queue, expected sequence (any after END), counters, and the demand
re-arming check (R48 steps 2 to 5, R49, R54). -/
def Stream.append (d : Stream) (c : CellNo) (f : SourceFrame) (gap : Nat) : Stream :=
  let queue := d.queue ++ [c]
  { (d.count fun k => { k with accepted := bump k.accepted 1, gaps := bump k.gaps gap }) with
    queue := queue
    expected := if f.endFlag then none else some (f.seq + 1)
    demandArmed :=
      if d.cls = .paced ∧ d.demandMark < queue.length then true else d.demandArmed }

/-- A frame appended, and the observation of a LIVE stream (R48 to R50). -/
def appendFrame (st : StreamNo) (f : SourceFrame) (gap : Nat) (discontinuity : Bool) (c : CellNo)
    (s : State) : State :=
  let s := s.setCell c (.audio (audioCellOf st f discontinuity))
  let s := s.modStream st fun d => d.append c f gap
  if (s.stream st).cls = .live ∧ f.seq.toNat % 32 = 0 then observe st f.sourceIndex s else s

/-- Steps 5 to 8 of Table 20: the intake take, and the append or the store drop (R47 to R50). -/
def storeFrame (st : StreamNo) (f : SourceFrame) (gap : Nat) (discontinuity : Bool) (s : State) :
    State :=
  match takeCell .intake s with
  | some (c, s') => appendFrame st f gap discontinuity c s'
  | none =>
      offerEvent .streamStoreDrop st.val [f2 f.seq.toNat, f4 s.freeCount]
        (s.modStream st fun d => d.count fun k => { k with storeDrops := bump k.storeDrops 1 })

/-- Step 4 of Table 20: a full queue (R45, R46). -/
def admitFrame (st : StreamNo) (f : SourceFrame) (gap : Nat) (s : State) : State :=
  let d := s.stream st
  if d.queue.length < d.quota then storeFrame st f gap (gap != 0) s
  else
    match d.cls with
    | .live =>
        let s := overflow st s
        storeFrame st f gap (gap != 0 || (s.stream st).queue.isEmpty) s
    | .paced =>
        offerEvent .streamOverrun st.val [f2 f.seq.toNat, fQueueCount d.queue.length]
          (s.modStream st fun d => d.count fun k => { k with overruns := bump k.overruns 1 })

/-- A SOURCE frame of a present stream: steps 2 and 3 of Table 20 (R43, R44). -/
def judgeFrame (st : StreamNo) (f : SourceFrame) (s : State) : State :=
  let d := s.stream st
  if f.lanes.toNat ≠ d.lanes then s.countMalformed
  else
    match sequenceGap d.expected f.seq with
    | some gap => admitFrame st f gap s
    | none => s.modStream st fun d => d.count fun k => { k with old := bump k.old 1 }

/-- A SOURCE frame at its arrival: the reception check (R203), then the checks of Table 20. -/
def sourceArrives (f : SourceFrame) (s : State) : State :=
  if !f.received then s.countMalformed
  else
    match streamIndex f.stream with
    | none => s.countStray
    | some st => if (s.stream st).present then judgeFrame st f s else s.countStray

/-- SOURCE_FRAME. -/
def execSourceFrame (f : SourceFrame) (s : State) : Result := s.onSource (sourceArrives f)

/-! ### Echoes -/

/-- The present speaker that carries an air address (R180 step 2). -/
def State.speakerAt (s : State) (address : AirAddress) : Option SpeakerNo :=
  s.presentSpeakers.find? fun sp => (s.activeSpeaker sp).address == address

/-- The ring entry by which an issue number of a gap list is served; none when one of the four
conditions of R181 fails. -/
def State.servedEntry (s : State) (sp : SpeakerNo) (gapZone : Byte) (number : SerialNo) :
    Option (ZoneNo × IssueEntry) :=
  match zoneIndex gapZone with
  | none => none
  | some z =>
      if (s.speaker sp).zone = some z ∧ s.eligible sp then
        match (s.zone z).ring.find? fun e => e.number == number with
        | some e => if s.block + s.store.refillMargin ≤ e.block then some (z, e) else none
        | none => none
      else none

/-- One issue number of a gap list: a REFILL made, or too late (R181). -/
def serveGap (sp : SpeakerNo) (gapZone : Byte) (number : SerialNo) (s : State) : State :=
  match s.servedEntry sp gapZone number with
  | some (z, e) =>
      let again := (s.speaker sp).rampMarker == some (z, number)
      handAudio (s.playoutFrame .refill again sp z e)
        (s.modAirCounters sp fun c => { c with refillsMade := bump c.refillsMade 1 })
  | none => s.modAirCounters sp fun c => { c with refillsTooLate := bump c.refillsTooLate 1 }

/-- The issue numbers of a gap list in its order, a number judged earlier passed over (R181). -/
def gapNumbers : List SerialNo → List SerialNo → List SerialNo
  | [], _ => []
  | n :: rest, seen =>
      if n ∈ seen then gapNumbers rest seen else n :: gapNumbers rest (n :: seen)

/-- The gap list of an echo served (R180 step 4, R181). -/
def serveGaps (sp : SpeakerNo) (f : EchoFrame) (s : State) : State :=
  s.forEach (gapNumbers f.issues []) (serveGap sp f.gapZone)

/-- An ECHO frame at its arrival (R203, R180). -/
def echoArrives (f : EchoFrame) (s : State) : State :=
  if !f.received then s.countMalformed
  else if 4 < f.gapCount.toNat then s.countMalformed
  else
    match s.speakerAt f.address with
    | none => s.countStray
    | some sp =>
        let s := handEcho sp f.beacon f.count f.resync s
        if f.resync then s else serveGaps sp f s

/-- ECHO. -/
def execEcho (f : EchoFrame) (s : State) : Result := s.onAir (echoArrives f)

end Sys2Proof.Machine
end

