-- ==== Sys2Proof/Machine/TimelineCommands.lean ====
section
/-! DEFINITION. The directives of the Timeline: SET TIMEBASE (R5), SET BEACON (R12), ARM MARK (R13) and
DISARM MARK (R14). All require rank 0 (Table 72, R191). -/

namespace Sys2Proof.Machine

open Sys2Proof

/-- A device-wide directive requires rank 0 (R191 step 1). -/
def Header.rankZero (d : Header) : Bool := d.rank == 0

/-- The candidate set replaced (R5). -/
def setCandidates (candidates : BitVec 16) (s : State) : State :=
  s.modTimeline fun t => { t with candidates := candidates }

/-- The mode set; a change of mode, and any LOCAL form, leaves no elected stream and no no-candidate
condition (R5, Table 6). -/
def setMode (mode : TimebaseMode) (s : State) : State :=
  s.modTimeline fun t =>
    if mode = .fastest ∧ t.mode = .fastest then t
    else { t with mode := mode, elected := none, noCandidate := false }

/-- SET TIMEBASE in LOCAL form, taken (R5). -/
def timebaseLocal (d : Header) (tau : Int) (candidates : BitVec 16) (s : State) : State :=
  let s := reply 0x10 d (takenStatus (decide (clampRate tau ≠ tau))) [] s
  setMode .localMode (writeTau tau (setCandidates candidates s))

/-- SET TIMEBASE in FASTEST form, taken (R5): τ is not examined. -/
def timebaseFastest (d : Header) (candidates : BitVec 16) (s : State) : State :=
  setMode .fastest (setCandidates candidates (reply 0x10 d .ok [] s))

/-- SET TIMEBASE (R5). -/
def setTimebase (d : Header) (mode : Byte) (tau candidates : BitVec 16) (s : State) : State :=
  if !Header.rankZero d then reply 0x10 d .rank [] s
  else
    match timebaseModeOf mode with
    | none => reply 0x10 d .value [] s
    | some .localMode => timebaseLocal d tau.toInt candidates s
    | some .fastest => timebaseFastest d candidates s

/-- SET_TIMEBASE_LOCAL. -/
def execSetTimebaseLocal (d : Header) (mode : Byte) (tau candidates : BitVec 16) (s : State) :
    Result :=
  s.onSource (setTimebase d mode tau candidates)

/-- SET_TIMEBASE_FASTEST: the mode byte is 1 (R204). -/
def execSetTimebaseFastest (d : Header) (tau candidates : BitVec 16) (s : State) : Result :=
  s.onSource (setTimebase d 1 tau candidates)

/-- SET BEACON (R12). -/
def setBeacon (d : Header) (interval : Byte) (s : State) : State :=
  if !Header.rankZero d then reply 0x11 d .rank [] s
  else
    let v := clampNat 8 255 interval.toNat
    (reply 0x11 d (takenStatus (decide (v ≠ interval.toNat))) [] s).modTimeline fun t =>
      { t with beaconInterval := v }

/-- SET_BEACON. -/
def execSetBeacon (d : Header) (interval : Byte) (s : State) : Result :=
  s.onSource (setBeacon d interval)

/-- A firing of a slot that the boundary has already taken, and that was put off, comes before a
directive that touches the slot (R18; log entry 2). -/
def settleMark (k : MarkNo) (s : State) : State :=
  if tblGet s.agenda.marks k then dueMark k s else s

/-- The zone of an ARM MARK: for START and STOP the operand, checked; for NOTIFY and SWAP unused and not
examined (R13 step 3). The outer none is out of range. -/
def markZone (action : MarkAction) (zone : Byte) : Option (Option ZoneNo) :=
  match action with
  | .notify => some none
  | .swap => some none
  | .start => (zoneIndex zone).map some
  | .stop => (zoneIndex zone).map some

/-- A slot written whole (R13). -/
def writeMark (k : MarkNo) (block : Nat) (action : MarkAction) (zone : Option ZoneNo) (s : State) :
    State :=
  s.modMark k fun _ =>
    { armed := true, block := block, action := action, zone := zone,
      late := decide (block ≤ s.block) }

/-- ARM MARK (R13). -/
def armMark (d : Header) (slot : Byte) (block : BitVec 48) (action zone : Byte) (s : State) : State :=
  if !Header.rankZero d then reply 0x12 d .rank [] s
  else
    match markIndex slot with
    | none => reply 0x12 d .index [] s
    | some k =>
        match markActionOf action with
        | none => reply 0x12 d .value [] s
        | some act =>
            match markZone act zone with
            | none => reply 0x12 d .index [] s
            | some z =>
                if Config.blockLimit ≤ block.toNat then reply 0x12 d .value [] s
                else writeMark k block.toNat act z (reply 0x12 d .ok [] (settleMark k s))

/-- ARM_MARK. -/
def execArmMark (d : Header) (slot : Byte) (block : BitVec 48) (action zone : Byte) (s : State) :
    Result :=
  s.onSource (armMark d slot block action zone)

/-- DISARM MARK (R14). -/
def disarmMark (d : Header) (slot : Byte) (s : State) : State :=
  if !Header.rankZero d then reply 0x13 d .rank [] s
  else
    match markIndex slot with
    | none => reply 0x13 d .index [] s
    | some k => (reply 0x13 d .ok [] (settleMark k s)).modMark k fun m => { m with armed := false }

/-- DISARM_MARK. -/
def execDisarmMark (d : Header) (slot : Byte) (s : State) : Result := s.onSource (disarmMark d slot)

end Sys2Proof.Machine
end

