-- ==== Sys2Proof/Machine/LinkCommands.lean ====
section
/-! DEFINITION. The links and RESTART: the changes of link state (R183, R184, R199, R200), the completions
of sends (R174, R197), and RESTART with its block resets (R201). -/

namespace Sys2Proof.Machine

open Sys2Proof

/-! ### The Source Link -/

/-- The frame being sent abandoned at a link change (R199): a report is lost, a tap block overrun. A READY
whose sending has begun is such a report, although R200 lets both READYs of a link that goes UP, DOWN and UP
be seen: R200 speaks of a READY that still waits (DEDUCED, log entry 23). -/
def abandonSend (s : State) : State :=
  match s.source.sending with
  | none => s
  | some (.report r) =>
      s.modSource fun l =>
        if r.isAnyEvent then
          { l with sending := none, eventDrops := bump l.eventDrops 1, lossPending := true }
        else { l with sending := none, replyDrops := bump l.replyDrops 1, lossPending := true }
  | some (.tap _) =>
      (s.modSource fun l => { l with sending := none }).modTap fun t =>
        { t with overruns := bump t.overruns 1 }

/-- Every block of the tap buffer discarded, each counted (R199). -/
def discardTaps (s : State) : State :=
  s.modTap fun t => { t with buffer := [], overruns := bump t.overruns t.buffer.length }

/-- The Source Link goes DOWN (R199); a link that is DOWN stays so. -/
def sourceDown (s : State) : State :=
  if s.source.up then (discardTaps (abandonSend s)).modSource fun l => { l with up := false } else s

/-- The Source Link comes UP (R200): the READY report, then the selection; a link that is UP stays so. -/
def sourceUp (s : State) : State :=
  if s.source.up then s else offerReady (s.modSource fun l => { l with up := true })

/-- SOURCE_LINK_DOWN. -/
def execSourceLinkDown (s : State) : Result := s.awake sourceDown

/-- SOURCE_LINK_UP. -/
def execSourceLinkUp (s : State) : Result := s.awake sourceUp

/-- AIR_LINK_DOWN (R183). -/
def execAirLinkDown (s : State) : Result := s.awake airDown

/-- AIR_LINK_UP (R184). -/
def execAirLinkUp (s : State) : Result := s.awake airUp

/-- AIR_SEND_COMPLETE (R174); with no frame being sent there is nothing to complete. -/
def execAirSendComplete (s : State) : Result := s.awake completeAir

/-- SOURCE_SEND_COMPLETE (R197); with no frame being sent there is nothing to complete. -/
def execSourceSendComplete (s : State) : Result := s.awake completeSource

/-! ### RESTART -/

/-- The Report Queue emptied: the reply carries LOSS when a report was removed (R201 steps 1 and 2). -/
def emptyReports (s : State) : State :=
  s.modSource fun l => { l with reports := [], lossPending := !l.reports.isEmpty }

/-- The Timeline's share of RESTART (R19): every mark disarmed; a firing and a swap that the current
boundary left to do do not take place. -/
def restartTimeline (s : State) : State :=
  (s.modTimeline fun t => { t with marks := tblMap t.marks fun m => { m with armed := false } }).modAgenda
    fun a => { a with marks := Vector.replicate 8 false, swap := false }

/-- Zones and tap at RESTART (R138 steps 1 and 2). -/
def restartZones (s : State) : State :=
  s.modPlayout fun p =>
    { p with
      zones := tblMap p.zones fun r => { r with state := .idle, prevKind := none, ring := [] }
      tap := { p.tap with state := .disarmed, buffer := [] } }

/-- One present speaker at RESTART (R138 step 3). -/
def restartSpeaker (sp : SpeakerNo) (s : State) : State := resyncNotice sp (cut sp s)

/-- Zone Playout's share of RESTART (R138). -/
def restartPlayout (s : State) : State :=
  let s := restartZones s
  let s := s.forEach s.presentSpeakers restartSpeaker
  s.forEach allSpeakers recompute

/-- The block resets of RESTART, in their order (R201 step 3). -/
def restartBlocks (s : State) : State :=
  let s := restartStreams (rebuildStore (restartTimeline s))
  let s := restartClaims (restartPlan (restartTracker s))
  restartPlayout (restartAir (restartCues s))

/-- RESTART (R201). -/
def restart (d : Header) (s : State) : State :=
  if !Header.rankZero d then reply 0x03 d .rank [] s
  else restartBlocks (reply 0x03 d .ok [] (emptyReports s))

/-- RESTART. -/
def execRestart (d : Header) (s : State) : Result := s.onSource (restart d)

end Sys2Proof.Machine
end

