-- ==== Sys2Proof/Machine/PlanCommands.lean ====
section
/-! DEFINITION. The rank check of R87 and the directives of the Plan and of the Clock Tracker: STAGE
ZONE (R90), STAGE SPEAKER (R91), UNSTAGE (R92), SWAP (R93), SET TRIM (R88), POLL ACCESSED (R89), RESYNC
SPEAKER (R73) and SET TRACKING (R80). -/

namespace Sys2Proof.Machine

open Sys2Proof

/-! ### The rank check (R87) -/

/-- A directive's rank is at or below a rank. -/
def Header.within (d : Header) (rank : Nat) : Bool := decide (d.rank.toNat ≤ rank)

/-- The rank check of a zone: against its active rank when it is present in the active plan (R87). -/
def State.zoneRank (s : State) (d : Header) (z : ZoneNo) : Bool :=
  !(s.activeZone z).present || Header.within d (s.activeZone z).rank

/-- The rank check of a speaker: against its active rank when it is present in the active plan (R87). -/
def State.speakerRank (s : State) (d : Header) (sp : SpeakerNo) : Bool :=
  !(s.activeSpeaker sp).present || Header.within d (s.activeSpeaker sp).rank

/-! ### STAGE ZONE and STAGE SPEAKER -/

/-- The rank that a staging directive writes (R90, R91). -/
def rankWritten (rank : Byte) : Nat := clampNat 0 3 rank.toNat

/-- The overlay role that a STAGE ZONE writes: none for PROGRAM, whatever the operand; the outer none is
an unknown code (R90 step 3). -/
def overlayRoleOf (kind : ZoneKind) (role : Byte) : Option (Option Role) :=
  match kind with
  | .program => some none
  | .overlay => (roleOf role).map some

/-- The priority that a STAGE ZONE writes (R90). -/
def priorityWritten (kind : ZoneKind) (priority : Byte) : Nat :=
  match kind with
  | .program => 0
  | .overlay => clampNat 1 3 priority.toNat

/-- The member set that a STAGE ZONE writes (R90). -/
def membersWritten (kind : ZoneKind) (members : BitVec 24) : BitVec 24 :=
  match kind with
  | .program => 0
  | .overlay => members

/-- The descriptor that a taken STAGE ZONE writes (R90). -/
def zoneDescOf (o : ZoneOperands) (kind : ZoneKind) (stream : Option StreamNo)
    (cue : Option CueIndex) (role : Option Role) : ZoneDesc :=
  { present := presentOf o.present, kind := kind, priority := priorityWritten kind o.priority,
    rank := rankWritten o.rank, stream := stream, primeDepth := clampNat 1 96 o.primeDepth.toNat,
    lead := clampNat 4 48 o.lead.toNat, startLevel := clampNat 0 32767 o.startLevel.toNat,
    cueEntry := cue, members := membersWritten kind o.members, overlayRole := role }

/-- Whether a STAGE ZONE limited a value (R90): the priority counts for OVERLAY alone. -/
def zoneClamped (o : ZoneOperands) (w : ZoneDesc) : Bool :=
  decide (w.rank ≠ o.rank.toNat) || (w.kind == .overlay && decide (w.priority ≠ o.priority.toNat))
    || decide (w.primeDepth ≠ o.primeDepth.toNat) || decide (w.lead ≠ o.lead.toNat)
    || decide (w.startLevel ≠ o.startLevel.toNat)

/-- A staged zone descriptor written whole. -/
def writeStagedZone (z : ZoneNo) (w : ZoneDesc) (s : State) : State :=
  s.modPlan fun p => { p with staged := { p.staged with zones := tblSet p.staged.zones z w } }

/-- A staged speaker descriptor written whole. -/
def writeStagedSpeaker (sp : SpeakerNo) (w : SpeakerDesc) (s : State) : State :=
  s.modPlan fun p => { p with staged := { p.staged with speakers := tblSet p.staged.speakers sp w } }

/-- Steps 3 and 4 of the checks of STAGE ZONE, and the write (R90). -/
def stageZoneChecked (d : Header) (o : ZoneOperands) (z : ZoneNo) (stream : Option StreamNo)
    (cue : Option CueIndex) (s : State) : State :=
  match zoneKindOf o.kind with
  | none => reply 0x30 d .value [] s
  | some kind =>
      match overlayRoleOf kind o.overlayRole with
      | none => reply 0x30 d .value [] s
      | some role =>
          if s.plan.swapPending then reply 0x30 d .busy [] s
          else
            let w := zoneDescOf o kind stream cue role
            writeStagedZone z w (reply 0x30 d (takenStatus (zoneClamped o w)) [] s)

/-- STAGE ZONE (R90). -/
def stageZone (d : Header) (o : ZoneOperands) (s : State) : State :=
  match zoneIndex o.zone, optStreamIndex o.stream, optCueIndex o.cueEntry with
  | some z, some stream, some cue =>
      if s.zoneRank d z && Header.within d (rankWritten o.rank) then
        stageZoneChecked d o z stream cue s
      else reply 0x30 d .rank [] s
  | _, _, _ => reply 0x30 d .index [] s

/-- STAGE_ZONE. -/
def execStageZone (d : Header) (o : ZoneOperands) (s : State) : Result := s.onSource (stageZone d o)

/-- An air address that a speaker may carry, 1 to 65534 (Table 37). -/
def validAddress (a : AirAddress) : Bool := a != 0 && a != 0xFFFF

/-- The descriptor that a taken STAGE SPEAKER writes (R91). -/
def speakerDescOf (o : SpeakerOperands) (zone : Option ZoneNo) (role : Role) : SpeakerDesc :=
  { present := presentOf o.present, rank := rankWritten o.rank, address := o.address,
    plannedZone := zone, role := role }

/-- Steps 3 and 4 of the checks of STAGE SPEAKER, and the write (R91). -/
def stageSpeakerChecked (d : Header) (o : SpeakerOperands) (sp : SpeakerNo) (zone : Option ZoneNo)
    (s : State) : State :=
  match roleOf o.role with
  | none => reply 0x31 d .value [] s
  | some role =>
      if !validAddress o.address then reply 0x31 d .value [] s
      else if s.plan.swapPending then reply 0x31 d .busy [] s
      else
        let clamped := decide (rankWritten o.rank ≠ o.rank.toNat)
        writeStagedSpeaker sp (speakerDescOf o zone role) (reply 0x31 d (takenStatus clamped) [] s)

/-- STAGE SPEAKER (R91). -/
def stageSpeaker (d : Header) (o : SpeakerOperands) (s : State) : State :=
  match speakerIndex o.speaker, optZoneIndex o.plannedZone with
  | some sp, some zone =>
      if s.speakerRank d sp && Header.within d (rankWritten o.rank) then
        stageSpeakerChecked d o sp zone s
      else reply 0x31 d .rank [] s
  | _, _ => reply 0x31 d .index [] s

/-- STAGE_SPEAKER. -/
def execStageSpeaker (d : Header) (o : SpeakerOperands) (s : State) : Result :=
  s.onSource (stageSpeaker d o)

/-! ### UNSTAGE and SWAP -/

/-- The staged bank written as a copy of the active bank (R92). -/
def copyActive (s : State) : State := s.modPlan fun p => { p with staged := p.active }

/-- UNSTAGE (R92). -/
def unstage (d : Header) (s : State) : State :=
  if !Header.rankZero d then reply 0x32 d .rank [] s
  else if s.plan.swapPending then reply 0x32 d .busy [] s
  else copyActive (reply 0x32 d .ok [] s)

/-- UNSTAGE. -/
def execUnstage (d : Header) (s : State) : Result := s.onSource (unstage d)

/-- A swap would leave a zone as it is, or the directive's rank admits the change (R93). -/
def State.swapAdmitsZone (s : State) (d : Header) (z : ZoneNo) : Bool :=
  s.plan.active.zone z == s.plan.staged.zone z || s.zoneRank d z

/-- A swap would leave a speaker as it is, or the directive's rank admits the change (R93). -/
def State.swapAdmitsSpeaker (s : State) (d : Header) (sp : SpeakerNo) : Bool :=
  s.plan.active.speaker sp == s.plan.staged.speaker sp || s.speakerRank d sp

/-- The rank check of SWAP over every object that it would change (R93). -/
def State.swapRank (s : State) (d : Header) : Bool :=
  allZones.all (s.swapAdmitsZone d) && allSpeakers.all (s.swapAdmitsSpeaker d)

/-- SWAP (R93): the swap is pending for the next boundary. -/
def requestSwap (d : Header) (s : State) : State :=
  if !s.swapRank d then reply 0x33 d .rank [] s
  else if s.plan.swapPending then reply 0x33 d .busy [] s
  else (reply 0x33 d .ok [] s).modPlan fun p => { p with swapPending := true }

/-- SWAP. -/
def execSwap (d : Header) (s : State) : Result := s.onSource (requestSwap d)

/-! ### Trims and accessed flags -/

/-- Trims stored, with the notice of a changed delay (R88). -/
def writeTrim (sp : SpeakerNo) (t : Trim) (s : State) : State :=
  let changed := (s.trim sp).delay ≠ t.delay
  let s := s.modPlan fun p => { p with trims := tblSet p.trims sp t }
  if changed then setRampPending sp s else s

/-- SET TRIM (R88). -/
def setTrim (d : Header) (speaker : Byte) (gain : BitVec 16) (delay : BitVec 24) (s : State) : State :=
  match speakerIndex speaker with
  | none => reply 0x43 d .index [] s
  | some sp =>
      if !(s.activeSpeaker sp).present then reply 0x43 d .absent [] s
      else if !s.speakerRank d sp then reply 0x43 d .rank [] s
      else
        let t : Trim :=
          { gain := clampNat 0 32767 gain.toNat, delay := clampNat 0 1048575 delay.toNat }
        let clamped := decide (t.gain ≠ gain.toNat ∨ t.delay ≠ delay.toNat)
        writeTrim sp t (reply 0x43 d (takenStatus clamped) [] s)

/-- SET_TRIM. -/
def execSetTrim (d : Header) (speaker : Byte) (gain : BitVec 16) (delay : BitVec 24) (s : State) :
    Result :=
  s.onSource (setTrim d speaker gain delay)

/-- The speakers that a POLL ACCESSED reads (R89). -/
def State.polled (s : State) (d : Header) : List SpeakerNo :=
  s.presentSpeakers.filter fun sp => Header.within d (s.activeSpeaker sp).rank

/-- A speaker's accessed flag. -/
def State.accessedFlag (s : State) (sp : SpeakerNo) : Bool := tblGet s.plan.accessed sp

/-- POLL ACCESSED (R89). -/
def pollAccessed (d : Header) (s : State) : State :=
  let read := s.polled d
  (reply 0x44 d .ok [f3 (speakerSet (read.filter s.accessedFlag))] s).forEach read fun sp s =>
    s.setAccessed sp false

/-- POLL_ACCESSED. -/
def execPollAccessed (d : Header) (s : State) : Result := s.onSource (pollAccessed d)

/-! ### The Clock Tracker -/

/-- RESYNC SPEAKER (R73). -/
def resyncSpeaker (d : Header) (speaker : Byte) (s : State) : State :=
  match speakerIndex speaker with
  | none => reply 0x45 d .index [] s
  | some sp =>
      if !s.speakerRank d sp then reply 0x45 d .rank [] s
      else if !(s.activeSpeaker sp).present then reply 0x45 d .absent [] s
      else (reply 0x45 d .ok [] s).modEntry (speakerEntry sp) TrackerEntry.resetEstimate

/-- RESYNC_SPEAKER. -/
def execResyncSpeaker (d : Header) (speaker : Byte) (s : State) : Result :=
  s.onSource (resyncSpeaker d speaker)

/-- The parameters that a SET TRACKING stores: the first six clamped to the ranges of Table 32, then the
lost limit above the stale limit stored (R80). -/
def trackingWritten (o : TrackingOperands) : TrackingParams :=
  let stale := clampNat 2 63 o.staleLimit.toNat
  { g := clampNat 0 7 o.g.toNat, h := clampNat 0 7 o.h.toNat,
    outlierLimit := clampNat 16 4096 o.outlierLimit.toNat,
    phaseLimit := clampNat 256 1048576 o.phaseLimit.toNat,
    acquireCount := clampNat 2 15 o.acquireCount.toNat, staleLimit := stale,
    lostLimit := clampNat (stale + 1) 255 o.lostLimit.toNat }

/-- The operands of a SET TRACKING as they are read (R204). -/
def trackingRead (o : TrackingOperands) : TrackingParams :=
  { g := o.g.toNat, h := o.h.toNat, outlierLimit := o.outlierLimit.toNat,
    phaseLimit := o.phaseLimit.toNat, acquireCount := o.acquireCount.toNat,
    staleLimit := o.staleLimit.toNat, lostLimit := o.lostLimit.toNat }

/-- SET TRACKING (R80). -/
def setTracking (d : Header) (o : TrackingOperands) (s : State) : State :=
  if !Header.rankZero d then reply 0x50 d .rank [] s
  else
    let p := trackingWritten o
    (reply 0x50 d (takenStatus (p != trackingRead o)) [] s).modTracker fun t => { t with params := p }

/-- SET_TRACKING. -/
def execSetTracking (d : Header) (o : TrackingOperands) (s : State) : Result :=
  s.onSource (setTracking d o)

end Sys2Proof.Machine
end

