-- ==== Sys2Proof/Machine/StreamCommands.lean ====
section
/-! DEFINITION. The directives of Stream Intake and of the Cell Store: OPEN STREAM (R38), CLOSE STREAM
(R39), FLUSH STREAM (R40), QUERY STREAM (R55), SET STORE (R32) and QUERY STORE (R34). -/

namespace Sys2Proof.Machine

open Sys2Proof

/-- The descriptor that an OPEN STREAM leaves (R38): the queue, empty while absent, is left. -/
def Stream.opened (d : Stream) (cls : StreamClass) (lanes quota demandMark : Nat) : Stream :=
  { d with
    present := true, cls := cls, lanes := lanes, quota := quota, demandMark := demandMark
    expected := none, demandArmed := false, counters := StreamCounters.reset }

/-- The report that follows the reply of OPEN STREAM for a PACED stream (R38). -/
def openReport (st : StreamNo) (s : State) : State :=
  if (s.stream st).cls = .paced then demandReport st s else s

/-- OPEN STREAM of a stream in range, taken (R38). -/
def openTaken (d : Header) (st : StreamNo) (cls : StreamClass) (lanes quota mark : Nat) (s : State) :
    State :=
  let q := clampNat 1 256 quota
  let m := clampNat 0 q mark
  let s := reply 0x20 d (takenStatus (decide (q ≠ quota ∨ m ≠ mark))) [] s
  openReport st (s.modStream st fun x => x.opened cls lanes q m)

/-- OPEN STREAM (R191, R38). -/
def openStream (d : Header) (stream cls lanes : Byte) (quota mark : BitVec 16) (s : State) : State :=
  if !Header.rankZero d then reply 0x20 d .rank [] s
  else
    match streamIndex stream with
    | none => reply 0x20 d .index [] s
    | some st =>
        if (s.stream st).present then reply 0x20 d .busy [] s
        else
          match streamClassOf cls with
          | none => reply 0x20 d .value [] s
          | some c =>
              if lanes = 1 ∨ lanes = 2 then
                openTaken d st c lanes.toNat quota.toNat mark.toNat s
              else reply 0x20 d .value [] s

/-- OPEN_STREAM. -/
def execOpenStream (d : Header) (stream cls lanes : Byte) (quota mark : BitVec 16) (s : State) :
    Result :=
  s.onSource (openStream d stream cls lanes quota mark)

/-- CLOSE STREAM of a stream in range, taken (R39). -/
def closeTaken (st : StreamNo) (s : State) : State :=
  (emptyQueue st s).modStream st fun x => { x with demandArmed := false, present := false }

/-- CLOSE STREAM (R191, R39). -/
def closeStream (d : Header) (stream : Byte) (s : State) : State :=
  if !Header.rankZero d then reply 0x21 d .rank [] s
  else
    match streamIndex stream with
    | none => reply 0x21 d .index [] s
    | some st =>
        if !(s.stream st).present then reply 0x21 d .absent [] s
        else if (s.boundZone st).isSome then reply 0x21 d .bound [] s
        else closeTaken st (reply 0x21 d .ok [] s)

/-- CLOSE_STREAM. -/
def execCloseStream (d : Header) (stream : Byte) (s : State) : Result :=
  s.onSource (closeStream d stream)

/-- FLUSH STREAM (R191, R40). -/
def flushStream (d : Header) (stream : Byte) (s : State) : State :=
  if !Header.rankZero d then reply 0x22 d .rank [] s
  else
    match streamIndex stream with
    | none => reply 0x22 d .index [] s
    | some st =>
        if !(s.stream st).present then reply 0x22 d .absent [] s
        else flushQueue st (reply 0x22 d .ok [] s)

/-- FLUSH_STREAM. -/
def execFlushStream (d : Header) (stream : Byte) (s : State) : Result :=
  s.onSource (flushStream d stream)

/-- The state, ρ and five counters of a tracker entry, as QUERY STREAM gives them (R55 item 9); the
counters stand in the order of Table 27. -/
def TrackerEntry.counterFields (e : TrackerEntry) : List Field :=
  [f4 e.echoesAccepted, f4 e.outliers, f4 e.staleEchoes, f4 e.phaseSteps, f4 e.clamps]

/-- The eight counters of Table 22, in its order. -/
def StreamCounters.fields (k : StreamCounters) : List Field :=
  [f4 k.accepted, f4 k.gaps, f4 k.old, f4 k.overflows, f4 k.overruns, f4 k.storeDrops, f4 k.slips,
   f4 k.underruns]

/-- The payload of QUERY STREAM (R55). Table 86 has no row for the demand mark; it has the two bytes of its
operand (DEDUCED, log entry 7). -/
def streamPayload (st : StreamNo) (s : State) : List Field :=
  let d := s.stream st
  let e := s.entry (streamEntry st)
  [fFlag d.present, f1 d.cls.code, f1 d.lanes, f2 d.quota, f2 d.demandMark]
    ++ fOptional 2 (d.expected.map BitVec.toNat)
    ++ [fQueueCount d.queue.length, fFlag (s.queueHasEnd st), fFlag d.demandArmed, fIndex (s.boundZone st)]
    ++ d.counters.fields
    ++ [f1 e.state.code, fRate e.rho] ++ e.counterFields

/-- QUERY STREAM (R191, R55). -/
def queryStream (d : Header) (stream : Byte) (s : State) : State :=
  match streamIndex stream with
  | none => reply 0x23 d .index [] s
  | some st => reply 0x23 d .ok (streamPayload st s) s

/-- QUERY_STREAM. -/
def execQueryStream (d : Header) (stream : Byte) (s : State) : Result :=
  s.onSource (queryStream d stream)

/-- SET STORE (R32). -/
def setStore (d : Header) (mark : BitVec 16) (reserve margin : Byte) (s : State) : State :=
  if !Header.rankZero d then reply 0x51 d .rank [] s
  else
    let m := clampNat 0 1023 mark.toNat
    let r := clampNat 0 64 reserve.toNat
    let g := clampNat 1 8 margin.toNat
    let clamped := decide (m ≠ mark.toNat ∨ r ≠ reserve.toNat ∨ g ≠ margin.toNat)
    (reply 0x51 d (takenStatus clamped) [] s).modStore fun st =>
      ({ st with depletionMark := m, claimReserve := r, refillMargin := g } : CellStore).rearm

/-- SET_STORE. -/
def execSetStore (d : Header) (mark : BitVec 16) (reserve margin : Byte) (s : State) : Result :=
  s.onSource (setStore d mark reserve margin)

/-- The number of cells in all stream queues together (R34). -/
def State.queuedCells (s : State) : Nat :=
  (allStreams.map fun st => (s.stream st).queue.length).sum

/-- The number of cells referenced by all Issue Rings together (R34). -/
def State.ringedCells (s : State) : Nat :=
  (allZones.map fun z => ((s.zone z).ring.filterMap IssueEntry.cell).length).sum

/-- The number of claim records on all Claim Stacks together (R34, R151). -/
def State.claimRecords (s : State) : Nat := (allSpeakers.map fun sp => (s.claimStack sp).length).sum

/-- The payload of QUERY STORE (R34). -/
def storePayload (s : State) : List Field :=
  [f4 s.freeCount, f4 s.queuedCells, f4 s.ringedCells, f4 s.claimRecords, f4 s.store.depletionMark,
   f4 s.store.claimReserve, f4 s.store.refillMargin, fFlag s.store.depletionArmed]

/-- QUERY STORE (R34). -/
def queryStore (d : Header) (s : State) : State := reply 0x52 d .ok (storePayload s) s

/-- QUERY_STORE. -/
def execQueryStore (d : Header) (s : State) : Result := s.onSource (queryStore d)

end Sys2Proof.Machine
end

