-- ==== Sys2Proof/Machine/Queries.lean ====
section
/-! DEFINITION. IDENTIFY (R193) and the queries of the whole part, of a zone and of a speaker: QUERY
DEVICE (R194), QUERY ZONE and QUERY SPEAKER (R104), with the parts that each block adds, in the order of
Table 72. They are taken at any rank and change nothing but the Report Queue (R191, R192). -/

namespace Sys2Proof.Machine

open Sys2Proof

/-! ### IDENTIFY -/

/-- The payload of IDENTIFY (R193, Table 3). -/
def identifyPayload : List Field :=
  [f2 Config.vendorCode, f2 Config.partNumber, f1 Config.revision, f2 Config.cellCount, f2 16, f2 8,
   f2 24, f2 40, f2 8, f2 512, f2 Config.reportCapacity, f2 Config.airCapacity]

/-- IDENTIFY (R193). -/
def identify (d : Header) (s : State) : State := reply 0x01 d .ok identifyPayload s

/-- IDENTIFY. -/
def execIdentify (d : Header) (s : State) : Result := s.onSource (identify d)

/-! ### QUERY DEVICE -/

/-- The timebase, beacon and timeline values (R4). -/
def timelineFields (t : Timeline) : List Field :=
  [f1 t.mode.code, fRate t.tau, f2 t.candidates.toNat, fIndex t.elected, fFlag t.noCandidate,
   f1 t.beaconInterval, f2 t.beaconNumber.toNat, f6 t.count, f6 t.block]

/-- The tap's part (R135). -/
def tapFields (t : Tap) : List Field :=
  [f1 t.state.code, fIndex t.state.zone, f1 t.buffer.length, f4 t.overruns]

/-- The Air Link's part (R185). -/
def airFields (a : AirLink) : List Field :=
  [fFlag a.up, fFlag a.sending.isSome, f1 a.control.length, f1 a.audio.length, f4 a.controlSent,
   f4 a.audioSent, f4 a.controlDrops, f4 a.downDiscards]

/-- The Source Link's part (R194 item 6). -/
def sourceFields (l : SourceLink) : List Field :=
  [fFlag l.up, f1 l.reports.length, fFlag l.lossPending, f4 l.reportsSent, f4 l.tapSent,
   f4 l.eventDrops, f4 l.replyDrops]

/-- The payload of QUERY DEVICE (R194). -/
def devicePayload (s : State) : List Field :=
  timelineFields s.timeline ++ [fFlag s.plan.swapPending] ++ tapFields s.playout.tap
    ++ airFields s.air ++ [f4 s.intake.strayFrames, f4 s.intake.malformedFrames]
    ++ sourceFields s.source

/-- QUERY DEVICE (R194). -/
def queryDevice (d : Header) (s : State) : State := reply 0x02 d .ok (devicePayload s) s

/-- QUERY_DEVICE. -/
def execQueryDevice (d : Header) (s : State) : Result := s.onSource (queryDevice d)

/-! ### QUERY ZONE -/

/-- A cue index field, 0xFFFF for none (R204). -/
def fCueIndex (i : Option CueIndex) : Field :=
  match i with
  | some i => f2 i.toNat
  | none => f2 0xFFFF

/-- A zone's overlay role; the byte for none is a free value (log entry 6). -/
def fOverlayRole (r : Option Role) : Field :=
  match r with
  | some r => f1 r.code
  | none => f1 Config.noOverlayRoleByte.toNat

/-- A zone descriptor as the operands of STAGE ZONE without the zone (R104). -/
def ZoneDesc.fields (z : ZoneDesc) : List Field :=
  [fFlag z.present, f1 z.kind.code, f1 z.priority, f1 z.rank, fIndex z.stream, f1 z.primeDepth,
   f1 z.lead, f2 z.startLevel, fCueIndex z.cueEntry, f3 z.members.toNat, fOverlayRole z.overlayRole]

/-- The newest entry of a ring that references a cell (R135). -/
def newestCell (ring : List IssueEntry) : Option CellNo := ring.reverse.findSome? IssueEntry.cell

/-- The header fields of a zone's newest referenced cell, each with its presence byte (R135, R204). -/
def headerFields (a : Option AudioCell) : List Field :=
  fOptional 1 (a.map fun a => a.stream.val) ++ fOptional 2 (a.map fun a => a.seq.toNat)
    ++ fOptional 4 (a.map fun a => a.sourceIndex.toNat)

/-- Zone Playout's part of QUERY ZONE (R135). -/
def zoneRunFields (z : ZoneNo) (s : State) : List Field :=
  let r := s.zone z
  [f1 r.state.code, f1 r.runningLead, f1 r.runningPrime, f2 r.gain, f2 r.target, f2 r.gainStep,
   f2 r.issueNumber.toNat, f1 (entryKindCode r.prevKind), f1 r.ring.length]
    ++ fOptional 6 (r.ring.head?.map IssueEntry.block)
    ++ fOptional 6 (r.ring.getLast?.map IssueEntry.block)
    ++ headerFields ((newestCell r.ring).bind s.audioCell)
    ++ [f4 r.issued, f4 r.repeats, f4 r.silents]

/-- The speakers whose stacks hold a record naming a zone (R151). -/
def State.claimedBy (s : State) (z : ZoneNo) : List SpeakerNo :=
  allSpeakers.filter fun sp => (s.claimStack sp).any (s.namesZone z)

/-- The Overlay unit's part of QUERY ZONE (R151). -/
def claimFields (z : ZoneNo) (s : State) : List Field :=
  let k := tblGet s.overlay.counters z
  [f3 (speakerSet (s.claimedBy z)), f4 k.made, f4 k.outranked, f4 k.failed]

/-- The Cue Engine's part of QUERY ZONE (R170); its three counters have the four bytes of a counter (Tables
57 and 86). -/
def CueRun.fields (c : CueRun) : List Field :=
  [f1 c.status.code, f2 c.pointer.toNat, f4 c.wait, f1 c.prescale, f4 c.prescaleCount, f4 c.loopCount,
   f2 c.loopStart.toNat]

/-- The payload of QUERY ZONE (R104, R135, R151, R170). -/
def zonePayload (z : ZoneNo) (s : State) : List Field :=
  (s.plan.active.zone z).fields ++ (s.plan.staged.zone z).fields ++ zoneRunFields z s
    ++ claimFields z s ++ (s.cueRun z).fields

/-- QUERY ZONE. -/
def queryZone (d : Header) (zone : Byte) (s : State) : State :=
  match zoneIndex zone with
  | none => reply 0x34 d .index [] s
  | some z => reply 0x34 d .ok (zonePayload z s) s

/-- QUERY_ZONE. -/
def execQueryZone (d : Header) (zone : Byte) (s : State) : Result := s.onSource (queryZone d zone)

/-! ### QUERY SPEAKER -/

/-- A speaker descriptor as the operands of STAGE SPEAKER without the speaker (R104). -/
def SpeakerDesc.fields (d : SpeakerDesc) : List Field :=
  [fFlag d.present, f1 d.rank, f2 d.address.toNat, fIndex d.plannedZone, f1 d.role.code]

/-- The Plan's part of QUERY SPEAKER (R104). -/
def planFields (sp : SpeakerNo) (s : State) : List Field :=
  (s.plan.active.speaker sp).fields ++ (s.plan.staged.speaker sp).fields
    ++ [f2 (s.trim sp).gain, f3 (s.trim sp).delay, fFlag (s.accessedFlag sp)]

/-- The Clock Tracker's part of QUERY SPEAKER (R79). -/
def TrackerEntry.fields (e : TrackerEntry) : List Field :=
  [f1 e.state.code, fRate e.rho, f6 e.rawT, f4 e.rawL.toNat, f6 e.anchorT, f4 e.anchorL.toNat,
   f1 e.accepted, f1 e.outlierRun, f1 e.silence] ++ e.counterFields

/-- The ramp marker: its presence byte, the zone and the issue number (R135, R204). -/
def markerFields (m : Option (ZoneNo × SerialNo)) : List Field :=
  match m with
  | some (z, n) => [f1 1, f1 z.val, f2 n.toNat]
  | none => [f1 0, f1 0, f2 0]

/-- Zone Playout's part of QUERY SPEAKER (R135). -/
def SpeakerRun.fields (r : SpeakerRun) : List Field :=
  [fIndex r.zone, f1 r.role.code, f6 r.horizon, fFlag r.rampPending] ++ markerFields r.rampMarker
    ++ [f4 r.firstSends, f4 r.backfills, f4 r.overlaps, f4 r.cuts]

/-- One claim record (R104, R151). Table 86 has no row for a priority; it has the one byte of its operand
(DEDUCED, log entry 7). -/
def ClaimCell.fields (c : ClaimCell) : List Field :=
  [f1 c.zone.val, f1 c.priority, f1 c.role.code, f6 c.claimedAt]

/-- The records of a speaker's Claim Stack, from the top down. -/
def State.records (s : State) (sp : SpeakerNo) : List ClaimCell :=
  (s.claimStack sp).filterMap s.claimCell

/-- The Overlay unit's part of QUERY SPEAKER (R151). -/
def stackFields (sp : SpeakerNo) (s : State) : List Field :=
  f1 (s.claimStack sp).length :: (s.records sp).flatMap ClaimCell.fields

/-- The Air Link's part of QUERY SPEAKER (R185). Table 86 has no row for the number of frames waiting; it has one
byte, as a count (DEDUCED, log entry 7). -/
def airSpeakerFields (sp : SpeakerNo) (s : State) : List Field :=
  let k := tblGet s.air.counters sp
  [f4 k.drops, f4 k.lateDiscards, f4 k.cutPurges, f4 k.refillsMade, f4 k.refillsTooLate,
   f1 (s.air.audio.filter fun i => i.speaker == sp).length]

/-- The payload of QUERY SPEAKER (R104, R79, R135, R151, R185). -/
def speakerPayload (sp : SpeakerNo) (s : State) : List Field :=
  planFields sp s ++ (s.entry (speakerEntry sp)).fields ++ (s.speaker sp).fields ++ stackFields sp s
    ++ airSpeakerFields sp s

/-- QUERY SPEAKER. -/
def querySpeaker (d : Header) (speaker : Byte) (s : State) : State :=
  match speakerIndex speaker with
  | none => reply 0x35 d .index [] s
  | some sp => reply 0x35 d .ok (speakerPayload sp s) s

/-- QUERY_SPEAKER. -/
def execQuerySpeaker (d : Header) (speaker : Byte) (s : State) : Result :=
  s.onSource (querySpeaker d speaker)

end Sys2Proof.Machine
end

