-- ==== Sys2Proof/Machine/ZoneCommands.lean ====
section
/-! DEFINITION. The directives of Zone Playout and of the Cue Engine: START ZONE (R108), STOP ZONE (R109,
R110), SET LEVEL (R121), ARM TAP and DISARM TAP (R133), WRITE CUES (R165), CUE GO (R166), CUE HALT and
CUE RESUME (R167) and SET PRESCALE (R168). -/

namespace Sys2Proof.Machine

open Sys2Proof

/-! ### START, STOP and the level -/

/-- START ZONE (R108). -/
def startDirective (d : Header) (zone : Byte) (s : State) : State :=
  match zoneIndex zone with
  | none => reply 0x40 d .index [] s
  | some z =>
      if !s.zoneRank d z then reply 0x40 d .rank [] s
      else
        match startRefusal z s with
        | some status => reply 0x40 d status [] s
        | none => startZone z (reply 0x40 d .ok [] s)

/-- START_ZONE. -/
def execStartZone (d : Header) (zone : Byte) (s : State) : Result :=
  s.onSource (startDirective d zone)

/-- STOP ZONE (R109, R110). -/
def stopZone (d : Header) (zone mode : Byte) (s : State) : State :=
  match zoneIndex zone with
  | none => reply 0x41 d .index [] s
  | some z =>
      match stopModeOf mode with
      | none => reply 0x41 d .value [] s
      | some hard =>
          if !s.zoneRank d z then reply 0x41 d .rank [] s
          else if hard then hardStop z (reply 0x41 d .ok [] s)
          else softStop z (reply 0x41 d .ok [] s)

/-- STOP_ZONE_SOFT. -/
def execStopZoneSoft (d : Header) (zone mode : Byte) (s : State) : Result :=
  s.onSource (stopZone d zone mode)

/-- STOP_ZONE_HARD: the mode byte is 1 (R204). -/
def execStopZoneHard (d : Header) (zone : Byte) (s : State) : Result := s.onSource (stopZone d zone 1)

/-- The checks that SET LEVEL, ARM TAP and the cue directives share: INDEX (of `zone`, where it is out of
range), RANK, ABSENT; then the work of the owning rule (R121, R133, R166 to R168). -/
def onPresentZone (kind : Byte) (d : Header) (zone : Option ZoneNo) (s : State)
    (work : ZoneNo → State) : State :=
  match zone with
  | none => reply kind d .index [] s
  | some z =>
      if !s.zoneRank d z then reply kind d .rank [] s
      else if !(s.activeZone z).present then reply kind d .absent [] s
      else work z

/-- SET LEVEL (R121). -/
def setLevel (d : Header) (zone : Byte) (target gainStep : BitVec 16) (s : State) : State :=
  onPresentZone 0x42 d (zoneIndex zone) s fun z =>
    let t := clampNat 0 32767 target.toNat
    let g := clampNat 0 4095 gainStep.toNat
    let clamped := decide (t ≠ target.toNat ∨ g ≠ gainStep.toNat)
    (reply 0x42 d (takenStatus clamped) [] s).modZone z fun r => { r with target := t, gainStep := g }

/-- SET_LEVEL. -/
def execSetLevel (d : Header) (zone : Byte) (target gainStep : BitVec 16) (s : State) : Result :=
  s.onSource (setLevel d zone target gainStep)

/-! ### The tap (R133) -/

/-- ARM TAP (R133). -/
def armTap (d : Header) (zone : Byte) (s : State) : State :=
  onPresentZone 0x70 d (zoneIndex zone) s fun z =>
    if s.playout.tap.state = .disarmed then
      (reply 0x70 d .ok [] s).modTap fun t => { t with state := .armed z }
    else reply 0x70 d .busy [] s

/-- ARM_TAP. -/
def execArmTap (d : Header) (zone : Byte) (s : State) : Result := s.onSource (armTap d zone)

/-- DISARM TAP (R133): the TAP END report follows the reply. -/
def disarmTap (d : Header) (zone : Byte) (s : State) : State :=
  match zoneIndex zone with
  | none => reply 0x71 d .index [] s
  | some z =>
      if !s.zoneRank d z then reply 0x71 d .rank [] s
      else
        match s.playout.tap.state.zone with
        | none => reply 0x71 d .ok [] s
        | some t => if t = z then endTap z (reply 0x71 d .ok [] s) else reply 0x71 d .busy [] s

/-- DISARM_TAP. -/
def execDisarmTap (d : Header) (zone : Byte) (s : State) : Result := s.onSource (disarmTap d zone)

/-! ### Cues -/

/-- The largest body of a DIRECTIVE frame (R203). -/
def maxDirectiveBody : Nat := 134

/-- WRITE CUES (R165): a length that gives no words is refused with FORM; a body above 134 bytes, one of
more than 32 words, fails reception besides (R203). -/
def writeCues (d : Header) (start : BitVec 16) (words : List CueWord) (s : State) : State :=
  if maxDirectiveBody < 6 + 4 * words.length then reply 0x60 d .form [] s.countMalformed
  else if words.isEmpty then reply 0x60 d .form [] s
  else if !Header.rankZero d then reply 0x60 d .rank [] s
  else
    match cueIndex start with
    | none => reply 0x60 d .index [] s
    | some i =>
        (reply 0x60 d .ok [] s).modCueEngine fun c => { c with memory := writeCueWords words i c.memory }

/-- WRITE_CUES. -/
def execWriteCues (d : Header) (start : BitVec 16) (words : List CueWord) (s : State) : Result :=
  s.onSource (writeCues d start words)

/-- The zone of a CUE GO and the index, when both are in range (R166). -/
def cueGoOperands (zone : Byte) (index : BitVec 16) : Option (ZoneNo × CueIndex) :=
  match zoneIndex zone, cueIndex index with
  | some z, some i => some (z, i)
  | _, _ => none

/-- CUE GO (R166). -/
def cueGo (d : Header) (zone : Byte) (index : BitVec 16) (s : State) : State :=
  match cueGoOperands zone index with
  | none => reply 0x61 d .index [] s
  | some (z, i) =>
      onPresentZone 0x61 d (some z) s fun z =>
        (reply 0x61 d .ok [] s).modCueRun z fun c => { c with pointer := i, status := .running }

/-- CUE_GO. -/
def execCueGo (d : Header) (zone : Byte) (index : BitVec 16) (s : State) : Result :=
  s.onSource (cueGo d zone index)

/-- CUE HALT and CUE RESUME: a program that is RUNNING or HALTED takes the named state; the others are
refused with BUSY (Table 60). -/
def haltOrResume (kind : Byte) (d : Header) (zone : Byte) (status : CueStatus) (s : State) : State :=
  onPresentZone kind d (zoneIndex zone) s fun z =>
    let taken := (reply kind d .ok [] s).modCueRun z fun c => { c with status := status }
    match (s.cueRun z).status with
    | .running => taken
    | .halted => taken
    | .stopped => reply kind d .busy [] s
    | .faulted => reply kind d .busy [] s

/-- CUE_HALT (R167). -/
def execCueHalt (d : Header) (zone : Byte) (s : State) : Result :=
  s.onSource (haltOrResume 0x62 d zone .halted)

/-- CUE_RESUME (R167). -/
def execCueResume (d : Header) (zone : Byte) (s : State) : Result :=
  s.onSource (haltOrResume 0x63 d zone .running)

/-- SET PRESCALE (R168). -/
def setPrescale (d : Header) (zone : Byte) (prescale : BitVec 16) (s : State) : State :=
  onPresentZone 0x64 d (zoneIndex zone) s fun z =>
    let p := clampNat 0 255 prescale.toNat
    (reply 0x64 d (takenStatus (decide (p ≠ prescale.toNat))) [] s).modCueRun z fun c =>
      { c with prescale := p }

/-- SET_PRESCALE. -/
def execSetPrescale (d : Header) (zone : Byte) (prescale : BitVec 16) (s : State) : Result :=
  s.onSource (setPrescale d zone prescale)

end Sys2Proof.Machine
end

