-- ==== Sys2Proof/Machine/Reception.lean ====
section
/-! DEFINITION. Frames that are refused: DIRECTIVE frames of no form (R190) and frames that fail the
reception check (R203). A frame of these two rows that is in fact well formed is handed on to the meaning
it has (log entry 10). -/

namespace Sys2Proof.Machine

open Sys2Proof

/-- The directive dispatch of the part: what a directive of Table 72 does; the other commands, which no
DIRECTIVE frame spells, do nothing here. -/
def dispatch (i : Instr) (s : State) : State :=
  match i with
  | .identify d => identify d s
  | .queryDevice d => queryDevice d s
  | .restart d => restart d s
  | .setTimebaseLocal d mode tau candidates => setTimebase d mode tau candidates s
  | .setTimebaseFastest d tau candidates => setTimebase d 1 tau candidates s
  | .setBeacon d interval => setBeacon d interval s
  | .armMark d slot block action zone => armMark d slot block action zone s
  | .disarmMark d slot => disarmMark d slot s
  | .openStream d stream cls lanes quota mark => openStream d stream cls lanes quota mark s
  | .closeStream d stream => closeStream d stream s
  | .flushStream d stream => flushStream d stream s
  | .queryStream d stream => queryStream d stream s
  | .stageZone d ops => stageZone d ops s
  | .stageSpeaker d ops => stageSpeaker d ops s
  | .unstage d => unstage d s
  | .swap d => requestSwap d s
  | .queryZone d zone => queryZone d zone s
  | .querySpeaker d speaker => querySpeaker d speaker s
  | .startZone d zone => startDirective d zone s
  | .stopZoneSoft d zone mode => stopZone d zone mode s
  | .stopZoneHard d zone => stopZone d zone 1 s
  | .setLevel d zone target gainStep => setLevel d zone target gainStep s
  | .setTrim d speaker gain delay => setTrim d speaker gain delay s
  | .pollAccessed d => pollAccessed d s
  | .resyncSpeaker d speaker => resyncSpeaker d speaker s
  | .setTracking d ops => setTracking d ops s
  | .setStore d mark reserve margin => setStore d mark reserve margin s
  | .queryStore d => queryStore d s
  | .writeCues d start words => writeCues d start words s
  | .cueGo d zone index => cueGo d zone index s
  | .cueHalt d zone => haltOrResume 0x62 d zone .halted s
  | .cueResume d zone => haltOrResume 0x63 d zone .running s
  | .setPrescale d zone prescale => setPrescale d zone prescale s
  | .armTap d zone => armTap d zone s
  | .disarmTap d zone => disarmTap d zone s
  | .unknownDirectiveKind _ _ _ => s
  | .rstNRelease => s
  | .blockBoundary _ _ => s
  | .beacon _ => s
  | .election => s
  | .markFiring _ => s
  | .waitRunsOut _ => s
  | .silenceStale _ => s
  | .silenceLost _ => s
  | .sourceFrame _ => s
  | .echo _ => s
  | .sourceLinkDown => s
  | .sourceLinkUp => s
  | .airLinkDown => s
  | .airLinkUp => s
  | .airSendComplete => s
  | .sourceSendComplete => s
  | .malformedFrame _ _ _ => s
  | .rstNAssertion => s

/-- A frame that fails the reception check and receives no reply (R203). -/
def dropFrame (s : State) : State := s.countMalformed

/-- The REPLY with status FORM (R190, R203). -/
def refuseForm (kind : Byte) (d : Header) (s : State) : State := reply kind d .form [] s

/-- A DIRECTIVE frame at directive dispatch: the form checks of R190, then the directive. -/
def directiveArrives (kind : Byte) (d : Header) (operands : List Byte) (s : State) : State :=
  match parseDirective kind d operands with
  | some i => dispatch i s
  | none => refuseForm kind d s

/-- A DIRECTIVE frame from its kind, header and operand bytes: a body above 134 bytes fails reception and
is answered with FORM (R203); the others reach dispatch (R190). -/
def directiveFrame (kind : Byte) (d : Header) (operands : List Byte) (s : State) : State :=
  if maxDirectiveBody < 4 + operands.length then refuseForm kind d (dropFrame s)
  else directiveArrives kind d operands s

/-- UNKNOWN_DIRECTIVE_KIND (R190). -/
def execUnknownDirectiveKind (kind : Byte) (d : Header) (operands : List Byte) (s : State) : Result :=
  s.onSource (directiveFrame kind d operands)

/-- A DIRECTIVE body: one too short to hold its tag is dropped without a reply (R203). -/
def directiveBody (body : List Byte) (s : State) : State :=
  if body.length < 4 then dropFrame s
  else directiveFrame (fieldAt 8 body 0 1) (parseHeader body) (body.drop 4) s

/-- A raw frame on the Source Link (R203). -/
def sourceLinkFrame (cls : Byte) (body : List Byte) (s : State) : State :=
  if cls = classDirective then directiveBody body s
  else if receptionPasses .source cls body then sourceArrives (parseSource body) s
  else dropFrame s

/-- A raw frame on the Air Link (R203). -/
def airLinkFrame (cls : Byte) (body : List Byte) (s : State) : State :=
  if receptionPasses .air cls body then echoArrives (parseEcho body) s else dropFrame s

/-- MALFORMED_FRAME (R203). -/
def execMalformedFrame (link : Link) (cls : Byte) (body : List Byte) (s : State) : Result :=
  match link with
  | .source => s.onSource (sourceLinkFrame cls body)
  | .air => s.onAir (airLinkFrame cls body)

end Sys2Proof.Machine
end

