-- ==== Sys2Proof/Machine/Dispatch.lean ====
section
/-! DEFINITION. The dispatch of the commands: one arm per row of opcode_table.json. -/

namespace Sys2Proof.Machine

open Sys2Proof

/-- A command's effect on everything but the queue of waiting commands. -/
def exec (i : Instr) (s : State) : Host.Outcome State Fault Refusal :=
  match i with
  | .rstNRelease => Sys2Proof.Machine.execRstNRelease s
  | .blockBoundary order later => Sys2Proof.Machine.execBlockBoundary order later s
  | .beacon later => Sys2Proof.Machine.execBeacon later s
  | .election => Sys2Proof.Machine.execElection s
  | .markFiring slot => Sys2Proof.Machine.execMarkFiring slot s
  | .waitRunsOut zone => Sys2Proof.Machine.execWaitRunsOut zone s
  | .silenceStale entry => Sys2Proof.Machine.execSilenceStale entry s
  | .silenceLost entry => Sys2Proof.Machine.execSilenceLost entry s
  | .sourceFrame frame => Sys2Proof.Machine.execSourceFrame frame s
  | .echo frame => Sys2Proof.Machine.execEcho frame s
  | .unknownDirectiveKind kind d operands => Sys2Proof.Machine.execUnknownDirectiveKind kind d operands s
  | .identify d => Sys2Proof.Machine.execIdentify d s
  | .queryDevice d => Sys2Proof.Machine.execQueryDevice d s
  | .restart d => Sys2Proof.Machine.execRestart d s
  | .setTimebaseLocal d mode tau candidates => Sys2Proof.Machine.execSetTimebaseLocal d mode tau candidates s
  | .setTimebaseFastest d tau candidates => Sys2Proof.Machine.execSetTimebaseFastest d tau candidates s
  | .setBeacon d interval => Sys2Proof.Machine.execSetBeacon d interval s
  | .armMark d slot block action zone => Sys2Proof.Machine.execArmMark d slot block action zone s
  | .disarmMark d slot => Sys2Proof.Machine.execDisarmMark d slot s
  | .openStream d stream cls lanes quota demandMark => Sys2Proof.Machine.execOpenStream d stream cls lanes quota demandMark s
  | .closeStream d stream => Sys2Proof.Machine.execCloseStream d stream s
  | .flushStream d stream => Sys2Proof.Machine.execFlushStream d stream s
  | .queryStream d stream => Sys2Proof.Machine.execQueryStream d stream s
  | .stageZone d ops => Sys2Proof.Machine.execStageZone d ops s
  | .stageSpeaker d ops => Sys2Proof.Machine.execStageSpeaker d ops s
  | .unstage d => Sys2Proof.Machine.execUnstage d s
  | .swap d => Sys2Proof.Machine.execSwap d s
  | .queryZone d zone => Sys2Proof.Machine.execQueryZone d zone s
  | .querySpeaker d speaker => Sys2Proof.Machine.execQuerySpeaker d speaker s
  | .startZone d zone => Sys2Proof.Machine.execStartZone d zone s
  | .stopZoneSoft d zone mode => Sys2Proof.Machine.execStopZoneSoft d zone mode s
  | .stopZoneHard d zone => Sys2Proof.Machine.execStopZoneHard d zone s
  | .setLevel d zone target gainStep => Sys2Proof.Machine.execSetLevel d zone target gainStep s
  | .setTrim d speaker gain delay => Sys2Proof.Machine.execSetTrim d speaker gain delay s
  | .pollAccessed d => Sys2Proof.Machine.execPollAccessed d s
  | .resyncSpeaker d speaker => Sys2Proof.Machine.execResyncSpeaker d speaker s
  | .setTracking d ops => Sys2Proof.Machine.execSetTracking d ops s
  | .setStore d mark reserve margin => Sys2Proof.Machine.execSetStore d mark reserve margin s
  | .queryStore d => Sys2Proof.Machine.execQueryStore d s
  | .writeCues d start words => Sys2Proof.Machine.execWriteCues d start words s
  | .cueGo d zone index => Sys2Proof.Machine.execCueGo d zone index s
  | .cueHalt d zone => Sys2Proof.Machine.execCueHalt d zone s
  | .cueResume d zone => Sys2Proof.Machine.execCueResume d zone s
  | .setPrescale d zone prescale => Sys2Proof.Machine.execSetPrescale d zone prescale s
  | .armTap d zone => Sys2Proof.Machine.execArmTap d zone s
  | .disarmTap d zone => Sys2Proof.Machine.execDisarmTap d zone s
  | .sourceLinkDown => Sys2Proof.Machine.execSourceLinkDown s
  | .sourceLinkUp => Sys2Proof.Machine.execSourceLinkUp s
  | .airLinkDown => Sys2Proof.Machine.execAirLinkDown s
  | .airLinkUp => Sys2Proof.Machine.execAirLinkUp s
  | .airSendComplete => Sys2Proof.Machine.execAirSendComplete s
  | .sourceSendComplete => Sys2Proof.Machine.execSourceSendComplete s
  | .malformedFrame link cls body => Sys2Proof.Machine.execMalformedFrame link cls body s
  | .rstNAssertion => Sys2Proof.Machine.execRstNAssertion s

end Sys2Proof.Machine
end

