-- ==== Sys2Proof/Safety.lean ====
section
/-! DEFINITION. What a sound state of the part is: the laws that the manual states of its blocks at every
moment, each as a predicate of one state. -/

namespace Sys2Proof.Machine

open Sys2Proof

/-! ### The Timeline and the Clock Tracker -/

/-- T stands within the current block, below 48 bits (R1, R2). -/
def State.ClockConsistent (s : State) : Prop :=
  s.timeline.block < Config.blockLimit
    ∧ Config.blockLength * s.timeline.block ≤ s.timeline.count
    ∧ s.timeline.count < Config.blockLength * (s.timeline.block + 1)

/-- τ and every ρ lie within −8192 to +8192 du (R3, R58). -/
def State.RatesBounded (s : State) : Prop :=
  |s.timeline.tau| ≤ Config.rateLimit ∧ ∀ e : EntryNo, |(s.entry e).rho| ≤ Config.rateLimit

/-- The anchor and the raw pair of every tracker entry have one timeline count (R58). -/
def State.AnchorsPaired (s : State) : Prop :=
  ∀ e : EntryNo, (s.entry e).anchorT = (s.entry e).rawT

/-! ### The queues and the links -/

/-- No queue holds more than Table 3 gives it (R11, R132, R173, R195). -/
def State.QueuesBounded (s : State) : Prop :=
  s.timeline.beaconLog.length ≤ Config.beaconLogCapacity
    ∧ s.source.reports.length ≤ Config.reportCapacity
    ∧ s.playout.tap.buffer.length ≤ Config.tapCapacity
    ∧ s.air.control.length + s.air.audio.length ≤ Config.airCapacity

/-- A transmit side sends nothing while its link is DOWN, and on an UP link is FREE only when nothing
waits (R174, R183, R197, R199). -/
def State.LinksConsistent (s : State) : Prop :=
  (s.source.up = false → s.source.sending = none ∧ s.playout.tap.buffer = [])
    ∧ (s.source.up = true → s.source.sending = none →
        s.source.reports = [] ∧ s.playout.tap.buffer = [])
    ∧ (s.air.up = false → s.air.sending = none)
    ∧ (s.air.sending = none → s.air.control = [] ∧ s.air.audio = [])

/-! ### The Cell Store -/

/-- The cells that the rings hold (R20). -/
def State.ringOwned (s : State) : List CellNo := allZones.flatMap fun z => ringCells (s.zone z).ring

/-- The cells that the queues hold (R20). -/
def State.queueOwned (s : State) : List CellNo := allStreams.flatMap fun st => (s.stream st).queue

/-- The cells that the Claim Stacks hold (R20). -/
def State.stackOwned (s : State) : List CellNo := allSpeakers.flatMap s.claimStack

/-- Every place in which a cell stands, one after another (R20). -/
def State.cellPlaces (s : State) : List CellNo :=
  s.store.freeList ++ s.queueOwned ++ s.ringOwned ++ s.stackOwned

/-- Every cell is in exactly one of the free list, a queue, a ring and a Claim Stack (R20). -/
def State.CellsPartitioned (s : State) : Prop := ∀ c : CellNo, s.cellPlaces.count c = 1

/-- Claim Stacks hold CLAIM cells (R20). -/
def State.ClaimsTyped (s : State) : Prop := ∀ c ∈ s.stackOwned, (s.claimCell c).isSome

/-- SILENT entries reference no cell, NORMAL and REPEAT entries one (R20). -/
def State.EntriesTyped (s : State) : Prop :=
  ∀ z : ZoneNo, ∀ e ∈ (s.zone z).ring, e.cell = none ↔ e.kind = .silent

/-! ### Streams, plan and settings -/

/-- A queue stays within its quota; quota and demand mark within their ranges; an absent stream queues
nothing; a LIVE stream is never armed (R37, R38, R54). -/
def Stream.Legal (d : Stream) : Prop :=
  d.queue.length ≤ d.quota ∧ 1 ≤ d.quota ∧ d.quota ≤ 256 ∧ d.demandMark ≤ d.quota
    ∧ (d.present = false → d.queue = []) ∧ (d.cls = .live → d.demandArmed = false)

/-- Every stream descriptor is legal. -/
def State.StreamsLegal (s : State) : Prop := ∀ st : StreamNo, (s.stream st).Legal

/-- The ranges of Table 36, and what a PROGRAM zone holds. -/
def ZoneDesc.Legal (d : ZoneDesc) : Prop :=
  d.rank ≤ 3 ∧ 1 ≤ d.primeDepth ∧ d.primeDepth ≤ 96 ∧ 4 ≤ d.lead ∧ d.lead ≤ 48
    ∧ d.startLevel ≤ 32767
    ∧ (d.kind = .program → d.priority = 0 ∧ d.members = 0 ∧ d.overlayRole = none)
    ∧ (d.kind = .overlay → 1 ≤ d.priority ∧ d.priority ≤ 3 ∧ d.overlayRole.isSome)

/-- The ranges of Table 37. -/
def SpeakerDesc.Legal (d : SpeakerDesc) : Prop :=
  d.rank ≤ 3 ∧ 1 ≤ d.address.toNat ∧ d.address.toNat ≤ 65534

/-- Every descriptor of a bank is within its ranges. -/
def Bank.Legal (b : Bank) : Prop :=
  (∀ z : ZoneNo, (b.zone z).Legal) ∧ ∀ sp : SpeakerNo, (b.speaker sp).Legal

/-- Both banks are within their ranges (Tables 36 and 37). -/
def State.BanksLegal (s : State) : Prop := s.plan.active.Legal ∧ s.plan.staged.Legal

/-- In the active plan each stream is bound to at most one present zone (R96). -/
def State.StreamsUnshared (s : State) : Prop :=
  ∀ st : StreamNo, (s.plan.active.zonesOn st).length ≤ 1

/-- No two speakers that are present in the active plan share an air address (R96). -/
def State.AddressesDistinct (s : State) : Prop :=
  ∀ a b : SpeakerNo, (s.activeSpeaker a).present = true → (s.activeSpeaker b).present = true →
    (s.activeSpeaker a).address = (s.activeSpeaker b).address → a = b

/-- A present speaker's planned zone is a present PROGRAM zone (R96). -/
def State.PlannedZonesValid (s : State) : Prop :=
  ∀ (a : SpeakerNo) (z : ZoneNo), (s.activeSpeaker a).present = true →
    (s.activeSpeaker a).plannedZone = some z →
      (s.activeZone z).present = true ∧ (s.activeZone z).kind = .program

/-- The members of a present overlay are present (R96). -/
def State.MembersPresent (s : State) : Prop :=
  ∀ z : ZoneNo, (s.activeZone z).present = true → (s.activeZone z).kind = .overlay →
    ∀ a : SpeakerNo, (s.activeZone z).members.getLsbD a.val = true →
      (s.activeSpeaker a).present = true

/-- What validation holds of the active plan (R96). -/
def State.PlanValid (s : State) : Prop :=
  s.StreamsUnshared ∧ s.AddressesDistinct ∧ s.PlannedZonesValid ∧ s.MembersPresent

/-- The settings that directives clamp (R12, R32, R80, R88, R168). -/
def State.SettingsInRange (s : State) : Prop :=
  (8 ≤ s.timeline.beaconInterval ∧ s.timeline.beaconInterval ≤ 255)
    ∧ (s.store.depletionMark ≤ 1023 ∧ s.store.claimReserve ≤ 64
        ∧ 1 ≤ s.store.refillMargin ∧ s.store.refillMargin ≤ 8)
    ∧ (s.tracker.params.g ≤ 7 ∧ s.tracker.params.h ≤ 7
        ∧ 16 ≤ s.tracker.params.outlierLimit ∧ s.tracker.params.outlierLimit ≤ 4096
        ∧ 256 ≤ s.tracker.params.phaseLimit ∧ s.tracker.params.phaseLimit ≤ 1048576
        ∧ 2 ≤ s.tracker.params.acquireCount ∧ s.tracker.params.acquireCount ≤ 15
        ∧ 2 ≤ s.tracker.params.staleLimit ∧ s.tracker.params.staleLimit ≤ 63
        ∧ s.tracker.params.staleLimit < s.tracker.params.lostLimit
        ∧ s.tracker.params.lostLimit ≤ 255)
    ∧ (∀ sp : SpeakerNo, (s.trim sp).gain ≤ 32767 ∧ (s.trim sp).delay ≤ 1048575)
    ∧ ∀ z : ZoneNo, (s.cueRun z).prescale ≤ 255

/-! ### Zones and claims -/

/-- Gains, targets and steps within their ranges (Table 43). -/
def State.GainsBounded (s : State) : Prop :=
  ∀ z : ZoneNo, (s.zone z).gain ≤ 32767 ∧ (s.zone z).target ≤ 32767 ∧ (s.zone z).gainStep ≤ 4095

/-- Running lead and prime within the ranges of their descriptor fields (Table 43). -/
def State.LeadsBounded (s : State) : Prop :=
  ∀ z : ZoneNo, 4 ≤ (s.zone z).runningLead ∧ (s.zone z).runningLead ≤ 48
    ∧ 1 ≤ (s.zone z).runningPrime ∧ (s.zone z).runningPrime ≤ 96

/-- A zone that is IDLE holds no ring entries, and a zone that is DRAINING holds some (R113, R114). -/
def State.RingsMatchStates (s : State) : Prop :=
  ∀ z : ZoneNo, ((s.zone z).state = .idle → (s.zone z).ring = [])
    ∧ ((s.zone z).state = .draining → (s.zone z).ring ≠ [])

/-- The entries that a zone has issued since a ring entry was issued, in serial arithmetic (5.3). -/
def ZoneRun.issuesSince (r : ZoneRun) (e : IssueEntry) : Nat := (r.issueNumber - e.number).toNat

/-- Whether a zone's work of the current boundary is still due (log entry 2), as 0 or 1. -/
def State.workDue (s : State) (z : ZoneNo) : Nat := if tblGet s.agenda.zones z then 1 else 0

/-- The law of R116. A ring holds at most the running lead of entries, in strictly increasing issue number and
presentation block. Every presentation block is above the current block once the zone's work is done, and not
below it before. It is at most the running lead ahead, and an entry is followed by at most one issue for each
block that it has been in the ring. Of the previous entry kind: it is none while the zone primes, and while the
zone plays it is the kind of the newest entry, which was issued at the zone's last work (R115, R117 to R119). -/
def State.RingsLawful (s : State) : Prop :=
  ∀ z : ZoneNo, let r := s.zone z
    r.ring.length ≤ r.runningLead
      ∧ r.ring.Pairwise (fun a b => a.block < b.block ∧ r.issuesSince b < r.issuesSince a)
      ∧ (∀ e ∈ r.ring, s.timeline.block < e.block + s.workDue z
          ∧ e.block + s.workDue z ≤ s.timeline.block + r.runningLead
          ∧ r.issuesSince e + e.block + s.workDue z ≤ s.timeline.block + 48)
      ∧ (r.state = .priming → r.prevKind = none)
      ∧ (r.state = .playing → ∀ k, r.prevKind = some k →
          ∃ e, r.ring.getLast? = some e ∧ e.kind = k
            ∧ e.block + s.workDue z = s.timeline.block + r.runningLead)

/-- Queue cells and ring cells are AUDIO cells (R20). -/
def State.AudioTyped (s : State) : Prop := ∀ c ∈ s.queueOwned ++ s.ringOwned, (s.audioCell c).isSome

/-- The priorities of the records of a speaker's stack, from the top down. -/
def State.stackPriorities (s : State) (sp : SpeakerNo) : List Nat :=
  ((s.claimStack sp).filterMap s.claimCell).map ClaimCell.priority

/-- Each stack's priorities fall strictly from the top down, between 3 and 1 (R140). -/
def State.StacksOrdered (s : State) : Prop :=
  ∀ sp : SpeakerNo, (s.stackPriorities sp).Pairwise (· > ·)
    ∧ ∀ q ∈ s.stackPriorities sp, 1 ≤ q ∧ q ≤ 3

/-- The overlay zones that the records of a speaker's stack name, from the top down. -/
def State.recordZones (s : State) (sp : SpeakerNo) : List ZoneNo :=
  ((s.claimStack sp).filterMap s.claimCell).map ClaimCell.zone

/-- No two records of a stack name the same overlay zone, and every record names a zone that is present in the
active plan, of kind OVERLAY, and PLAYING or DRAINING (R140). What makes this inductive stands beside it: a zone
that is not IDLE is present (R96, R108), and the stack of an absent speaker is empty (R148). -/
def State.RecordsLawful (s : State) : Prop :=
  (∀ z : ZoneNo, (s.zone z).state ≠ .idle → (s.activeZone z).present = true)
    ∧ ∀ sp : SpeakerNo, ((s.activeSpeaker sp).present = false → s.claimStack sp = [])
      ∧ (s.recordZones sp).Nodup
      ∧ ∀ z ∈ s.recordZones sp, (s.activeZone z).present = true ∧ (s.activeZone z).kind = .overlay
          ∧ ((s.zone z).state = .playing ∨ (s.zone z).state = .draining)

/-! ### Terms of the claims -/

/-- The Source Link takes a directive and has room for its reply (R189, R195). -/
def State.Listening (s : State) : Prop :=
  s.rstLow = false ∧ s.source.up = true ∧ s.source.reports.length < Config.reportCapacity

/-- An UP Source Link with room after a REPLY was made: it takes the tail entry, with the LOSS flag where
loss was pending, and on a FREE side the oldest report is selected (R192, R195 to R197). -/
def SourceLink.answered (l : SourceLink) (kind : Byte) (d : Header) (status : Status)
    (payload : List Field) (block : Nat) : SourceLink :=
  let r : Report :=
    { sort := .reply kind status d.tag, count := 1, block := block, payload := payload,
      loss := l.lossPending }
  match l.sending, l.reports with
  | some f, q => { l with sending := some f, reports := q ++ [r], lossPending := false }
  | none, [] => { l with sending := some (.report r), reports := [], lossPending := false }
  | none, h :: q =>
      { l with sending := some (.report h), reports := q ++ [r], lossPending := false }

/-- The part after a REPLY, everything but the Source Link as it was. -/
def State.answered (s : State) (kind : Byte) (d : Header) (status : Status) (payload : List Field) :
    State :=
  { s with source := s.source.answered kind d status payload s.timeline.block }

/-- The store after cells were released one after another (R28, R30). -/
def CellStore.released (st : CellStore) (cells : List CellNo) : CellStore :=
  { st with
    freeList := cells.reverse ++ st.freeList
    depletionArmed :=
      st.depletionArmed
        || (!cells.isEmpty
            && decide (min (st.depletionMark + 16) 1024 ≤ cells.length + st.freeList.length)) }

/-- A directive's rank passes for a zone (R87). -/
def State.ZoneAdmits (s : State) (d : Header) (z : ZoneNo) : Prop :=
  (s.activeZone z).present = true → d.rank.toNat ≤ (s.activeZone z).rank

/-- A directive's rank passes for a speaker (R87). -/
def State.SpeakerAdmits (s : State) (d : Header) (sp : SpeakerNo) : Prop :=
  (s.activeSpeaker sp).present = true → d.rank.toNat ≤ (s.activeSpeaker sp).rank

/-- ρ after a rate-change notice of an applied change `c`, and the clamp counted where it acts (R58, R75). -/
def TrackerEntry.compensated (e : TrackerEntry) (c : Int) : TrackerEntry :=
  let r := max (-8192) (min 8192 (e.rho - c))
  { e with rho := r, clamps := if r = e.rho - c then e.clamps else min (e.clamps + 1) 4294967295 }

/-- A tracker entry after its share of a beacon notice (R71, Table 29). -/
def TrackerEntry.silenced (e : TrackerEntry) (staleLimit lostLimit : Nat) : TrackerEntry :=
  let quiet := min 255 (e.silence + 1)
  match e.state with
  | .unlocked => e
  | .locked => { e with silence := quiet, state := if staleLimit ≤ quiet then .stale else .locked }
  | .stale => { e with silence := quiet, state := if lostLimit ≤ quiet then .unlocked else .stale }
  | .acquiring =>
      { e with silence := quiet, state := if lostLimit ≤ quiet then .unlocked else .acquiring }

/-- A counter of 32 bits increased by `k`, saturating. -/
def counted (n k : Nat) : Nat := min (n + k) 4294967295

/-- The operand byte that names an object by its number. -/
def operandOf {n : Nat} (i : Fin n) : Byte := BitVec.ofNat 8 i.val

/-- The counters of Table 68 are within 32 bits. -/
def AirCounters.Bounded (k : AirCounters) : Prop :=
  k.drops ≤ 4294967295 ∧ k.lateDiscards ≤ 4294967295 ∧ k.cutPurges ≤ 4294967295
    ∧ k.refillsMade ≤ 4294967295 ∧ k.refillsTooLate ≤ 4294967295

/-- A yes or no in a payload: the link states and transmit sides by R204, the flags by log entry 24 (DEDUCED). -/
def flagByte (b : Bool) : Field := ⟨1, if b then 1 else 0⟩

/-- A one-byte number in a payload that may be none, 0xFF standing for none (R204). -/
def numberByte {n : Nat} (i : Option (Fin n)) : Field :=
  ⟨1, match i with
    | some i => i.val
    | none => 255⟩

/-- A value in a payload that may be absent: its presence byte and the value, 0 when absent (R204). -/
def presence (width : Nat) (v : Option Nat) : List Field :=
  [⟨1, if v.isSome then 1 else 0⟩, ⟨width, (v.getD 0 : Nat)⟩]

/-- A set of speakers in a payload: bit s of three bytes for speaker s (Table 85). -/
def speakerBits (p : SpeakerNo → Bool) : Field :=
  ⟨3, ((allSpeakers.map fun sp => if p sp then 2 ^ sp.val else 0).sum : Nat)⟩

/-- A speaker is sent frames only while its entry is LOCKED or STALE (R127). -/
def State.hears (s : State) (sp : SpeakerNo) : Prop :=
  (s.entry (speakerEntry sp)).state = .locked ∨ (s.entry (speakerEntry sp)).state = .stale

end Sys2Proof.Machine
end

