-- ==== Sys2Proof/WellFormed.lean ====
section
/-! DEFINITION. Which terms of `Instr` are commands of their row. A term that fails a check is a
command of another row, or of none. -/

namespace Sys2Proof

/-- The swap is no work that can be put off: it precedes the work of every zone (R94, R95). -/
def laterPasses (later : List BoundaryTask) : Bool := !later.contains .swap

/-- The frames that R190 refuses with FORM: no directive of Table 85 is spelt. -/
def spellsNoDirective (kind : Byte) (d : Header) (operands : List Byte) : Bool :=
  (parseDirective kind d operands).isNone && operands.length ≤ 130

/-- A WRITE CUES carries 1 to 32 words (R165). -/
def wordCountPasses (words : List CueWord) : Bool := 1 ≤ words.length && words.length ≤ 32

/-- Whether a term is a command of its row. -/
def Instr.wellFormed : Instr → Bool
  | .blockBoundary _ later => laterPasses later
  | .sourceFrame f => f.received
  | .echo f => f.received
  | .unknownDirectiveKind kind d operands => spellsNoDirective kind d operands
  | .setTimebaseLocal _ mode _ _ => mode != 1
  | .stopZoneSoft _ _ mode => mode != 1
  | .writeCues _ _ words => wordCountPasses words
  | .malformedFrame link cls body => !receptionPasses link cls body
  | .rstNRelease => true
  | .beacon _ => true
  | .election => true
  | .markFiring _ => true
  | .waitRunsOut _ => true
  | .silenceStale _ => true
  | .silenceLost _ => true
  | .identify _ => true
  | .queryDevice _ => true
  | .restart _ => true
  | .setTimebaseFastest _ _ _ => true
  | .setBeacon _ _ => true
  | .armMark _ _ _ _ _ => true
  | .disarmMark _ _ => true
  | .openStream _ _ _ _ _ _ => true
  | .closeStream _ _ => true
  | .flushStream _ _ => true
  | .queryStream _ _ => true
  | .stageZone _ _ => true
  | .stageSpeaker _ _ => true
  | .unstage _ => true
  | .swap _ => true
  | .queryZone _ _ => true
  | .querySpeaker _ _ => true
  | .startZone _ _ => true
  | .stopZoneHard _ _ => true
  | .setLevel _ _ _ _ => true
  | .setTrim _ _ _ _ => true
  | .pollAccessed _ => true
  | .resyncSpeaker _ _ => true
  | .setTracking _ _ => true
  | .setStore _ _ _ _ => true
  | .queryStore _ => true
  | .cueGo _ _ _ => true
  | .cueHalt _ _ => true
  | .cueResume _ _ => true
  | .setPrescale _ _ _ => true
  | .armTap _ _ => true
  | .disarmTap _ _ => true
  | .sourceLinkDown => true
  | .sourceLinkUp => true
  | .airLinkDown => true
  | .airLinkUp => true
  | .airSendComplete => true
  | .sourceSendComplete => true
  | .rstNAssertion => true

end Sys2Proof
end

