-- ==== Sys2Proof/Certificates/Slice0/Obligations.lean ====
section
/-! DEFINITION. The statements for the provers. Commands are executed by `exec`; a directive is stated for
a part that listens (`State.Listening`), and its REPLY by `State.answered`. -/

open Sys2Proof Sys2Proof.Machine

/-! ### The machine as a whole -/

/-- A step takes the command at the front of the queue. With no command waiting it is the passing of time, by the
model's choice (log entry 3): while RST_N is low nothing passes; what the current boundary has put off is
finished, T and the block standing; and else one timeline sample passes, T increasing by one, which is the
boundary where T reaches 128 times the next block number (R1, R2). -/
def Obligations.StepRunsFrontCommand : Prop :=
  (∀ (s : State) (c : Instr) (rest : List Instr), s.pending = c :: rest →
    step s = exec c { s with pending := rest })
  ∧ ∀ s : State, s.pending = [] →
    (s.rstLow = true → step s = .next s)
    ∧ (s.rstLow = false → s.agenda.busy = true →
      ∃ t, step s = .next t ∧ t.timeline.count = s.timeline.count ∧ t.timeline.block = s.timeline.block
        ∧ t.agenda.busy = false)
    ∧ (s.rstLow = false → s.agenda.busy = false →
      (s.timeline.count + 1 < 128 * (s.timeline.block + 1) →
        step s = .next { s with timeline := { s.timeline with count := s.timeline.count + 1 } })
      ∧ (s.timeline.count + 1 = 128 * (s.timeline.block + 1) →
        step s = exec (.blockBoundary [] []) s
          ∧ (s.timeline.block + 1 < 2 ^ 41 →
            ∃ t, step s = .next t ∧ t.timeline.count = s.timeline.count + 1
              ∧ t.timeline.block = s.timeline.block + 1)))

/-- What the release of RST_N leaves in Stream Intake, the Clock Tracker and the Overlay unit (R56, R82,
R152), from every state. -/
def Obligations.ReleaseSetsPowerOnValues : Prop :=
  ∀ s : State, ∃ t, exec .rstNRelease s = .next t
    ∧ (∀ st : StreamNo, (t.stream st).present = false ∧ (t.stream st).queue = []
        ∧ (t.stream st).expected = none ∧ (t.stream st).demandArmed = false
        ∧ (t.stream st).cls = .live ∧ (t.stream st).lanes = 1 ∧ (t.stream st).quota = 1
        ∧ (t.stream st).demandMark = 0
        ∧ (t.stream st).counters =
            { accepted := 0, gaps := 0, old := 0, overflows := 0, overruns := 0, storeDrops := 0,
              slips := 0, underruns := 0 })
    ∧ t.intake.strayFrames = 0 ∧ t.intake.malformedFrames = 0
    ∧ (∀ e : EntryNo, t.entry e =
        { state := .unlocked, rho := 0, rawT := 0, rawL := 0, anchorT := 0, anchorL := 0,
          accepted := 0, outlierRun := 0, silence := 0, echoesAccepted := 0, outliers := 0,
          staleEchoes := 0, phaseSteps := 0, clamps := 0 })
    ∧ t.tracker.params =
        { g := 3, h := 2, outlierLimit := 256, phaseLimit := 16384, acquireCount := 4,
          staleLimit := 8, lostLimit := 64 }
    ∧ (∀ sp : SpeakerNo, t.claimStack sp = []) ∧ (∀ c : CellNo, t.claimCell c = none)
    ∧ (∀ z : ZoneNo, tblGet t.overlay.counters z = { made := 0, outranked := 0, failed := 0 })

/-- The release and the assertion of RST_N put every block at its power-on values, and T at 0; the
waiting commands stand (R1; the commands that wait are the model's, log entry 4). -/
def Obligations.ResetLineSetsState : Prop :=
  ∀ s : State,
    exec .rstNRelease s = .next { State.reset with pending := s.pending }
      ∧ exec .rstNAssertion s = .next { State.reset with rstLow := true, pending := s.pending }

/-- The state after reset satisfies every law of Safety.lean. -/
def Obligations.ResetIsSound : Prop :=
  State.reset.ClockConsistent ∧ State.reset.RatesBounded ∧ State.reset.QueuesBounded
    ∧ State.reset.LinksConsistent ∧ State.reset.CellsPartitioned ∧ State.reset.ClaimsTyped
    ∧ State.reset.EntriesTyped ∧ State.reset.StreamsLegal ∧ State.reset.BanksLegal
    ∧ State.reset.PlanValid ∧ State.reset.SettingsInRange ∧ State.reset.GainsBounded
    ∧ State.reset.LeadsBounded ∧ State.reset.RingsMatchStates ∧ State.reset.StacksOrdered
    ∧ State.reset.RingsLawful ∧ State.reset.AudioTyped ∧ State.reset.AnchorsPaired
    ∧ State.reset.RecordsLawful

/-! ### Laws that every step keeps -/

/-- T stays within the current block and below 48 bits (R1, R2); τ and every ρ stay within their range (R3,
R58); and in every tracker entry the anchor and the raw pair keep one timeline count (R58). -/
def Obligations.StepKeepsClockAndRates : Prop :=
  (∀ s t : State, s.ClockConsistent → s.RatesBounded → step s = .next t →
    t.ClockConsistent ∧ t.RatesBounded)
  ∧ ∀ s t : State, s.AnchorsPaired → step s = .next t → t.AnchorsPaired

/-- No queue outgrows its capacity, and a transmit side is FREE on an UP link only when nothing waits
(R11, R132, R173, R174, R195, R197). -/
def Obligations.StepKeepsQueues : Prop :=
  ∀ s t : State, s.QueuesBounded → s.LinksConsistent → step s = .next t →
    t.QueuesBounded ∧ t.LinksConsistent

/-- Every cell stays in exactly one place (R20). -/
def Obligations.StepKeepsCells : Prop :=
  ∀ s t : State, s.CellsPartitioned → step s = .next t → t.CellsPartitioned

/-- The banks stay within their ranges, and the active plan as validation leaves it (R84, R96). -/
def Obligations.StepKeepsPlan : Prop :=
  ∀ s t : State, s.BanksLegal → s.PlanValid → step s = .next t → t.BanksLegal ∧ t.PlanValid

/-- Zone gains and leads stay within their ranges, rings stay empty or not by the zone's state, and entries
reference cells by their kind (R20, R113, R114, R120, Table 43). From states that meet these, the ring law of
R116 is kept too; and with it, every queue cell and ring cell stays an AUDIO cell (R20). -/
def Obligations.StepKeepsZones : Prop :=
  ∀ s t : State, s.BanksLegal → s.GainsBounded → s.LeadsBounded → s.RingsMatchStates →
    s.EntriesTyped → step s = .next t →
    (t.GainsBounded ∧ t.LeadsBounded ∧ t.RingsMatchStates ∧ t.EntriesTyped)
      ∧ (s.RingsLawful → t.RingsLawful ∧ (s.CellsPartitioned → s.AudioTyped → t.AudioTyped))

/-- Every stream's queue stays within its quota, and an absent stream's queue empty (R37, R38, R54); the
settings stay within the ranges to which their directives clamp them (R12, R32, R80, R88, R168). -/
def Obligations.StepKeepsStreamsAndSettings : Prop :=
  ∀ s t : State, s.StreamsLegal → s.SettingsInRange → step s = .next t →
    t.StreamsLegal ∧ t.SettingsInRange

/-- The records of every Claim Stack rise strictly in priority from bottom to top, at most 3 of them; and, the
plan being valid, no two of them name the same overlay zone, and each names a present OVERLAY zone that is PLAYING
or DRAINING (R140). -/
def Obligations.StepKeepsClaimStacks : Prop :=
  ∀ s t : State, s.CellsPartitioned → s.ClaimsTyped → s.BanksLegal → s.StacksOrdered →
    step s = .next t →
    (t.ClaimsTyped ∧ t.StacksOrdered ∧ ∀ sp : SpeakerNo, (t.claimStack sp).length ≤ 3)
      ∧ (s.PlanValid → s.RecordsLawful → t.RecordsLawful)

/-! ### Rules over all directives -/

/-- No directive whose rank is above a zone's or speaker's active rank changes that zone's runtime state,
cue state or plan entries, or that speaker's trims, tracker entry, accessed flag or plan entries (R87). A
speaker's playout state is left out: a STOP of a zone acts on the zone's listeners whatever their rank
(R110). -/
def Obligations.RankShieldsObjects : Prop :=
  ∀ (i : Instr) (kind : Byte) (d : Header) (ops : List Byte) (s t : State),
    directiveBytes i = some (kind, d, ops) → exec i s = .next t →
    (∀ z : ZoneNo, (s.activeZone z).present = true → (s.activeZone z).rank < d.rank.toNat →
      t.zone z = s.zone z ∧ t.cueRun z = s.cueRun z ∧ t.activeZone z = s.activeZone z
        ∧ t.plan.staged.zone z = s.plan.staged.zone z)
    ∧ (∀ sp : SpeakerNo, (s.activeSpeaker sp).present = true →
      (s.activeSpeaker sp).rank < d.rank.toNat →
      t.trim sp = s.trim sp ∧ t.entry (speakerEntry sp) = s.entry (speakerEntry sp)
        ∧ t.accessedFlag sp = s.accessedFlag sp ∧ t.activeSpeaker sp = s.activeSpeaker sp
        ∧ t.plan.staged.speaker sp = s.plan.staged.speaker sp)

/-- No directive writes the active bank, T or the block number: the bank is written by a swap alone (R84),
and T by no directive (R1). A firing that a boundary has put off belongs to the boundary (log entry 2). -/
def Obligations.DirectivesKeepActivePlanAndTime : Prop :=
  ∀ (i : Instr) (kind : Byte) (d : Header) (ops : List Byte) (s t : State),
    directiveBytes i = some (kind, d, ops) → (∀ k : MarkNo, tblGet s.agenda.marks k = false) →
    exec i s = .next t →
    t.plan.active = s.plan.active ∧ t.timeline.count = s.timeline.count
      ∧ t.timeline.block = s.timeline.block

/-- A directive sent by Tables 81 and 85 is received as itself, and a frame of no directive as such. -/
def Obligations.DirectiveBytesRoundTrip : Prop :=
  ∀ (i : Instr) (kind : Byte) (d : Header) (ops : List Byte),
    i.wellFormed = true → directiveBytes i = some (kind, d, ops) → directiveOf kind d ops = i

/-- A directive marked rank 0 in Table 72 is refused with RANK at any other rank, and changes nothing but
the Source Link by its reply (R191 step 1). -/
def Obligations.RankZeroDirectivesRefused : Prop :=
  ∀ (i : Instr) (kind : Byte) (d : Header) (ops : List Byte) (s : State), s.Listening → d.rank ≠ 0 →
    i.wellFormed = true → directiveBytes i = some (kind, d, ops) →
    kind ∈ ([0x03, 0x10, 0x11, 0x12, 0x13, 0x20, 0x21, 0x22, 0x32, 0x50, 0x51, 0x60] : List Byte) →
    (∀ k o, i ≠ .unknownDirectiveKind k d o) →
    exec i s = .next (s.answered kind d .rank [])

/-- IDENTIFY is taken at any rank, and gives the values fixed in the part (R193). -/
def Obligations.IdentifyReplies : Prop :=
  ∀ (s : State) (d : Header), s.Listening →
    exec (.identify d) s = .next (s.answered 0x01 d .ok
      [⟨2, 0x525A⟩, ⟨2, 2416⟩, ⟨1, 1⟩, ⟨2, 1024⟩, ⟨2, 16⟩, ⟨2, 8⟩, ⟨2, 24⟩, ⟨2, 40⟩, ⟨2, 8⟩,
       ⟨2, 512⟩, ⟨2, 32⟩, ⟨2, 96⟩])

/-- The queries are taken at any rank, answer with the state as it stands, and change nothing but the
Source Link by their reply (R191, R192). What each carries, field by field: QUERY DEVICE (R4, R104, R135, R185,
R194), QUERY STREAM (R55), QUERY ZONE (R104, R135, R151, R170), QUERY SPEAKER (R79, R104, R135, R151, R185) and
QUERY STORE (R34). The codes are those of R204 and the widths those of Table 86, where it has a row; the other
widths are the model's (log entry 7), as are the places of the presence bytes (log entry 8), the bytes of
flags (log entry 24) and the free bytes of log entries 6 and 21. -/
def Obligations.QueriesChangeNothing : Prop :=
  ∀ (s : State) (d : Header) (z : ZoneNo) (sp : SpeakerNo) (st : StreamNo), s.Listening →
    (exec (.queryDevice d) s = .next (s.answered 0x02 d .ok (devicePayload s))
      ∧ exec (.queryStream d (operandOf st)) s = .next (s.answered 0x23 d .ok (streamPayload st s))
      ∧ exec (.queryZone d (operandOf z)) s = .next (s.answered 0x34 d .ok (zonePayload z s))
      ∧ exec (.querySpeaker d (operandOf sp)) s = .next (s.answered 0x35 d .ok (speakerPayload sp s))
      ∧ exec (.queryStore d) s = .next (s.answered 0x52 d .ok (storePayload s)))
    ∧ devicePayload s =
      (let t := s.timeline
       let tap := s.playout.tap
       let a := s.air
       let l := s.source
       [⟨1, match t.mode with | .localMode => 0 | .fastest => 1⟩, ⟨2, t.tau⟩, ⟨2, t.candidates.toNat⟩,
        numberByte t.elected, flagByte t.noCandidate, ⟨1, t.beaconInterval⟩, ⟨2, t.beaconNumber.toNat⟩,
        ⟨6, t.count⟩, ⟨6, t.block⟩,
        flagByte s.plan.swapPending,
        ⟨1, match tap.state with | .disarmed => 0 | .armed _ => 1 | .active _ => 2⟩,
        numberByte (match tap.state with | .disarmed => none | .armed y => some y | .active y => some y),
        ⟨1, tap.buffer.length⟩, ⟨4, tap.overruns⟩,
        flagByte a.up, flagByte a.sending.isSome, ⟨1, a.control.length⟩, ⟨1, a.audio.length⟩,
        ⟨4, a.controlSent⟩, ⟨4, a.audioSent⟩, ⟨4, a.controlDrops⟩, ⟨4, a.downDiscards⟩,
        ⟨4, s.intake.strayFrames⟩, ⟨4, s.intake.malformedFrames⟩,
        flagByte l.up, ⟨1, l.reports.length⟩, flagByte l.lossPending, ⟨4, l.reportsSent⟩, ⟨4, l.tapSent⟩,
        ⟨4, l.eventDrops⟩, ⟨4, l.replyDrops⟩])
    ∧ (let tracked (e : TrackerEntry) : List Field :=
         [⟨1, match e.state with | .unlocked => 0 | .acquiring => 1 | .locked => 2 | .stale => 3⟩, ⟨2, e.rho⟩]
       let trackCounters (e : TrackerEntry) : List Field :=
         [⟨4, e.echoesAccepted⟩, ⟨4, e.outliers⟩, ⟨4, e.staleEchoes⟩, ⟨4, e.phaseSteps⟩, ⟨4, e.clamps⟩]
       let roleCode (r : Role) : Int := match r with | .left => 0 | .right => 1 | .mono => 2 | .low => 3
       streamPayload st s =
         (let x := s.stream st
          let k := x.counters
          [flagByte x.present, ⟨1, match x.cls with | .live => 0 | .paced => 1⟩, ⟨1, x.lanes⟩, ⟨2, x.quota⟩,
           ⟨2, x.demandMark⟩]
            ++ presence 2 (x.expected.map BitVec.toNat)
            ++ [fQueueCount x.queue.length,
                flagByte (x.queue.any fun c => (s.audioCell c).any AudioCell.endFlag),
                flagByte x.demandArmed,
                numberByte (allZones.filter fun y =>
                  (s.activeZone y).present && (s.activeZone y).stream == some st).head?,
                ⟨4, k.accepted⟩, ⟨4, k.gaps⟩, ⟨4, k.old⟩, ⟨4, k.overflows⟩, ⟨4, k.overruns⟩,
                ⟨4, k.storeDrops⟩, ⟨4, k.slips⟩, ⟨4, k.underruns⟩]
            ++ tracked (s.entry (streamEntry st)) ++ trackCounters (s.entry (streamEntry st)))
       ∧ zonePayload z s =
         (let descriptor (x : ZoneDesc) : List Field :=
            [flagByte x.present, ⟨1, match x.kind with | .program => 0 | .overlay => 1⟩, ⟨1, x.priority⟩,
             ⟨1, x.rank⟩, numberByte x.stream, ⟨1, x.primeDepth⟩, ⟨1, x.lead⟩, ⟨2, x.startLevel⟩,
             ⟨2, match x.cueEntry with | some i => i.toNat | none => 65535⟩, ⟨3, x.members.toNat⟩,
             ⟨1, match x.overlayRole with
               | some r => roleCode r
               | none => Config.noOverlayRoleByte.toNat⟩]
          let r := s.zone z
          let newest := ((r.ring.filterMap IssueEntry.cell).getLast?).bind s.audioCell
          let k := tblGet s.overlay.counters z
          let c := s.cueRun z
          descriptor (s.activeZone z) ++ descriptor (s.plan.staged.zone z)
            ++ [⟨1, match r.state with | .idle => 0 | .priming => 1 | .playing => 2 | .draining => 3⟩,
                ⟨1, r.runningLead⟩, ⟨1, r.runningPrime⟩, ⟨2, r.gain⟩, ⟨2, r.target⟩, ⟨2, r.gainStep⟩,
                ⟨2, r.issueNumber.toNat⟩,
                ⟨1, match r.prevKind with
                  | some .normal => 0
                  | some .repeated => 1
                  | some .silent => 2
                  | none => 3⟩,
                ⟨1, r.ring.length⟩]
            ++ presence 6 (r.ring.head?.map IssueEntry.block)
            ++ presence 6 (r.ring.getLast?.map IssueEntry.block)
            ++ presence 1 (newest.map fun a => a.stream.val)
            ++ presence 2 (newest.map fun a => a.seq.toNat)
            ++ presence 4 (newest.map fun a => a.sourceIndex.toNat)
            ++ [⟨4, r.issued⟩, ⟨4, r.repeats⟩, ⟨4, r.silents⟩,
                speakerBits fun o => (s.claimStack o).any fun c =>
                  (s.claimCell c).map ClaimCell.zone == some z,
                ⟨4, k.made⟩, ⟨4, k.outranked⟩, ⟨4, k.failed⟩,
                ⟨1, match c.status with | .running => 0 | .halted => 1 | .stopped => 2 | .faulted => 3⟩,
                ⟨2, c.pointer.toNat⟩, ⟨4, c.wait⟩, ⟨1, c.prescale⟩, ⟨4, c.prescaleCount⟩,
                ⟨4, c.loopCount⟩, ⟨2, c.loopStart.toNat⟩])
       ∧ speakerPayload sp s =
         (let descriptor (x : SpeakerDesc) : List Field :=
            [flagByte x.present, ⟨1, x.rank⟩, ⟨2, x.address.toNat⟩, numberByte x.plannedZone,
             ⟨1, roleCode x.role⟩]
          let e := s.entry (speakerEntry sp)
          let r := s.speaker sp
          let k := tblGet s.air.counters sp
          descriptor (s.activeSpeaker sp) ++ descriptor (s.plan.staged.speaker sp)
            ++ [⟨2, (s.trim sp).gain⟩, ⟨3, (s.trim sp).delay⟩, flagByte (s.accessedFlag sp)]
            ++ tracked e
            ++ [⟨6, e.rawT⟩, ⟨4, e.rawL.toNat⟩, ⟨6, e.anchorT⟩, ⟨4, e.anchorL.toNat⟩, ⟨1, e.accepted⟩,
                ⟨1, e.outlierRun⟩, ⟨1, e.silence⟩]
            ++ trackCounters e
            ++ [numberByte r.zone, ⟨1, roleCode r.role⟩, ⟨6, r.horizon⟩, flagByte r.rampPending]
            ++ (match r.rampMarker with
                | some (y, n) => [⟨1, 1⟩, ⟨1, y.val⟩, ⟨2, n.toNat⟩]
                | none => [⟨1, 0⟩, ⟨1, 0⟩, ⟨2, 0⟩])
            ++ [⟨4, r.firstSends⟩, ⟨4, r.backfills⟩, ⟨4, r.overlaps⟩, ⟨4, r.cuts⟩,
                ⟨1, (s.claimStack sp).length⟩]
            ++ (((s.claimStack sp).filterMap s.claimCell).flatMap fun x =>
                [⟨1, x.zone.val⟩, ⟨1, x.priority⟩, ⟨1, roleCode x.role⟩, ⟨6, x.claimedAt⟩])
            ++ [⟨4, k.drops⟩, ⟨4, k.lateDiscards⟩, ⟨4, k.cutPurges⟩, ⟨4, k.refillsMade⟩,
                ⟨4, k.refillsTooLate⟩,
                ⟨1, (s.air.audio.filter fun i => i.speaker == sp).length⟩]))
    ∧ storePayload s =
      [⟨4, s.store.freeList.length⟩,
       ⟨4, ((allStreams.map fun y => (s.stream y).queue.length).sum : Nat)⟩,
       ⟨4, ((allZones.map fun y => ((s.zone y).ring.filterMap IssueEntry.cell).length).sum : Nat)⟩,
       ⟨4, ((allSpeakers.map fun y => (s.claimStack y).length).sum : Nat)⟩,
       ⟨4, s.store.depletionMark⟩, ⟨4, s.store.claimReserve⟩, ⟨4, s.store.refillMargin⟩,
       flagByte s.store.depletionArmed]

/-- A DIRECTIVE frame of no form is refused with FORM, its kind and tag returned as received (R190). -/
def Obligations.UnknownDirectiveRefused : Prop :=
  ∀ (s : State) (kind : Byte) (d : Header) (ops : List Byte), s.Listening → ops.length ≤ 130 →
    parseDirective kind d ops = none →
    exec (.unknownDirectiveKind kind d ops) s = .next (s.answered kind d .form [])

/-- Nothing is received on a link that is DOWN (R183, R189, R199). That nothing comes about while RST_N is held
low is the model's choice (log entry 4); R1 says of that time only that T is 0 and does not count. -/
def Obligations.DownLinksReceiveNothing : Prop :=
  ∀ s : State,
    (s.rstLow = true ∨ s.source.up = false →
      (∀ i kind d ops, directiveBytes i = some (kind, d, ops) → exec i s = .next s)
        ∧ (∀ f, exec (.sourceFrame f) s = .next s)
        ∧ ∀ cls body, exec (.malformedFrame .source cls body) s = .next s)
    ∧ (s.rstLow = true ∨ s.air.up = false →
      (∀ f, exec (.echo f) s = .next s)
        ∧ ∀ cls body, exec (.malformedFrame .air cls body) s = .next s)
    ∧ (s.rstLow = true → ∀ (order later : List BoundaryTask) (entries : List EntryNo) (k : MarkNo)
        (z : ZoneNo) (e : EntryNo), ∀ i ∈ [Instr.blockBoundary order later, .beacon entries, .election,
          .markFiring k, .waitRunsOut z, .silenceStale e, .silenceLost e, .sourceLinkDown, .sourceLinkUp,
          .airLinkDown, .airLinkUp, .airSendComplete, .sourceSendComplete], exec i s = .next s)

/-- The directives of a zone refused: with INDEX where its number is out of range, with RANK where the
directive's rank is above the zone's, with ABSENT where the zone is absent (R87, R108, R121, R133, R166 to
R168); a REPLY is their only effect (R191). Then the refusals of single directives: START with ABSENT where the
zone has no present stream and with BUSY where it is in play (R108), STOP with VALUE for a mode of no code
(R109), ARM TAP and DISARM TAP with BUSY (R133), CUE GO with INDEX for its index (R166), and STAGE ZONE in the
order of its checks (R90). -/
def Obligations.ZoneDirectivesRefused : Prop :=
  ∀ (s : State) (d : Header) (a b : BitVec 16), s.Listening → a.toNat < 512 →
    let refused (zone : Byte) (status : Status) : Prop :=
      ∀ p ∈ [(Instr.startZone d zone, (0x40 : Byte)), (.setLevel d zone a b, 0x42),
          (.armTap d zone, 0x70), (.cueGo d zone a, 0x61), (.cueHalt d zone, 0x62),
          (.cueResume d zone, 0x63), (.setPrescale d zone b, 0x64)],
        exec p.1 s = .next (s.answered p.2 d status [])
    let refusedToo (zone : Byte) (status : Status) : Prop :=
      ∀ p ∈ [(Instr.stopZoneSoft d zone 0, (0x41 : Byte)), (.stopZoneHard d zone, 0x41),
          (.disarmTap d zone, 0x71)],
        exec p.1 s = .next (s.answered p.2 d status [])
    (∀ zone : Byte, 8 ≤ zone.toNat →
      refused zone .index ∧ refusedToo zone .index
        ∧ exec (.queryZone d zone) s = .next (s.answered 0x34 d .index []))
    ∧ (∀ z : ZoneNo, (s.activeZone z).present = true → (s.activeZone z).rank < d.rank.toNat →
        refused (operandOf z) .rank ∧ refusedToo (operandOf z) .rank)
    ∧ (∀ z : ZoneNo, (s.activeZone z).present = false → refused (operandOf z) .absent)
    ∧ (∀ z : ZoneNo, (s.activeZone z).present = true → s.ZoneAdmits d z →
        ((∀ st : StreamNo, (s.activeZone z).stream = some st → (s.stream st).present = false) →
          exec (.startZone d (operandOf z)) s = .next (s.answered 0x40 d .absent []))
        ∧ (∀ st : StreamNo, (s.activeZone z).stream = some st → (s.stream st).present = true →
          (s.zone z).state ≠ .idle →
          exec (.startZone d (operandOf z)) s = .next (s.answered 0x40 d .busy []))
        ∧ (s.playout.tap.state ≠ .disarmed →
          exec (.armTap d (operandOf z)) s = .next (s.answered 0x70 d .busy [])))
    ∧ (∀ z y : ZoneNo, s.ZoneAdmits d z → y ≠ z →
        s.playout.tap.state = .armed y ∨ s.playout.tap.state = .active y →
        exec (.disarmTap d (operandOf z)) s = .next (s.answered 0x71 d .busy []))
    ∧ (∀ (z : ZoneNo) (mode : Byte), 2 ≤ mode.toNat →
        exec (.stopZoneSoft d (operandOf z) mode) s = .next (s.answered 0x41 d .value []))
    ∧ (∀ (zone : Byte) (index : BitVec 16), 512 ≤ index.toNat →
        exec (.cueGo d zone index) s = .next (s.answered 0x61 d .index []))
    ∧ ∀ o : ZoneOperands,
      let inRange := o.zone.toNat < 8 ∧ (o.stream.toNat < 16 ∨ o.stream = 0xFF)
        ∧ (o.cueEntry.toNat < 512 ∨ o.cueEntry = 0xFFFF)
      let admitted := d.rank.toNat ≤ min 3 o.rank.toNat
        ∧ ∀ z : ZoneNo, o.zone = operandOf z → s.ZoneAdmits d z
      let coded := o.kind = 0 ∨ (o.kind = 1 ∧ o.overlayRole.toNat < 4)
      let reply (status : Status) : Prop :=
        exec (.stageZone d o) s = .next (s.answered 0x30 d status [])
      (¬ inRange → reply .index) ∧ (inRange → ¬ admitted → reply .rank)
        ∧ (inRange → admitted → ¬ coded → reply .value)
        ∧ (inRange → admitted → coded → s.plan.swapPending = true → reply .busy)

/-- The directives of a stream or a speaker refused: with INDEX where its number is out of range, and by the
state of the object with ABSENT, BUSY, BOUND or RANK (R38 to R40, R73, R88, R191). OPEN STREAM is refused with
VALUE for a class of no code, or lanes that are not 1 or 2 (R38); STAGE SPEAKER in the order of its checks
(R91). -/
def Obligations.StreamAndSpeakerDirectivesRefused : Prop :=
  ∀ (s : State) (d : Header) (a b : BitVec 16) (x y : Byte) (delay : BitVec 24), s.Listening →
    (d.rank = 0 →
      (∀ stream : Byte, 16 ≤ stream.toNat →
        exec (.openStream d stream x y a b) s = .next (s.answered 0x20 d .index [])
          ∧ exec (.closeStream d stream) s = .next (s.answered 0x21 d .index [])
          ∧ exec (.flushStream d stream) s = .next (s.answered 0x22 d .index []))
      ∧ ∀ st : StreamNo,
        ((s.stream st).present = true →
          exec (.openStream d (operandOf st) x y a b) s = .next (s.answered 0x20 d .busy []))
        ∧ ((s.stream st).present = false → 2 ≤ x.toNat ∨ (y ≠ 1 ∧ y ≠ 2) →
          exec (.openStream d (operandOf st) x y a b) s = .next (s.answered 0x20 d .value []))
        ∧ ((s.stream st).present = false →
          exec (.closeStream d (operandOf st)) s = .next (s.answered 0x21 d .absent [])
            ∧ exec (.flushStream d (operandOf st)) s = .next (s.answered 0x22 d .absent []))
        ∧ ((s.stream st).present = true →
          (∃ z : ZoneNo, (s.activeZone z).present = true ∧ (s.activeZone z).stream = some st) →
          exec (.closeStream d (operandOf st)) s = .next (s.answered 0x21 d .bound [])))
    ∧ (∀ stream : Byte, 16 ≤ stream.toNat →
      exec (.queryStream d stream) s = .next (s.answered 0x23 d .index []))
    ∧ (∀ speaker : Byte, 24 ≤ speaker.toNat →
      exec (.setTrim d speaker a delay) s = .next (s.answered 0x43 d .index [])
        ∧ exec (.resyncSpeaker d speaker) s = .next (s.answered 0x45 d .index [])
        ∧ exec (.querySpeaker d speaker) s = .next (s.answered 0x35 d .index []))
    ∧ (∀ sp : SpeakerNo,
      ((s.activeSpeaker sp).present = false →
        exec (.setTrim d (operandOf sp) a delay) s = .next (s.answered 0x43 d .absent [])
          ∧ exec (.resyncSpeaker d (operandOf sp)) s = .next (s.answered 0x45 d .absent []))
      ∧ ((s.activeSpeaker sp).present = true → (s.activeSpeaker sp).rank < d.rank.toNat →
        exec (.setTrim d (operandOf sp) a delay) s = .next (s.answered 0x43 d .rank [])
          ∧ exec (.resyncSpeaker d (operandOf sp)) s = .next (s.answered 0x45 d .rank [])))
    ∧ ∀ o : SpeakerOperands,
      let inRange := o.speaker.toNat < 24 ∧ (o.plannedZone.toNat < 8 ∨ o.plannedZone = 0xFF)
      let admitted := d.rank.toNat ≤ min 3 o.rank.toNat
        ∧ ∀ sp : SpeakerNo, o.speaker = operandOf sp → s.SpeakerAdmits d sp
      let valued := o.address ≠ 0 ∧ o.address ≠ 0xFFFF ∧ o.role.toNat < 4
      let reply (status : Status) : Prop :=
        exec (.stageSpeaker d o) s = .next (s.answered 0x31 d status [])
      (¬ inRange → reply .index) ∧ (inRange → ¬ admitted → reply .rank)
        ∧ (inRange → admitted → ¬ valued → reply .value)
        ∧ (inRange → admitted → valued → s.plan.swapPending = true → reply .busy)

/-! ### The part's own events -/

/-- A boundary advances the block number by one, sets T to 128 times it, and leaves no swap pending (R2,
R95), in whatever order its works are taken. What it finds due, shown where nothing is left of the boundary
before, no SWAP mark is due, and every work that may be is put off: its beacon where the block number is a
multiple of the interval (R10), an election where it is a multiple of 1024 (R7; in LOCAL mode it is not held, for
which see ElectionTaken), each armed mark of this block or armed late (R15), and the work of every zone (R2). The
swap that a SWAP directive left pending is taken then (R93, R95). With one zone's work, or the firing of one START
or STOP mark, not put off, it is taken on what the swap left, even where it is named first (R17, R95). The agenda
that holds the works is the model's own (log entry 2). -/
def Obligations.BoundaryAdvancesBlock : Prop :=
  (∀ (s : State) (order later : List BoundaryTask), s.rstLow = false →
    s.timeline.block + 1 < 2 ^ 41 →
    ∃ t, exec (.blockBoundary order later) s = .next t ∧ t.timeline.block = s.timeline.block + 1
      ∧ t.timeline.count = 128 * (s.timeline.block + 1) ∧ t.plan.swapPending = false)
  ∧ ∀ s : State, s.rstLow = false → s.timeline.block + 1 < 2 ^ 41 → s.agenda.busy = false →
    let n := s.timeline.block + 1
    (∀ k : MarkNo, (s.mark k).armed = true → (s.mark k).action = .swap →
      (s.mark k).block ≠ n ∧ (s.mark k).late = false) →
    ∃ due, (∀ k : MarkNo, tblGet due k =
        ((s.mark k).armed && (decide ((s.mark k).block = n) || (s.mark k).late)))
      ∧
        let opened : State :=
          { s with
            timeline := { s.timeline with count := 128 * n, block := n }
            agenda :=
              { beacon :=
                  if n % s.timeline.beaconInterval = 0 then some s.timeline.beaconInterval else none
                election := decide (n % 1024 = 0), marks := due, swap := s.plan.swapPending
                swapTaken := false, zones := Vector.replicate 8 true
                notices := Vector.replicate 40 false } }
        let swapped : State := if s.plan.swapPending then takeSwap opened else opened
        exec (.blockBoundary [] allTasks) s = .next swapped
        ∧ (∀ (z : ZoneNo) (order : List BoundaryTask), order = [] ∨ order = [.zone z] →
          exec (.blockBoundary order (allTasks.filter fun t => decide (t ≠ .zone z))) s =
            .next (zoneWork z
              { swapped with
                agenda := { swapped.agenda with zones := tblSet swapped.agenda.zones z false } }))
        ∧ ∀ (k : MarkNo) (order : List BoundaryTask), order = [] ∨ order = [.mark k] →
          (s.mark k).action = .start ∨ (s.mark k).action = .stop →
          exec (.blockBoundary order (allTasks.filter fun t => decide (t ≠ .mark k))) s =
            exec (.markFiring k) swapped

/-- A due beacon advances the beacon number, is logged, hands its frame to the Air Link, and gives every
entry its share of the notice (R10, R11, R71). That the entries of `later` take their share afterwards, each by a
command of its own, is the model's choice (log entry 2). -/
def Obligations.BeaconEmitted : Prop :=
  ∀ (s : State) (later : List EntryNo) (interval : Nat), s.rstLow = false →
    s.agenda.beacon = some interval → (∀ e : EntryNo, tblGet s.agenda.notices e = false) →
    ∃ t, exec (.beacon later) s = .next t
      ∧ t.timeline =
          { s.timeline with
            beaconNumber := s.timeline.beaconNumber + 1
            beaconLog :=
              (if s.timeline.beaconLog.length < 16 then s.timeline.beaconLog
                else s.timeline.beaconLog.drop 1)
                ++ [(s.timeline.beaconNumber + 1, s.timeline.block)] }
      ∧ t.air = (handBeacon (s.timeline.beaconNumber + 1) s.timeline.block interval s).air
      ∧ (∀ e : EntryNo, t.entry e =
          if e ∈ later then s.entry e
          else (s.entry e).silenced s.tracker.params.staleLimit s.tracker.params.lostLimit)
      ∧ t.agenda.beacon = none ∧ t.plan = s.plan ∧ t.store = s.store ∧ t.intake = s.intake
      ∧ t.overlay = s.overlay ∧ t.cue = s.cue

/-- A due election in FASTEST mode elects the candidate of greatest ρ, the lowest such stream, slews τ
toward it, and compensates every entry; without a candidate it keeps τ, elects none, and reports once (R3,
R7, R8). A candidate is a stream of the candidate set that is present, LIVE, and LOCKED at its tracker entry
(R6). In LOCAL mode no election is held (R4, R7). -/
def Obligations.ElectionTaken : Prop :=
  ∀ s : State, s.rstLow = false → s.agenda.election = true →
    let candidate (st : StreamNo) : Prop :=
      s.timeline.candidates.getLsbD st.val = true ∧ (s.stream st).present = true
        ∧ (s.stream st).cls = .live ∧ (s.entry (streamEntry st)).state = .locked
    let rho (st : StreamNo) : Int := (s.entry (streamEntry st)).rho
    (s.timeline.mode = .fastest →
      (∀ st : StreamNo, candidate st →
        (∀ o : StreamNo, candidate o → rho o ≤ rho st ∧ (rho o = rho st → st ≤ o)) →
        let slew := max (-64) (min 64 (rho st + 16))
        let tau := max (-8192) (min 8192 (s.timeline.tau + slew))
        ∃ t, exec .election s = .next t
          ∧ t.timeline = { s.timeline with tau := tau, elected := some st, noCandidate := false }
          ∧ (∀ e : EntryNo, t.entry e =
              if tau = s.timeline.tau then s.entry e
              else (s.entry e).compensated (tau - s.timeline.tau))
          ∧ t.source =
              (if s.timeline.elected = some st then s.source
               else (offerEvent .timebaseElected st.val
                 [⟨2, rho st⟩, ⟨2, tau - s.timeline.tau⟩, ⟨2, tau⟩] s).source)
          ∧ t.tracker.params = s.tracker.params ∧ t.plan = s.plan ∧ t.store = s.store
          ∧ t.intake = s.intake ∧ t.air = s.air ∧ t.cue = s.cue)
      ∧ ((∀ o : StreamNo, ¬ candidate o) →
        let u : State :=
          { s with
            timeline := { s.timeline with elected := none, noCandidate := true }
            agenda := { s.agenda with election := false } }
        exec .election s =
          .next (if s.timeline.noCandidate then u
            else offerEvent .timebaseNoCandidate 0 [⟨2, s.timeline.tau⟩] u)))
    ∧ (s.timeline.mode = .localMode →
      exec .election s = .next { s with agenda := { s.agenda with election := false } })

/-- A due NOTIFY mark disarms its slot and makes its report, and does nothing else (R15, R16). The byte of the late
field is the model's (log entry 24). -/
def Obligations.NotifyMarkFires : Prop :=
  ∀ (s : State) (k : MarkNo), s.rstLow = false → tblGet s.agenda.marks k = true →
    (s.mark k).armed = true → (s.mark k).action = .notify →
    exec (.markFiring k) s = .next
      (offerEvent (if (s.mark k).late then .markLate else .markFired) k.val
        [⟨1, 0⟩, fIndex (s.mark k).zone, ⟨6, (s.mark k).block⟩, ⟨6, s.timeline.block⟩,
         ⟨1, if (s.mark k).late then 1 else 0⟩]
        { s with
          timeline :=
            { s.timeline with
              marks := tblSet s.timeline.marks k { s.mark k with armed := false } }
          agenda := { s.agenda with marks := tblSet s.agenda.marks k false } })

/-- The Cue Engine at a zone's work. A wait that runs out in the due work of a DRAINING zone lets the word at
the pointer run; a STOP ends the program, the pointer moved past it (R113, R157 to R159, R162). Where a swap of the
boundary is still due, it is taken first, and the work is done on what it leaves (R95). A boundary
notice of a program that is not RUNNING changes nothing (R155); of one that waits, counts its wait (R158); of
one that waits for nothing more, runs at most eight words (R157, R159). A run that has words left takes the word
at the pointer by its kind: STOP, LEVEL, WAIT, REPEAT, LOOP, NOTE, JUMP, RELEASE, and a code of no word (R160 to
R164). The one byte of a NOTE's tag is the model's (log entry 7). -/
def Obligations.WaitRunsOutRunsCue : Prop :=
  (∀ (s : State) (z : ZoneNo), s.rstLow = false → tblGet s.agenda.zones z = true →
    s.agenda.swap = false →
    (∀ k : MarkNo, tblGet s.agenda.marks k = true → (s.mark k).action ≠ .swap) →
    (s.zone z).state = .draining → (s.zone z).ring ≠ [] →
    (∀ e ∈ (s.zone z).ring, s.timeline.block < e.block) →
    (s.cueRun z).status = .running → (s.cueRun z).wait = 1 →
    (s.cueRun z).prescale ≤ (s.cueRun z).prescaleCount →
    (s.cueWord (s.cueRun z).pointer).toNat / 2 ^ 28 = 0 →
    exec (.waitRunsOut z) s = .next
      { s with
        cue :=
          { s.cue with
            runs := tblSet s.cue.runs z
              { s.cueRun z with
                status := .stopped, pointer := (s.cueRun z).pointer + 1, wait := 0
                prescaleCount := 0 } }
        agenda := { s.agenda with zones := tblSet s.agenda.zones z false } })
  ∧ (∀ (s : State) (z : ZoneNo), s.rstLow = false → tblGet s.agenda.zones z = true →
    s.agenda.swap = true →
    (∀ k : MarkNo, tblGet s.agenda.marks k = true → (s.mark k).action ≠ .swap) →
    (s.zone z).state = .draining → (∃ e ∈ (s.zone z).ring, s.timeline.block < e.block) →
    (s.cueRun z).status = .running → (s.cueRun z).wait = 1 →
    (s.cueRun z).prescale ≤ (s.cueRun z).prescaleCount →
    let t := takeSwap s
    exec (.waitRunsOut z) s = .next (zoneWork z
      { t with agenda := { t.agenda with zones := tblSet t.agenda.zones z false } }))
  ∧ ∀ (s : State) (z : ZoneNo),
    let c := s.cueRun z
    let put (x : CueRun) : CueEngine := { s.cue with runs := tblSet s.cue.runs z x }
    (c.status ≠ .running → boundaryNotice z s = s)
    ∧ (c.status = .running → 0 < c.wait →
      (c.prescaleCount < c.prescale →
        boundaryNotice z s = { s with cue := put { c with prescaleCount := c.prescaleCount + 1 } })
      ∧ (c.prescale ≤ c.prescaleCount →
        let counted : State := { s with cue := put { c with prescaleCount := 0, wait := c.wait - 1 } }
        boundaryNotice z s = if c.wait = 1 then executeRun z 8 counted else counted))
    ∧ (c.status = .running → c.wait = 0 → boundaryNotice z s = executeRun z 8 s)
    ∧ executeRun z 0 s = s
    ∧ ∀ budget : Nat,
      let word := (s.cueWord c.pointer).toNat
      let kind := word / 2 ^ 28
      let next : CueRun := { c with pointer := c.pointer + 1 }
      let on (x : CueRun) : State := executeRun z budget { s with cue := put x }
      let rest : State := { s with cue := put { next with status := .stopped } }
      (kind = 0 → executeRun z (budget + 1) s = rest)
      ∧ (kind = 1 → executeRun z (budget + 1) s = executeRun z budget
          { s with
            cue := put next
            playout :=
              { s.playout with
                zones := tblSet s.playout.zones z
                  { s.zone z with
                    target := word / 2 ^ 12 % 2 ^ 15, gainStep := word % 2 ^ 12 } } })
      ∧ (kind = 2 → executeRun z (budget + 1) s =
          if word % 2 ^ 12 = 0 then on next
          else { s with cue := put { next with wait := word % 2 ^ 12, prescaleCount := 0 } })
      ∧ (kind = 3 → executeRun z (budget + 1) s =
          if word % 2 ^ 12 = 0 then on next
          else on { next with loopCount := word % 2 ^ 12, loopStart := c.pointer + 1 })
      ∧ (kind = 4 → executeRun z (budget + 1) s =
          if c.loopCount = 0 then on next
          else on { c with loopCount := c.loopCount - 1, pointer := c.loopStart })
      ∧ (kind = 5 →
          let noted (u : State) : State :=
            offerEvent .cueNote z.val
              [⟨1, (word % 2 ^ 8 : Nat)⟩, ⟨2, c.pointer.toNat⟩, ⟨6, s.timeline.block⟩] u
          executeRun z (budget + 1) s =
            if word / 2 ^ 8 % 2 = 1 then noted rest
            else executeRun z budget (noted { s with cue := put next }))
      ∧ (kind = 6 → executeRun z (budget + 1) s =
          on { c with pointer := BitVec.ofNat 9 (word % 2 ^ 9) })
      ∧ (kind = 7 →
          ((s.zone z).state = .idle ∨ (s.zone z).state = .draining →
            executeRun z (budget + 1) s = rest)
          ∧ ((s.zone z).state = .priming ∨ (s.zone z).state = .playing →
            let draining : State :=
              { rest with
                playout :=
                  { s.playout with
                    zones := tblSet s.playout.zones z { s.zone z with state := .draining } } }
            executeRun z (budget + 1) s =
              if (s.zone z).ring = [] then reachIdle z draining else draining))
      ∧ (8 ≤ kind → executeRun z (budget + 1) s =
          offerEvent .cueFault z.val [⟨2, c.pointer.toNat⟩, ⟨1, (kind : Nat)⟩, ⟨6, s.timeline.block⟩]
            { s with cue := put { c with status := .faulted } })

/-- A due share of a beacon notice that reaches the silence limit of its state: a LOCKED entry goes STALE,
a STALE or ACQUIRING one UNLOCKED with ρ kept; a speaker's entry reports it, a stream's does not (R71,
R78). -/
def Obligations.SilenceMovesEntry : Prop :=
  ∀ (s : State) (e : EntryNo), s.rstLow = false → tblGet s.agenda.notices e = true →
    let quiet := min 255 ((s.entry e).silence + 1)
    let u (st : TrackState) : State :=
      { s with
        tracker :=
          { s.tracker with
            entries := tblSet s.tracker.entries e { s.entry e with silence := quiet, state := st } }
        agenda := { s.agenda with notices := tblSet s.agenda.notices e false } }
    let payload : List Field := [⟨1, quiet⟩, ⟨2, (s.entry e).rho⟩]
    ((s.entry e).state = .locked → s.tracker.params.staleLimit ≤ quiet →
      exec (.silenceStale e) s = .next
        (if e.val < 24 then offerEvent .speakerStale e.val payload (u .stale) else u .stale))
    ∧ ((s.entry e).state = .stale ∨ (s.entry e).state = .acquiring →
      s.tracker.params.lostLimit ≤ quiet →
      exec (.silenceLost e) s = .next
        (if e.val < 24 then offerEvent .speakerLost e.val payload (u .unlocked) else u .unlocked))

/-! ### Frames that arrive -/

/-- A SOURCE frame of a present stream, in order or ahead, that is granted its take: the cell is written and
joins the tail, sequence, counters and demand follow, a LIVE stream is observed at every 32nd sequence number, a
depletion report is made where the take makes it due, and nothing else changes (R25, R29, R44, R48 to R50, R54,
R61). A LIVE queue at its quota first drops its oldest cell, which the take then hands out again, and marks
what follows DISCONTINUITY (R45, R28, R30). -/
def Obligations.SourceFrameAppended : Prop :=
  ∀ (s : State) (f : SourceFrame) (st : StreamNo), s.rstLow = false → s.source.up = true →
    f.received = true → f.stream = operandOf st → (s.stream st).present = true →
    f.lanes.toNat = (s.stream st).lanes →
    let d := s.stream st
    let gap :=
      match d.expected with
      | none => 0
      | some x => (f.seq - x).toNat
    gap < 32768 →
    let appended (c : CellNo) (free : List CellNo) (armed : Bool) (cells : Vector Cell 1024)
        (queue : List CellNo) (overflows : Nat) (discontinuity : Bool) : State :=
      let low := armed && decide (free.length ≤ s.store.depletionMark)
      let u : State :=
        { s with
          store :=
            { s.store with
              freeList := free, depletionArmed := armed && !low
              cells := tblSet cells c (.audio
                { stream := st, seq := f.seq, sourceIndex := f.sourceIndex, lanes := f.lanes.toNat,
                  endFlag := f.endFlag, discontinuity := discontinuity, samples := f.samples }) }
          intake :=
            { s.intake with
              streams := tblSet s.intake.streams st
                { d with
                  queue := queue ++ [c]
                  expected := if f.endFlag then none else some (f.seq + 1)
                  demandArmed :=
                    d.demandArmed || (d.cls == .paced && decide (d.demandMark < queue.length + 1))
                  counters :=
                    { d.counters with
                      overflows := overflows
                      accepted := counted d.counters.accepted 1
                      gaps := counted d.counters.gaps gap } } }
          tracker :=
            if d.cls = .live ∧ f.seq.toNat % 32 = 0 then
              { s.tracker with
                entries := tblSet s.tracker.entries (streamEntry st)
                  (({ s.entry (streamEntry st) with silence := 0 } : TrackerEntry).input
                    s.tracker.params s.timeline.count (f.sourceIndex * 256)).1 }
            else s.tracker }
      if low then
        offerEvent .storeDepletion 0 [⟨4, free.length⟩, ⟨4, s.store.depletionMark⟩] u
      else u
    (∀ (c : CellNo) (rest : List CellNo), d.queue.length < d.quota → s.store.freeList = c :: rest →
      s.store.claimReserve < rest.length + 1 →
      exec (.sourceFrame f) s = .next
        (appended c rest s.store.depletionArmed s.store.cells d.queue d.counters.overflows
          (decide (gap ≠ 0))))
    ∧ ∀ (c : CellNo) (queue : List CellNo), d.cls = .live → d.quota ≤ d.queue.length →
      d.queue = c :: queue → s.store.claimReserve < s.store.freeList.length + 1 →
      exec (.sourceFrame f) s = .next
        (appended c s.store.freeList
          (s.store.depletionArmed
            || decide (min (s.store.depletionMark + 16) 1024 ≤ s.store.freeList.length + 1))
          (match queue.head? with
            | none => s.store.cells
            | some h =>
                match s.audioCell h with
                | none => s.store.cells
                | some a => tblSet s.store.cells h (.audio { a with discontinuity := true }))
          queue (counted d.counters.overflows 1) (decide (gap ≠ 0) || queue.isEmpty))

/-- The SOURCE frames that are dropped: of a wrong length, of an absent stream or one above 15, of other
lanes than the stream's, behind the expected sequence, refused by a full PACED queue, and refused their
take, which at a full LIVE queue does not undo the drop of the oldest cell (R42 to R47, R203). A queue count has
the byte of Table 86, which 256 does not fit (log entry 21); a queue beyond its quota is full, as the model has
it in states that no run reaches (log entry 16). -/
def Obligations.SourceFrameDropped : Prop :=
  ∀ (s : State) (f : SourceFrame), s.rstLow = false → s.source.up = true →
    let malformed : State :=
      { s with
        intake := { s.intake with malformedFrames := counted s.intake.malformedFrames 1 } }
    (f.received = false → exec (.sourceFrame f) s = .next malformed)
    ∧ (f.received = true → (16 ≤ f.stream.toNat
          ∨ ∃ st : StreamNo, f.stream = operandOf st ∧ (s.stream st).present = false) →
        exec (.sourceFrame f) s = .next
          { s with intake := { s.intake with strayFrames := counted s.intake.strayFrames 1 } })
    ∧ ∀ st : StreamNo, f.received = true → f.stream = operandOf st → (s.stream st).present = true →
        let d := s.stream st
        let put (x : Stream) : State :=
          { s with intake := { s.intake with streams := tblSet s.intake.streams st x } }
        let inOrder := ∀ x, d.expected = some x → (f.seq - x).toNat < 32768
        (f.lanes.toNat ≠ d.lanes → exec (.sourceFrame f) s = .next malformed)
        ∧ (f.lanes.toNat = d.lanes → (∃ x, d.expected = some x ∧ 32768 ≤ (f.seq - x).toNat) →
            exec (.sourceFrame f) s = .next
              (put { d with counters := { d.counters with old := counted d.counters.old 1 } }))
        ∧ (f.lanes.toNat = d.lanes → inOrder → d.cls = .paced → d.quota ≤ d.queue.length →
            exec (.sourceFrame f) s = .next
              (offerEvent .streamOverrun st.val
                [⟨2, f.seq.toNat⟩,
                 ⟨1, if d.queue.length < 256 then d.queue.length
                   else (Config.wideCountByte d.queue.length).toNat⟩]
                (put { d with
                  counters := { d.counters with overruns := counted d.counters.overruns 1 } })))
        ∧ (f.lanes.toNat = d.lanes → inOrder → d.queue.length < d.quota →
            s.store.freeList.length ≤ s.store.claimReserve →
            exec (.sourceFrame f) s = .next
              (offerEvent .streamStoreDrop st.val [⟨2, f.seq.toNat⟩, ⟨4, s.store.freeList.length⟩]
                (put { d with
                  counters := { d.counters with storeDrops := counted d.counters.storeDrops 1 } })))
        ∧ ∀ (c : CellNo) (queue : List CellNo), f.lanes.toNat = d.lanes → inOrder → d.cls = .live →
            d.quota ≤ d.queue.length → d.queue = c :: queue →
            s.store.freeList.length + 1 ≤ s.store.claimReserve →
            ∃ cells, exec (.sourceFrame f) s = .next
              (offerEvent .streamStoreDrop st.val
                [⟨2, f.seq.toNat⟩, ⟨4, (s.store.freeList.length + 1 : Nat)⟩]
                { put { d with
                    queue := queue
                    counters :=
                      { d.counters with
                        overflows := counted d.counters.overflows 1
                        storeDrops := counted d.counters.storeDrops 1 } } with
                  store := { s.store.released [c] with cells := cells } })
              ∧ ∀ h : CellNo, tblGet cells h =
                  match s.audioCell h with
                  | none => s.cell h
                  | some a =>
                      if queue.head? = some h then .audio { a with discontinuity := true } else s.cell h

/-- An echo at its arrival. With a gap count above 4 it is malformed, and of no present speaker it is stray (R180).
Matched, it sets the accessed flag and puts the silence count to 0 (R60); then, by its beacon: the pair of a logged
beacon is an input to the entry, which takes it as LockedEntryTracksInput says (R60, R62 to R70), so that an
UNLOCKED entry begins acquisition from it, ρ kept (R63), and an input that is not newer than the raw pair is stale
(R62); a beacon that is not logged counts as stale (R60); and the gap list is served on what that leaves (R180). A
RESYNC echo begins acquisition with ρ 0, or leaves the entry UNLOCKED, is reported, and puts the horizon to the
current block (R72, R131); its gap list is not served. The numbers of a gap list are judged in order, a repeated one
passed over, and each is served by a REFILL or is too late (R180, R181). -/
def Obligations.EchoBeginsAcquisition : Prop :=
  ∀ (s : State) (f : EchoFrame), s.rstLow = false → s.air.up = true → f.received = true →
    (4 < f.gapCount.toNat → exec (.echo f) s = .next
      { s with
        intake := { s.intake with malformedFrames := counted s.intake.malformedFrames 1 } })
    ∧ (f.gapCount.toNat ≤ 4 →
      (∀ sp : SpeakerNo, (s.activeSpeaker sp).present = true →
        (s.activeSpeaker sp).address ≠ f.address) →
      exec (.echo f) s = .next
        { s with intake := { s.intake with strayFrames := counted s.intake.strayFrames 1 } })
    ∧ ∀ sp : SpeakerNo, f.gapCount.toNat ≤ 4 → s.AddressesDistinct →
      (s.activeSpeaker sp).present = true → (s.activeSpeaker sp).address = f.address →
      let e := s.entry (speakerEntry sp)
      let heard (x : TrackerEntry) : State :=
        { s with
          plan := { s.plan with accessed := tblSet s.plan.accessed sp true }
          tracker :=
            { s.tracker with entries := tblSet s.tracker.entries (speakerEntry sp) x } }
      let stale : State := heard { e with silence := 0, staleEchoes := counted e.staleEchoes 1 }
      (∀ block : Nat, f.resync = false → f.gapCount = 0 → s.lookupBeacon f.beacon = some block →
        (e.state = .unlocked → exec (.echo f) s = .next (heard
          { e with
            state := .acquiring, rawT := 128 * block, rawL := f.count, anchorT := 128 * block
            anchorL := f.count, accepted := 1, outlierRun := 0, silence := 0
            echoesAccepted := counted e.echoesAccepted 1 }))
        ∧ (e.state ≠ .unlocked → 128 * block ≤ e.rawT → exec (.echo f) s = .next stale))
      ∧ (∀ block : Nat, f.resync = false → s.lookupBeacon f.beacon = some block →
        exec (.echo f) s = .next
          (f.issues.eraseDups.foldl (fun u n => serveGap sp f.gapZone n u)
            (trackInput (speakerEntry sp) (128 * block) f.count (heard { e with silence := 0 }))))
      ∧ (f.resync = true → exec (.echo f) s = .next
        (offerEvent .speakerReacquire sp.val [⟨1, 1⟩, ⟨2, 0⟩]
          { heard
              (match s.lookupBeacon f.beacon with
                | some block =>
                    { e with
                      state := .acquiring, rho := 0, rawT := 128 * block, rawL := f.count
                      anchorT := 128 * block, anchorL := f.count, accepted := 1, outlierRun := 0
                      silence := 0, echoesAccepted := counted e.echoesAccepted 1 }
                | none =>
                    { e with
                      state := .unlocked, rho := 0, silence := 0
                      staleEchoes := counted e.staleEchoes 1 }) with
            playout :=
              { s.playout with
                speakers := tblSet s.playout.speakers sp
                  { s.speaker sp with horizon := s.timeline.block } } }))
      ∧ (f.resync = false → s.lookupBeacon f.beacon = none →
        exec (.echo f) s =
          .next (f.issues.eraseDups.foldl (fun u n => serveGap sp f.gapZone n u) stale))
      ∧ ∀ (u : State) (n : SerialNo),
        let k := tblGet u.air.counters sp
        let limit := u.timeline.block + u.store.refillMargin
        let put (k' : AirCounters) : State :=
          { u with air := { u.air with counters := tblSet u.air.counters sp k' } }
        (∀ (z : ZoneNo) (x : IssueEntry), f.gapZone = operandOf z → (u.speaker sp).zone = some z →
          u.hears sp → x ∈ (u.zone z).ring → x.number = n →
          (∀ y ∈ (u.zone z).ring, y.number = n → y = x) → limit ≤ x.block →
          let ramp := x.rampIn || (u.speaker sp).rampMarker == some (z, n)
          let role := (u.speaker sp).role
          serveGap sp f.gapZone n u = handAudio
            { frame :=
                { address := (u.activeSpeaker sp).address, zone := z, role := role
                  audioKind := .refill, entryKind := x.kind, rampIn := ramp, rampOut := x.rampOut
                  number := n, stamp := u.stamp sp x.block
                  rate := BitVec.ofInt 16 (u.entry (speakerEntry sp)).rho
                  samples := deriveSamples (x.cell.bind u.audioCell) x role (u.trim sp).gain ramp
                    x.rampOut }
              speaker := sp, block := x.block }
            (put { k with refillsMade := counted k.refillsMade 1 }))
        ∧ ((∀ z : ZoneNo, f.gapZone = operandOf z → (u.speaker sp).zone = some z → u.hears sp →
              ∀ x ∈ (u.zone z).ring, x.number = n → x.block < limit) →
          serveGap sp f.gapZone n u =
            put { k with refillsTooLate := counted k.refillsTooLate 1 })

/-- Inbound frames that fail the reception check: on the Source Link and on the Air Link they are dropped
and counted; a DIRECTIVE frame too long is answered with FORM besides (R203). -/
def Obligations.MalformedFrameDropped : Prop :=
  ∀ (s : State) (cls : Byte) (body : List Byte), s.rstLow = false →
    let dropped : State :=
      { s with
        intake := { s.intake with malformedFrames := counted s.intake.malformedFrames 1 } }
    (s.source.up = true → cls ≠ 0x02 → receptionPasses .source cls body = false →
      exec (.malformedFrame .source cls body) s = .next dropped)
    ∧ (s.source.up = true → body.length < 4 →
      exec (.malformedFrame .source 0x02 body) s = .next dropped)
    ∧ (s.Listening → 134 < body.length →
      exec (.malformedFrame .source 0x02 body) s = .next
        (dropped.answered (body.getD 0 0)
          ⟨BitVec.ofNat 2 (body.getD 1 0).toNat, body.getD 2 0 ++ body.getD 3 0⟩ .form []))
    ∧ (s.air.up = true → receptionPasses .air cls body = false →
      exec (.malformedFrame .air cls body) s = .next dropped)

/-! ### The directives of the Timeline -/

/-- SET BEACON stores the interval, at least 8 (R12). SET TIMEBASE in LOCAL form writes τ, clamped, and
compensates every entry by the applied change; in FASTEST form it keeps τ and replaces the candidate set,
elected stream and no-candidate condition kept only where the mode was FASTEST already; a mode of neither
code is refused with VALUE (R3, R5). -/
def Obligations.TimelineSettingsTaken : Prop :=
  ∀ (s : State) (d : Header), s.Listening → d.rank = 0 →
    (∀ interval : Byte, exec (.setBeacon d interval) s = .next
      { s.answered 0x11 d (if interval.toNat < 8 then .clamped else .ok) [] with
        timeline := { s.timeline with beaconInterval := max 8 interval.toNat } })
    ∧ (∀ tau candidates : BitVec 16,
      let v := max (-8192) (min 8192 tau.toInt)
      ∃ t, exec (.setTimebaseLocal d 0 tau candidates) s = .next t
        ∧ t = { s.answered 0x10 d (if v = tau.toInt then .ok else .clamped) [] with
                timeline :=
                  { s.timeline with
                    tau := v, mode := .localMode, candidates := candidates, elected := none
                    noCandidate := false }
                tracker := { s.tracker with entries := t.tracker.entries } }
        ∧ ∀ e : EntryNo, t.entry e =
            if v = s.timeline.tau then s.entry e else (s.entry e).compensated (v - s.timeline.tau))
    ∧ (∀ tau candidates : BitVec 16, exec (.setTimebaseFastest d tau candidates) s = .next
      { s.answered 0x10 d .ok [] with
        timeline :=
          { s.timeline with
            mode := .fastest, candidates := candidates
            elected := if s.timeline.mode = .fastest then s.timeline.elected else none
            noCandidate := s.timeline.mode == .fastest && s.timeline.noCandidate } })
    ∧ ∀ (mode : Byte) (tau candidates : BitVec 16), 2 ≤ mode.toNat →
      exec (.setTimebaseLocal d mode tau candidates) s = .next (s.answered 0x10 d .value [])

/-- ARM MARK writes its slot whole; DISARM MARK disarms it. A slot above 7 is refused with INDEX, then an
unknown action with VALUE, then the zone of a START or STOP above 7 with INDEX, then a block of 2^41 or more
with VALUE (R13, R14). -/
def Obligations.MarkSlotsWritten : Prop :=
  ∀ (s : State) (d : Header) (k : MarkNo) (action : MarkAction) (block : BitVec 48) (zone : Byte),
    s.Listening → d.rank = 0 → tblGet s.agenda.marks k = false →
    (block.toNat < 2 ^ 41 → (action = .start ∨ action = .stop → zone.toNat < 8) →
      exec (.armMark d (operandOf k) block (BitVec.ofNat 8 action.code) zone) s = .next
        { s.answered 0x12 d .ok [] with
          timeline :=
            { s.timeline with
              marks := tblSet s.timeline.marks k
                { armed := true, block := block.toNat, action := action
                  zone := if action = .start ∨ action = .stop then some (Fin.ofNat 8 zone.toNat)
                    else none
                  late := decide (block.toNat ≤ s.timeline.block) } } })
    ∧ exec (.disarmMark d (operandOf k)) s = .next
        { s.answered 0x13 d .ok [] with
          timeline :=
            { s.timeline with
              marks := tblSet s.timeline.marks k { s.mark k with armed := false } } }
    ∧ (2 ^ 41 ≤ block.toNat → (action = .start ∨ action = .stop → zone.toNat < 8) →
      exec (.armMark d (operandOf k) block (BitVec.ofNat 8 action.code) zone) s =
        .next (s.answered 0x12 d .value []))
    ∧ (action = .start ∨ action = .stop → 8 ≤ zone.toNat →
      exec (.armMark d (operandOf k) block (BitVec.ofNat 8 action.code) zone) s =
        .next (s.answered 0x12 d .index []))
    ∧ (∀ code : Byte, 4 ≤ code.toNat →
      exec (.armMark d (operandOf k) block code zone) s = .next (s.answered 0x12 d .value []))
    ∧ ∀ (slot code : Byte), 8 ≤ slot.toNat →
      exec (.armMark d slot block code zone) s = .next (s.answered 0x12 d .index [])
        ∧ exec (.disarmMark d slot) s = .next (s.answered 0x13 d .index [])

/-! ### The directives of Stream Intake and of the Cell Store -/

/-- OPEN STREAM of an absent stream, whose queue is empty (R37), writes its descriptor; a PACED stream asks for
data after the reply, with the queue count 0 and the free space that is its quota (R38). The width of the free
space is the model's (log entry 7). -/
def Obligations.StreamOpened : Prop :=
  ∀ (s : State) (d : Header) (st : StreamNo) (cls : StreamClass) (lanes : Byte)
    (quota mark : BitVec 16), s.Listening → s.StreamsLegal → d.rank = 0 →
    (s.stream st).present = false → (lanes = 1 ∨ lanes = 2) →
    let q := max 1 (min 256 quota.toNat)
    let m := min q mark.toNat
    let u : State :=
      { s.answered 0x20 d (if q = quota.toNat ∧ m = mark.toNat then .ok else .clamped) [] with
        intake :=
          { s.intake with
            streams := tblSet s.intake.streams st
              { s.stream st with
                present := true, cls := cls, lanes := lanes.toNat, quota := q, demandMark := m
                expected := none, demandArmed := false
                counters :=
                  { accepted := 0, gaps := 0, old := 0, overflows := 0, overruns := 0
                    storeDrops := 0, slips := 0, underruns := 0 } } } }
    exec (.openStream d (operandOf st) (BitVec.ofNat 8 cls.code) lanes quota mark) s = .next
      (match cls with
       | .live => u
       | .paced => offerEvent .streamDemand st.val [⟨1, 0⟩, ⟨2, (q : Nat)⟩] u)

/-- CLOSE STREAM of a present, unbound stream releases its cells from head to tail and makes it absent
(R39); FLUSH STREAM of a present stream releases them, and a PACED stream asks for data after the reply, with
the queue count 0 and the free space that is its quota, its demand armed flag cleared (R40). The width of the
free space is the model's (log entry 7). -/
def Obligations.StreamReleased : Prop :=
  ∀ (s : State) (d : Header) (st : StreamNo), s.Listening → d.rank = 0 →
    (s.stream st).present = true →
    let u (kind : Byte) (x : Stream) : State :=
      { s.answered kind d .ok [] with
        store := s.store.released (s.stream st).queue
        intake := { s.intake with streams := tblSet s.intake.streams st x } }
    ((∀ z : ZoneNo, (s.activeZone z).present = true → (s.activeZone z).stream ≠ some st) →
      exec (.closeStream d (operandOf st)) s = .next
        (u 0x21 { s.stream st with
          queue := [], expected := none, demandArmed := false, present := false }))
    ∧ exec (.flushStream d (operandOf st)) s = .next
      (match (s.stream st).cls with
       | .live => u 0x22 { s.stream st with queue := [], expected := none }
       | .paced =>
           offerEvent .streamDemand st.val [⟨1, 0⟩, ⟨2, (s.stream st).quota⟩]
             (u 0x22 { s.stream st with queue := [], expected := none, demandArmed := false }))

/-- SET STORE stores the three settings, clamped, and arms depletion reporting where the re-arming level of
the new mark is reached (R30, R32). -/
def Obligations.StoreSettingsSet : Prop :=
  ∀ (s : State) (d : Header) (mark : BitVec 16) (reserve margin : Byte), s.Listening → d.rank = 0 →
    let m := min 1023 mark.toNat
    let r := min 64 reserve.toNat
    let g := max 1 (min 8 margin.toNat)
    exec (.setStore d mark reserve margin) s = .next
      { s.answered 0x51 d
          (if m = mark.toNat ∧ r = reserve.toNat ∧ g = margin.toNat then .ok else .clamped) [] with
        store :=
          { s.store with
            depletionMark := m, claimReserve := r, refillMargin := g
            depletionArmed :=
              s.store.depletionArmed || decide (min (m + 16) 1024 ≤ s.store.freeList.length) } }

/-- A take: refused by its condition it changes nothing; granted it removes the head of the free list, and
makes the depletion report where it is due (R25, R26, R29). -/
def Obligations.TakesGrantedOrRefused : Prop :=
  ∀ (s : State) (kind : TakeKind),
    let floor := if kind = .claimRecord then 0 else s.store.claimReserve
    (s.store.freeList.length ≤ floor → takeCell kind s = none)
    ∧ ∀ (c : CellNo) (rest : List CellNo), s.store.freeList = c :: rest → floor < rest.length + 1 →
        takeCell kind s = some (c,
          if rest.length ≤ s.store.depletionMark ∧ s.store.depletionArmed = true then
            offerEvent .storeDepletion 0 [⟨4, rest.length⟩, ⟨4, s.store.depletionMark⟩]
              { s with store := { s.store with freeList := rest, depletionArmed := false } }
          else { s with store := { s.store with freeList := rest } })

/-! ### The directives of the Plan and of the Clock Tracker -/

/-- STAGE ZONE writes the staged descriptor whole, its values clamped; a PROGRAM zone has priority 0, no
members and no overlay role (R90). STAGE SPEAKER writes the staged descriptor whole (R91). -/
def Obligations.DescriptorsStaged : Prop :=
  (∀ (s : State) (d : Header) (o : ZoneOperands) (z : ZoneNo) (kind : ZoneKind), s.Listening →
    o.zone = operandOf z → o.kind = BitVec.ofNat 8 kind.code →
    (o.stream.toNat < 16 ∨ o.stream = 0xFF) → (o.cueEntry.toNat < 512 ∨ o.cueEntry = 0xFFFF) →
    (kind = .overlay → o.overlayRole.toNat < 4) → s.ZoneAdmits d z →
    d.rank.toNat ≤ min 3 o.rank.toNat → s.plan.swapPending = false →
    let clamped :=
      3 < o.rank.toNat ∨ (kind = .overlay ∧ (o.priority.toNat < 1 ∨ 3 < o.priority.toNat))
        ∨ o.primeDepth.toNat < 1 ∨ 96 < o.primeDepth.toNat ∨ o.lead.toNat < 4 ∨ 48 < o.lead.toNat
        ∨ 32767 < o.startLevel.toNat
    exec (.stageZone d o) s = .next
      { s.answered 0x30 d (if clamped then .clamped else .ok) [] with
        plan :=
          { s.plan with
            staged :=
              { s.plan.staged with
                zones := tblSet s.plan.staged.zones z
                  { present := o.present != 0, kind := kind
                    priority := if kind = .program then 0 else max 1 (min 3 o.priority.toNat)
                    rank := min 3 o.rank.toNat
                    stream := if o.stream = 0xFF then none else some (Fin.ofNat 16 o.stream.toNat)
                    primeDepth := max 1 (min 96 o.primeDepth.toNat)
                    lead := max 4 (min 48 o.lead.toNat)
                    startLevel := min 32767 o.startLevel.toNat
                    cueEntry := if o.cueEntry = 0xFFFF then none
                      else some (BitVec.ofNat 9 o.cueEntry.toNat)
                    members := if kind = .program then 0 else o.members
                    overlayRole := if kind = .program then none else roleOf o.overlayRole } } } })
  ∧ ∀ (s : State) (d : Header) (o : SpeakerOperands) (sp : SpeakerNo) (role : Role), s.Listening →
    o.speaker = operandOf sp → (o.plannedZone.toNat < 8 ∨ o.plannedZone = 0xFF) →
    o.role = BitVec.ofNat 8 role.code → 1 ≤ o.address.toNat → o.address.toNat ≤ 65534 →
    s.SpeakerAdmits d sp → d.rank.toNat ≤ min 3 o.rank.toNat → s.plan.swapPending = false →
    exec (.stageSpeaker d o) s = .next
      { s.answered 0x31 d (if 3 < o.rank.toNat then .clamped else .ok) [] with
        plan :=
          { s.plan with
            staged :=
              { s.plan.staged with
                speakers := tblSet s.plan.staged.speakers sp
                  { present := o.present != 0, rank := min 3 o.rank.toNat, address := o.address
                    plannedZone := if o.plannedZone = 0xFF then none
                      else some (Fin.ofNat 8 o.plannedZone.toNat)
                    role := role } } } }

/-- UNSTAGE copies the active bank into the staged one, and SWAP makes the swap pending where the rank passes
for every object that it would change; both are refused with BUSY while a swap is pending, and SWAP with RANK
where the rank passes not (R92, R93). -/
def Obligations.UnstageAndSwapTaken : Prop :=
  ∀ (s : State) (d : Header), s.Listening →
    (d.rank = 0 → exec (.unstage d) s = .next
      (if s.plan.swapPending then s.answered 0x32 d .busy []
        else { s.answered 0x32 d .ok [] with plan := { s.plan with staged := s.plan.active } }))
    ∧ ((∀ z : ZoneNo, s.plan.staged.zone z ≠ s.activeZone z → s.ZoneAdmits d z) →
      (∀ sp : SpeakerNo, s.plan.staged.speaker sp ≠ s.activeSpeaker sp → s.SpeakerAdmits d sp) →
      exec (.swap d) s = .next
        (if s.plan.swapPending then s.answered 0x33 d .busy []
          else { s.answered 0x33 d .ok [] with plan := { s.plan with swapPending := true } }))
    ∧ ((∃ z : ZoneNo, s.plan.staged.zone z ≠ s.activeZone z ∧ ¬ s.ZoneAdmits d z)
          ∨ (∃ sp : SpeakerNo, s.plan.staged.speaker sp ≠ s.activeSpeaker sp ∧ ¬ s.SpeakerAdmits d sp) →
      exec (.swap d) s = .next (s.answered 0x33 d .rank []))

/-- The swap of a boundary (R94 to R103). It is refused by the first object that fails the first failing
condition of Table 38, and then changes nothing but the flag and reports SWAP REFUSED (R96, R97). Where no
condition fails, the staged bank becomes the active one and the banks are equal, SWAP DONE is reported before the
DEMAND reports of the streams released, and the notices of 5.6 act: a zone in play whose stream changed re-enters
PRIMING (R99, R115); a speaker removed loses its claims, is CUT at its outgoing address, and its entry is
UNLOCKED (R100, R148); one readdressed is CUT at its outgoing address, UNLOCKED, and its horizon is the current
block, as is that of one that arrives (R101, R131); a new planned zone or role is followed as R102 and R126 have
it; and a stream that lost its zone is flushed (R103, R41). A SWAP mark swaps, or merges with a swap requested
for the same boundary (R16, R94). The model's are the agenda that holds a requested swap (log entry 2), the two
bytes of the free space in STREAM DEMAND (log entry 7), and the byte of a mark's late field (log entry 24). -/
def Obligations.SwapExchangesBanks : Prop :=
  ∀ s : State,
    let old := s.plan.active
    let new := s.plan.staged
    let m := s.timeline.block
    let limit := m + s.store.refillMargin
    let shared (st : StreamNo) (z y : ZoneNo) : Prop :=
      z < y ∧ ∀ x ∈ [z, y], (new.zone x).present = true ∧ (new.zone x).stream = some st
    let busy (z : ZoneNo) : Prop :=
      (old.zone z).present = true ∧ (s.zone z).state ≠ .idle
        ∧ ((new.zone z).present = false ∨ (new.zone z).kind ≠ (old.zone z).kind
          ∨ ((old.zone z).kind = .overlay ∧ (new.zone z).stream ≠ (old.zone z).stream))
    let badMember (sp : SpeakerNo) (z : ZoneNo) : Prop :=
      (new.speaker sp).present = true ∧ (new.speaker sp).plannedZone = some z
        ∧ ((new.zone z).present = false ∨ (new.zone z).kind = .overlay)
    let duplicate (sp o : SpeakerNo) : Prop :=
      sp < o ∧ (new.speaker sp).present = true ∧ (new.speaker o).present = true
        ∧ (new.speaker o).address = (new.speaker sp).address
    let absentMember (z : ZoneNo) (sp : SpeakerNo) : Prop :=
      (new.zone z).present = true ∧ (new.zone z).kind = .overlay
        ∧ (new.zone z).members.getLsbD sp.val = true ∧ (new.speaker sp).present = false
    let refused (reason subject : Nat) (payload : List Field) : Prop :=
      takeSwap s = offerEvent .swapRefused subject (⟨1, reason⟩ :: payload ++ [⟨6, m⟩])
        { s with
          plan := { s.plan with swapPending := false }
          agenda := { s.agenda with swap := false, swapTaken := true } }
    (∀ st z y, shared st z y →
      (∀ st' z' y', shared st' z' y' → st ≤ st' ∧ (st' = st → z ≤ z' ∧ (z' = z → y ≤ y'))) →
      refused 0 st.val [⟨1, z.val⟩, ⟨1, y.val⟩])
    ∧ ((∀ st z y, ¬ shared st z y) →
      (∀ z, busy z → (∀ y, busy y → z ≤ y) →
        refused 1 z.val
          [⟨1, match (s.zone z).state with
            | .idle => 0
            | .priming => 1
            | .playing => 2
            | .draining => 3⟩])
      ∧ ((∀ z, ¬ busy z) →
        (∀ sp z, badMember sp z → (∀ o y, badMember o y → sp ≤ o) → refused 2 sp.val [⟨1, z.val⟩])
        ∧ ((∀ sp z, ¬ badMember sp z) →
          (∀ sp o, duplicate sp o → (∀ a b, duplicate a b → sp ≤ a ∧ (a = sp → o ≤ b)) →
            refused 3 sp.val [⟨1, o.val⟩, ⟨2, (new.speaker o).address.toNat⟩])
          ∧ ((∀ sp o, ¬ duplicate sp o) →
            (∀ z sp, absentMember z sp →
              (∀ y o, absentMember y o → z ≤ y ∧ (y = z → sp ≤ o)) →
              refused 4 z.val [⟨1, sp.val⟩])
            ∧ ((∀ z sp, ¬ absentMember z sp) →
              let t := takeSwap s
              let removed (sp : SpeakerNo) : Prop :=
                (old.speaker sp).present = true ∧ (new.speaker sp).present = false
              let arrived (sp : SpeakerNo) : Prop :=
                (old.speaker sp).present = false ∧ (new.speaker sp).present = true
              let stays (sp : SpeakerNo) : Prop :=
                (old.speaker sp).present = true ∧ (new.speaker sp).present = true
              let readdressed (sp : SpeakerNo) : Prop :=
                stays sp ∧ (old.speaker sp).address ≠ (new.speaker sp).address
              let replanned (sp : SpeakerNo) : Prop :=
                stays sp ∧ (old.speaker sp).plannedZone ≠ (new.speaker sp).plannedZone
              let freed (st : StreamNo) : Prop :=
                (s.stream st).present = true ∧ (s.stream st).queue ≠ []
                  ∧ (∃ z, (old.zone z).present = true ∧ (old.zone z).stream = some st)
                  ∧ ∀ z, (new.zone z).present = true → (new.zone z).stream ≠ some st
              t.plan =
                  { s.plan with
                    active := new, swapPending := false, accessed := t.plan.accessed }
                ∧ t.timeline = s.timeline ∧ t.cue = s.cue
                ∧ t.tracker.params = s.tracker.params ∧ t.playout.tap.state = s.playout.tap.state
                ∧ (∀ z, t.zone z =
                    if (old.zone z).present = true ∧ (new.zone z).present = true
                        ∧ (old.zone z).stream ≠ (new.zone z).stream ∧ (s.zone z).state ≠ .idle then
                      { s.zone z with state := .priming, primingBegan := m, prevKind := none }
                    else s.zone z)
                ∧ (∀ sp, (t.accessedFlag sp = true ↔ s.accessedFlag sp = true ∧ ¬ removed sp)
                  ∧ (t.claimStack sp = if removed sp then [] else s.claimStack sp)
                  ∧ t.entry (speakerEntry sp) =
                    (let e := s.entry (speakerEntry sp)
                     if removed sp ∨ readdressed sp then { e with state := .unlocked } else e)
                  ∧ (t.speaker sp).zone =
                    (if removed sp then none
                     else if arrived sp ∨ readdressed sp ∨ replanned sp then
                       match s.topClaim sp with
                       | some c => some c.zone
                       | none => (new.speaker sp).plannedZone
                     else (s.speaker sp).zone)
                  ∧ (t.speaker sp).role =
                    (match if removed sp then none else s.topClaim sp with
                     | some c => c.role
                     | none => (new.speaker sp).role)
                  ∧ (removed sp → (t.speaker sp).horizon = limit - 1)
                  ∧ (readdressed sp ∨ (arrived sp ∧ ¬ s.hears sp) →
                    (t.speaker sp).horizon = m ∧ (t.speaker sp).rampPending = true)
                  ∧ (t.speaker sp).cuts =
                    (if removed sp ∨ readdressed sp then counted (s.speaker sp).cuts 1
                     else (s.speaker sp).cuts))
                ∧ (∀ st, t.entry (streamEntry st) = s.entry (streamEntry st)
                  ∧ t.stream st =
                    (let d := s.stream st
                     if freed st then
                       { d with
                         queue := [], expected := none
                         demandArmed := d.demandArmed && d.cls == .live }
                     else d))
                ∧ (∀ gone : List SpeakerNo, gone.Pairwise (· < ·) → (∀ sp, sp ∈ gone ↔ removed sp) →
                  ∀ empty : List StreamNo, empty.Pairwise (· < ·) → (∀ st, st ∈ empty ↔ freed st) →
                  t.store = s.store.released
                      (gone.flatMap s.claimStack ++ empty.flatMap fun st => (s.stream st).queue)
                    ∧ t.source =
                      ((empty.filter fun st => (s.stream st).cls == .paced).foldl
                        (fun u st =>
                          offerEvent .streamDemand st.val [⟨1, 0⟩, ⟨2, (s.stream st).quota⟩] u)
                        (offerEvent .swapDone 0 [⟨6, m⟩] s)).source)
                ∧ (∀ cuts : List SpeakerNo, cuts.Pairwise (· < ·) →
                  (∀ sp, sp ∈ cuts ↔ removed sp ∨ readdressed sp) →
                  (∀ sp, arrived sp ∨ replanned sp → ¬ s.hears sp) →
                  t.air = (cuts.foldl
                    (fun u sp => handCut sp (old.speaker sp).address (s.stamp sp limit) limit u)
                    s).air))))))
    ∧ ∀ k : MarkNo, s.rstLow = false → tblGet s.agenda.marks k = true → (s.mark k).armed = true →
      (s.mark k).action = .swap →
      let u : State :=
        { s with
          timeline :=
            { s.timeline with
              marks := tblSet s.timeline.marks k { s.mark k with armed := false } }
          agenda := { s.agenda with marks := tblSet s.agenda.marks k false } }
      let payload : List Field :=
        [⟨1, 1⟩, numberByte (s.mark k).zone, ⟨6, (s.mark k).block⟩, ⟨6, m⟩, flagByte (s.mark k).late]
      exec (.markFiring k) s = .next
        (if s.agenda.swap = true ∨ s.agenda.swapTaken = true then
          offerEvent .markMerged k.val payload u
        else
          offerEvent (if (s.mark k).late then .markLate else .markFired) k.val payload (takeSwap u))

/-- SET TRIM stores gain and delay, clamped; a changed delay makes the speaker's next first-send ramp in
(R88). What the trims are for: a stamp is the mapping of R76 with the trim delay, and a PLAYOUT frame carries
it, the rate of R77, and 128 samples by lane, zone gain, trim gain, ramps, and the saturated product of R125
(R122 to R125). -/
def Obligations.TrimSet : Prop :=
  (∀ (s : State) (d : Header) (sp : SpeakerNo) (gain : BitVec 16) (delay : BitVec 24), s.Listening →
    (s.activeSpeaker sp).present = true → s.SpeakerAdmits d sp →
    let g := min 32767 gain.toNat
    let l := min 1048575 delay.toNat
    exec (.setTrim d (operandOf sp) gain delay) s = .next
      { s.answered 0x43 d (if g = gain.toNat ∧ l = delay.toNat then .ok else .clamped) [] with
        plan := { s.plan with trims := tblSet s.plan.trims sp { gain := g, delay := l } }
        playout :=
          if (s.trim sp).delay = l then s.playout
          else
            { s.playout with
              speakers := tblSet s.playout.speakers sp { s.speaker sp with rampPending := true } } })
  ∧ ∀ (s : State) (sp : SpeakerNo),
    (∀ p : Nat,
      let e := s.entry (speakerEntry sp)
      let dt : Int := 256 * (128 * (p : Int) - e.anchorT)
      s.stamp sp p = BitVec.ofInt 32
        (e.anchorL.toNat + dt + roundDiv (dt * e.rho) 16777216 + (s.trim sp).delay))
    ∧ ∀ (kind : AudioKind) (speakerRamp : Bool) (z : ZoneNo) (e : IssueEntry),
      let role := (s.speaker sp).role
      let rampIn := e.rampIn || speakerRamp
      ∃ samples : List Sample,
        s.playoutFrame kind speakerRamp sp z e =
          { frame :=
              { address := (s.activeSpeaker sp).address, zone := z, role := role, audioKind := kind
                entryKind := e.kind, rampIn := rampIn, rampOut := e.rampOut, number := e.number
                stamp := s.stamp sp e.block
                rate := BitVec.ofInt 16 (s.entry (speakerEntry sp)).rho, samples := samples }
            speaker := sp, block := e.block }
        ∧ samples.length = 128
        ∧ ∀ i : Nat, i < 128 →
          let x : Int :=
            match e.cell.bind s.audioCell with
            | none => 0
            | some a =>
                let lane (k : Nat) : Int := (a.samples.getD (i * a.lanes + k) 0).toInt
                if a.lanes = 1 then lane 0
                else
                  match role with
                  | .left => lane 0
                  | .right => lane 1
                  | .mono => (lane 0 + lane 1) / 2
                  | .low => (lane 0 + lane 1) / 2
          let zoneGain : Int := e.gainStart + (((e.gainEnd : Int) - e.gainStart) * i).tdiv 128
          let trimmed : Int := (zoneGain * (s.trim sp).gain + 8192) / 16384
          let fadedIn : Int := if rampIn then trimmed * i / 128 else trimmed
          let g : Int := if e.rampOut then fadedIn * (127 - i) / 128 else fadedIn
          (samples.getD i 0).toInt = max (-8388608) (min 8388607 ((x * g + 8192) / 16384))

/-- POLL ACCESSED reads and clears the flags of the present speakers at or above the directive's rank, and
leaves the others (R89). -/
def Obligations.AccessedPolled : Prop :=
  ∀ (s : State) (d : Header), s.Listening →
    let read (sp : SpeakerNo) : Bool :=
      (s.activeSpeaker sp).present && decide (d.rank.toNat ≤ (s.activeSpeaker sp).rank)
    ∃ flags, exec (.pollAccessed d) s = .next
        { s.answered 0x44 d .ok
            [⟨3, ((allSpeakers.map fun sp =>
              if read sp && tblGet s.plan.accessed sp then 2 ^ sp.val else 0).sum : Nat)⟩] with
          plan := { s.plan with accessed := flags } }
      ∧ ∀ sp : SpeakerNo, tblGet flags sp = (!read sp && tblGet s.plan.accessed sp)

/-- RESYNC SPEAKER puts the entry of a present speaker to UNLOCKED with ρ 0, the raw pair, the anchor and
the counters kept (R73). SET TRACKING stores the parameters, clamped to Table 32, the lost limit above the
stale limit (R80). -/
def Obligations.TrackerDirectivesTaken : Prop :=
  ∀ (s : State) (d : Header), s.Listening →
    (∀ sp : SpeakerNo, (s.activeSpeaker sp).present = true → s.SpeakerAdmits d sp →
      exec (.resyncSpeaker d (operandOf sp)) s = .next
        { s.answered 0x45 d .ok [] with
          tracker :=
            { s.tracker with
              entries := tblSet s.tracker.entries (speakerEntry sp)
                { s.entry (speakerEntry sp) with
                  state := .unlocked, rho := 0, accepted := 0, outlierRun := 0, silence := 0 } } })
    ∧ ∀ o : TrackingOperands, d.rank = 0 →
      let stale := max 2 (min 63 o.staleLimit.toNat)
      let p : TrackingParams :=
        { g := min 7 o.g.toNat, h := min 7 o.h.toNat
          outlierLimit := max 16 (min 4096 o.outlierLimit.toNat)
          phaseLimit := max 256 (min 1048576 o.phaseLimit.toNat)
          acquireCount := max 2 (min 15 o.acquireCount.toNat), staleLimit := stale
          lostLimit := max (stale + 1) (min 255 o.lostLimit.toNat) }
      let read : TrackingParams :=
        { g := o.g.toNat, h := o.h.toNat, outlierLimit := o.outlierLimit.toNat
          phaseLimit := o.phaseLimit.toNat, acquireCount := o.acquireCount.toNat
          staleLimit := o.staleLimit.toNat, lostLimit := o.lostLimit.toNat }
      exec (.setTracking d o) s = .next
        { s.answered 0x50 d (if p = read then .ok else .clamped) [] with
          tracker := { s.tracker with params := p } }

/-! ### The directives of Zone Playout -/

/-- START ZONE of an IDLE zone whose stream is present: PRIMING from the current block at the start level, and the
cue program at its entry (R108, R156). A START mark does the same and reports it, or is refused with the reason
(R15, R17); where a swap of the boundary is still due, the swap is taken first (R17, R95). The work of a PRIMING
zone releases the entries due; it enters PLAYING only after the block at which it began, with its depth or an END
queued and its ring behind the new lead, and then takes lead and depth, makes an overlay's claims, reports, and goes
on as a PLAYING zone does (R52, R111, R141). The one byte each of lead and depth in ZONE PLAYING (log entry 7), the
place of the reason in a MARK report (log entry 8) and the byte of its late field (log entry 24) are the model's. -/
def Obligations.ZoneStarted : Prop :=
  ∀ (s : State) (z : ZoneNo),
    let m := s.timeline.block
    let plan := s.activeZone z
    let r := s.zone z
    let put (x : ZoneRun) : Playout := { s.playout with zones := tblSet s.playout.zones z x }
    let started (u : State) : State :=
      { u with
        playout := put
          { r with
            state := .priming, gain := plan.startLevel, target := plan.startLevel, gainStep := 0
            prevKind := none, primingBegan := m }
        cue :=
          { s.cue with
            runs := tblSet s.cue.runs z
              { s.cueRun z with
                pointer := plan.cueEntry.getD (s.cueRun z).pointer
                status := if plan.cueEntry.isSome then .running else .stopped
                wait := 0, prescaleCount := 0, loopCount := 0 } } }
    let bound : Prop := ∃ st : StreamNo, plan.stream = some st ∧ (s.stream st).present = true
    (∀ d : Header, s.Listening → s.ZoneAdmits d z → plan.present = true → bound → r.state = .idle →
      exec (.startZone d (operandOf z)) s = .next (started (s.answered 0x40 d .ok [])))
    ∧ (∀ k : MarkNo, s.rstLow = false → tblGet s.agenda.marks k = true → (s.mark k).armed = true →
      (s.mark k).action = .start → (s.mark k).zone = some z → s.agenda.swap = false →
      (∀ j : MarkNo, tblGet s.agenda.marks j = true → (s.mark j).action ≠ .swap) →
      let late := (s.mark k).late
      let u : State :=
        { s with
          timeline :=
            { s.timeline with
              marks := tblSet s.timeline.marks k { s.mark k with armed := false } }
          agenda := { s.agenda with marks := tblSet s.agenda.marks k false } }
      let payload : List Field :=
        [⟨1, 2⟩, ⟨1, z.val⟩, ⟨6, (s.mark k).block⟩, ⟨6, m⟩, flagByte late]
      let refused (reason : Int) : State :=
        offerEvent .markActionRefused k.val (payload ++ [⟨1, reason⟩]) u
      (¬ (plan.present = true ∧ bound) → exec (.markFiring k) s = .next (refused 3))
      ∧ (plan.present = true → bound → r.state ≠ .idle → exec (.markFiring k) s = .next (refused 4))
      ∧ (plan.present = true → bound → r.state = .idle →
          exec (.markFiring k) s = .next
            (offerEvent (if late then .markLate else .markFired) k.val payload (started u))))
    ∧ (∀ k : MarkNo, s.rstLow = false → (s.mark k).action = .start → s.agenda.swap = true →
      (∀ j : MarkNo, tblGet s.agenda.marks j = true → (s.mark j).action ≠ .swap) →
      exec (.markFiring k) s = exec (.markFiring k) (takeSwap s))
    ∧ (r.state = .priming →
      let left := r.ring.filter fun e => decide (m < e.block)
      let due := r.ring.filter fun e => decide (e.block ≤ m)
      let released (x : ZoneRun) : State :=
        { s with
          playout := put { x with ring := left }
          store := s.store.released (due.filterMap IssueEntry.cell) }
      let queue : List CellNo :=
        match plan.stream with
        | none => []
        | some st => (s.stream st).queue
      let primed : Prop :=
        (plan.primeDepth ≤ queue.length
            ∨ ∃ c ∈ queue, ∃ a, s.audioCell c = some a ∧ a.endFlag = true)
          ∧ ∀ e, left.getLast? = some e → e.block < m + plan.lead
      (m = r.primingBegan ∨ ¬ primed → zoneWork z s = released r)
      ∧ ∀ role : Role, m ≠ r.primingBegan → primed →
        (plan.kind = .overlay → plan.overlayRole = some role) →
        let playing : State :=
          released { r with
            state := .playing, runningLead := plan.lead, runningPrime := plan.primeDepth }
        let members := allSpeakers.filter fun sp => plan.members.getLsbD sp.val
        let claimed : State :=
          if plan.kind = .overlay then
            members.foldl (fun u sp => judgeClaim z plan.priority role sp u) playing
          else playing
        zoneWork z s = playingSteps z
          (offerEvent .zonePlaying z.val [⟨1, plan.lead⟩, ⟨1, plan.primeDepth⟩, ⟨6, m⟩] claimed))

/-- A soft STOP: a zone in play becomes DRAINING, its ring left to play out, and one whose ring is empty reaches
IDLE at the same event; an IDLE or DRAINING zone stays as it is (R109, R113). A STOP mark does the same and reports
it (R15, R17), a swap of the boundary that is still due being taken first (R17, R95); the byte of the late field is
the model's (log entry 24). The work of a DRAINING zone releases the entries due, and hands the Cue Engine its
notice, or reaches IDLE where none is left (R113). A zone that reaches IDLE reports ZONE ENDED, disarms a tap that
names it, and ends an overlay's claims (R114, R133, R145). -/
def Obligations.ZoneStoppedSoftly : Prop :=
  ∀ (s : State) (z : ZoneNo),
    let m := s.timeline.block
    let r := s.zone z
    let inState (x : ZoneState) (u : State) : State :=
      { u with
        playout :=
          { u.playout with zones := tblSet u.playout.zones z { u.zone z with state := x } } }
    let ended (u : State) : State :=
      let said := offerEvent .zoneEnded z.val [⟨2, r.issueNumber.toNat⟩, ⟨6, m⟩] (inState .idle u)
      let untapped :=
        if s.playout.tap.state = .armed z ∨ s.playout.tap.state = .active z then
          offerEvent .tapEnd z.val []
            { said with
              playout := { said.playout with tap := { said.playout.tap with state := .disarmed } } }
        else said
      if (s.activeZone z).kind = .overlay then
        (allSpeakers.filter fun sp => (s.activeSpeaker sp).present).foldl
          (fun v sp => endClaim z sp v) untapped
      else untapped
    let stopped (u : State) : State :=
      if r.state = .idle ∨ r.state = .draining then u
      else if r.ring = [] then ended (inState .draining u)
      else inState .draining u
    (∀ d : Header, s.Listening → s.ZoneAdmits d z →
      exec (.stopZoneSoft d (operandOf z) 0) s = .next (stopped (s.answered 0x41 d .ok [])))
    ∧ (∀ k : MarkNo, s.rstLow = false → tblGet s.agenda.marks k = true → (s.mark k).armed = true →
      (s.mark k).action = .stop → (s.mark k).zone = some z → s.agenda.swap = false →
      (∀ j : MarkNo, tblGet s.agenda.marks j = true → (s.mark j).action ≠ .swap) →
      let late := (s.mark k).late
      exec (.markFiring k) s = .next
        (offerEvent (if late then .markLate else .markFired) k.val
          [⟨1, 3⟩, ⟨1, z.val⟩, ⟨6, (s.mark k).block⟩, ⟨6, m⟩, flagByte late]
          (stopped
            { s with
              timeline :=
                { s.timeline with
                  marks := tblSet s.timeline.marks k { s.mark k with armed := false } }
              agenda := { s.agenda with marks := tblSet s.agenda.marks k false } })))
    ∧ (∀ k : MarkNo, s.rstLow = false → (s.mark k).action = .stop → s.agenda.swap = true →
      (∀ j : MarkNo, tblGet s.agenda.marks j = true → (s.mark j).action ≠ .swap) →
      exec (.markFiring k) s = exec (.markFiring k) (takeSwap s))
    ∧ (r.state = .draining →
      let left := r.ring.filter fun e => decide (m < e.block)
      let due := r.ring.filter fun e => decide (e.block ≤ m)
      let released : State :=
        { s with
          playout :=
            { s.playout with zones := tblSet s.playout.zones z { r with ring := left } }
          store := s.store.released (due.filterMap IssueEntry.cell) }
      zoneWork z s = if left = [] then ended released else boundaryNotice z released)

/-- A hard STOP: a zone that is not IDLE drains, its entries from the refill margin on are removed and their
cells released, each present listener is CUT in ascending order by its own clock's mapping of the refill margin,
and a zone whose ring that empties, or was empty, reaches IDLE at the same event (R76, R110, R113, R114, R130). That
it reaches IDLE only after the trim and the CUTs, also with a ring empty from the start, is the model's reading (log
entry 11). -/
def Obligations.ZoneStoppedHard : Prop :=
  ∀ (s : State) (d : Header) (z : ZoneNo), s.Listening → s.ZoneAdmits d z →
    ((s.zone z).state = .idle →
      exec (.stopZoneHard d (operandOf z)) s = .next (s.answered 0x41 d .ok []))
    ∧ ((s.zone z).state ≠ .idle →
      let limit := s.timeline.block + s.store.refillMargin
      let kept := (s.zone z).ring.filter fun e => decide (e.block < limit)
      let gone := (s.zone z).ring.filter fun e => decide (limit ≤ e.block)
      let listeners := allSpeakers.filter fun sp =>
        (s.activeSpeaker sp).present && decide ((s.speaker sp).zone = some z)
      let ended (u : State) : State :=
        let said :=
          offerEvent .zoneEnded z.val [⟨2, (s.zone z).issueNumber.toNat⟩, ⟨6, s.timeline.block⟩]
            { u with
              playout :=
                { u.playout with
                  zones := tblSet u.playout.zones z { u.zone z with state := .idle } } }
        let untapped :=
          if s.playout.tap.state = .armed z ∨ s.playout.tap.state = .active z then
            offerEvent .tapEnd z.val []
              { said with
                playout :=
                  { said.playout with tap := { said.playout.tap with state := .disarmed } } }
          else said
        if (s.activeZone z).kind = .overlay then
          (allSpeakers.filter fun sp => (s.activeSpeaker sp).present).foldl
            (fun v sp => endClaim z sp v) untapped
        else untapped
      ∃ t, exec (.stopZoneHard d (operandOf z)) s = .next (if kept = [] then ended t else t)
        ∧ (t.zone z) = { s.zone z with state := .draining, ring := kept }
        ∧ (∀ y : ZoneNo, y ≠ z → t.zone y = s.zone y)
        ∧ t.store = s.store.released (gone.filterMap IssueEntry.cell)
        ∧ (∀ sp : SpeakerNo, t.speaker sp =
            if (s.activeSpeaker sp).present = true ∧ (s.speaker sp).zone = some z then
              { s.speaker sp with
                horizon := limit - 1, rampPending := true, cuts := counted (s.speaker sp).cuts 1 }
            else s.speaker sp)
        ∧ t.air =
            (listeners.foldl
              (fun u sp => handCut sp (s.activeSpeaker sp).address (s.stamp sp limit) limit u) s).air
        ∧ t.source = (s.answered 0x41 d .ok []).source ∧ t.playout.tap = s.playout.tap
        ∧ t.plan = s.plan ∧ t.intake = s.intake ∧ t.overlay = s.overlay ∧ t.cue = s.cue
        ∧ t.tracker = s.tracker ∧ t.timeline = s.timeline ∧ t.agenda = s.agenda)

/-- SET LEVEL stores target and step, clamped, and leaves the current gain (R121). ARM TAP of a present
zone on a DISARMED tap arms it; DISARM TAP goes by the tap's state, the TAP END report after the reply
(R133). At an issue of the zone that the tap names, the tap is ACTIVE and a tap block is made of the entry, with
the zone gain and no trim or ramp; it takes the place of the oldest in a full buffer, and is lost while the
Source Link is DOWN, both counted as overruns (R132, R134, R199). -/
def Obligations.LevelAndTapTaken : Prop :=
  (∀ (s : State) (d : Header) (z : ZoneNo), s.Listening → s.ZoneAdmits d z →
    let tap (x : TapState) (kind : Byte) : State :=
      { s.answered kind d .ok [] with
        playout := { s.playout with tap := { s.playout.tap with state := x } } }
    (∀ target gainStep : BitVec 16, (s.activeZone z).present = true →
      let t := min 32767 target.toNat
      let g := min 4095 gainStep.toNat
      exec (.setLevel d (operandOf z) target gainStep) s = .next
        { s.answered 0x42 d (if t = target.toNat ∧ g = gainStep.toNat then .ok else .clamped) [] with
          playout :=
            { s.playout with
              zones := tblSet s.playout.zones z { s.zone z with target := t, gainStep := g } } })
    ∧ ((s.activeZone z).present = true → s.playout.tap.state = .disarmed →
      exec (.armTap d (operandOf z)) s = .next (tap (.armed z) 0x70))
    ∧ (s.playout.tap.state = .disarmed →
      exec (.disarmTap d (operandOf z)) s = .next (s.answered 0x71 d .ok []))
    ∧ (s.playout.tap.state = .armed z ∨ s.playout.tap.state = .active z →
      exec (.disarmTap d (operandOf z)) s =
        .next (offerEvent .tapEnd z.val [] (tap .disarmed 0x71))))
  ∧ ∀ (s : State) (z : ZoneNo) (e : IssueEntry),
    let tap := s.playout.tap
    (tap.state ≠ .armed z → tap.state ≠ .active z → tapIssue z e s = s)
    ∧ (tap.state = .armed z ∨ tap.state = .active z →
      ∃ samples : List Sample,
        samples.length = 128
        ∧ (∀ i : Nat, i < 128 →
          let x : Int :=
            match e.cell.bind s.audioCell with
            | none => 0
            | some a =>
                let lane (k : Nat) : Int := (a.samples.getD (i * a.lanes + k) 0).toInt
                if a.lanes = 1 then lane 0 else (lane 0 + lane 1) / 2
          let g : Int := e.gainStart + (((e.gainEnd : Int) - e.gainStart) * i).tdiv 128
          (samples.getD i 0).toInt = max (-8388608) (min 8388607 ((x * g + 8192) / 16384)))
        ∧
          let made : TapBlock := { zone := z, number := e.number, block := e.block, samples := samples }
          let put (buffer : List TapBlock) (overruns : Nat) : State :=
            { s with
              playout :=
                { s.playout with
                  tap := { state := .active z, buffer := buffer, overruns := overruns } } }
          (s.source.up = false →
            tapIssue z e s = put tap.buffer (counted tap.overruns 1))
          ∧ (s.source.up = true → s.source.sending.isSome = true →
            tapIssue z e s =
              if tap.buffer.length < 2 then put (tap.buffer ++ [made]) tap.overruns
              else put (tap.buffer.tail ++ [made]) (counted tap.overruns 1))
          ∧ (s.source.up = true → s.source.sending = none → s.source.reports = [] →
            tap.buffer = [] →
            tapIssue z e s =
              { put [] tap.overruns with source := { s.source with sending := some (.tap made) } }))

/-- An issue makes one entry: the next number, the running lead ahead, the gains across it (R112). With a cell
of its stream it is NORMAL, RAMP_IN after anything but a NORMAL entry or on a DISCONTINUITY, and a PACED stream
whose armed demand has come to the mark asks for data (R51, R54, R117). From an empty LIVE queue it is a REPEAT
of the block before, or SILENT, with a slip counted (R22, R26, R29, R118); from an empty PACED queue SILENT, with
an underrun counted and ZONE STARVED reported (R119). The work of a PLAYING zone goes through releases, cues,
gain, issue, tap block and first-sends to the END of its stream (R112, R120); a first-send is made, or counted as
an overlap (R127, R128), and a join backfills what a speaker has still time for (R129). A queue count has the byte
of Table 86, which 256 does not fit (log entry 21); the two bytes of the free space in STREAM DEMAND are the model's
(log entry 7). -/
def Obligations.CellIssuedAsNormalEntry : Prop :=
  (∀ (s : State) (z : ZoneNo) (st : StreamNo) (gainStart : Nat), (s.activeZone z).stream = some st →
    let d := s.stream st
    let r := s.zone z
    let number := r.issueNumber + 1
    let block := s.timeline.block + r.runningLead
    let entry (kind : EntryKind) (cell : Option CellNo) (rampIn rampOut : Bool) : IssueEntry :=
      { number := number, block := block, kind := kind, cell := cell, gainStart := gainStart
        gainEnd := r.gain, rampIn := rampIn, rampOut := rampOut }
    let ringed (e : IssueEntry) (repeats silents : Nat) (u : State) : State :=
      { u with
        playout :=
          { u.playout with
            zones := tblSet u.playout.zones z
              { r with
                ring := r.ring ++ [e], issueNumber := number, prevKind := some e.kind
                issued := counted r.issued 1, repeats := repeats, silents := silents } } }
    let put (x : Stream) : State :=
      { s with intake := { s.intake with streams := tblSet s.intake.streams st x } }
    let silent := entry .silent none false false
    let silents := counted r.silents 1
    (∀ (c : CellNo) (rest : List CellNo) (a : AudioCell), d.queue = c :: rest →
      s.audioCell c = some a →
      let e := entry .normal (some c) (a.discontinuity || !(r.prevKind == some .normal)) false
      issue z gainStart s = (e, ringed e r.repeats r.silents
        (if d.cls = .paced ∧ d.demandArmed = true ∧ rest.length ≤ d.demandMark then
          offerEvent .streamDemand st.val
            [⟨1, if rest.length < 256 then rest.length else (Config.wideCountByte rest.length).toNat⟩,
             ⟨2, (d.quota - rest.length : Nat)⟩]
            (put { d with queue := rest, demandArmed := false })
        else put { d with queue := rest })))
    ∧ (d.queue = [] → d.cls = .live →
      let slipped := put { d with counters := { d.counters with slips := counted d.counters.slips 1 } }
      (r.prevKind ≠ some .normal ∨ s.store.freeList.length ≤ s.store.claimReserve →
        issue z gainStart s = (silent, ringed silent r.repeats silents slipped))
      ∧ ∀ (newest : IssueEntry) (old c : CellNo) (rest : List CellNo) (a : AudioCell),
        r.prevKind = some .normal → r.ring.getLast? = some newest → newest.cell = some old →
        s.audioCell old = some a → s.store.freeList = c :: rest →
        s.store.claimReserve < rest.length + 1 →
        let e := entry .repeated (some c) false true
        let low := s.store.depletionArmed && decide (rest.length ≤ s.store.depletionMark)
        let copied : State :=
          { slipped with
            store :=
              { s.store with
                freeList := rest, depletionArmed := s.store.depletionArmed && !low
                cells := tblSet s.store.cells c
                  (.audio { a with endFlag := false, discontinuity := false }) } }
        issue z gainStart s = (e, ringed e (counted r.repeats 1) r.silents
          (if low then
            offerEvent .storeDepletion 0 [⟨4, rest.length⟩, ⟨4, s.store.depletionMark⟩] copied
          else copied)))
    ∧ (d.queue = [] → d.cls = .paced →
      issue z gainStart s = (silent,
        offerEvent .zoneStarved z.val [⟨1, st.val⟩, ⟨2, number.toNat⟩, ⟨6, block⟩]
          (ringed silent r.repeats silents
            (put { d with
              counters := { d.counters with underruns := counted d.counters.underruns 1 } })))))
  ∧ (∀ (s : State) (z : ZoneNo),
    let released : State :=
      { s with
        playout :=
          { s.playout with
            zones := tblSet s.playout.zones z
              { s.zone z with
                ring := (s.zone z).ring.filter fun e => decide (s.timeline.block < e.block) } }
        store := s.store.released
          (((s.zone z).ring.filter fun e => decide (e.block ≤ s.timeline.block)).filterMap
            IssueEntry.cell) }
    ((s.zone z).state = .playing → zoneWork z s = playingSteps z released)
    ∧
      let u := boundaryNotice z s
      let r := u.zone z
      ((r.state ≠ .playing → playingSteps z s = u)
      ∧ (r.state = .playing →
        let gain :=
          if r.gainStep = 0 then r.target
          else if r.gain < r.target then min (r.gain + r.gainStep) r.target
          else max (r.gain - r.gainStep) r.target
        let advanced : State :=
          { u with
            playout :=
              { u.playout with zones := tblSet u.playout.zones z { r with gain := gain } } }
        ∀ (e : IssueEntry) (v : State), issue z r.gain advanced = (e, v) →
          let tapped := tapIssue z e v
          let listeners := allSpeakers.filter fun sp =>
            (tapped.activeSpeaker sp).present && decide ((tapped.speaker sp).zone = some z)
          let sent := listeners.foldl (fun w sp => firstSend z e sp w) tapped
          playingSteps z s =
            if (e.cell.bind sent.audioCell).any AudioCell.endFlag then
              { sent with
                playout :=
                  { sent.playout with
                    zones := tblSet sent.playout.zones z { sent.zone z with state := .draining } } }
            else sent)))
  ∧ ∀ (s : State) (z : ZoneNo) (sp : SpeakerNo),
    let put (u : State) (x : SpeakerRun) : State :=
      { u with playout := { u.playout with speakers := tblSet u.playout.speakers sp x } }
    let marked (x : SpeakerRun) (e : IssueEntry) : SpeakerRun :=
      { x with
        horizon := e.block, rampPending := false
        rampMarker := if x.rampPending then some (z, e.number) else x.rampMarker }
    let r := s.speaker sp
    (∀ e : IssueEntry,
      (¬ s.hears sp → firstSend z e sp s = s)
      ∧ (s.hears sp → r.horizon < e.block → firstSend z e sp s =
          handAudio (s.playoutFrame .firstSend r.rampPending sp z e)
            (put s { marked r e with firstSends := counted r.firstSends 1 }))
      ∧ (s.hears sp → e.block ≤ r.horizon →
          firstSend z e sp s = put s { r with overlaps := counted r.overlaps 1 }))
    ∧ ((∀ y : ZoneNo, r.zone = some y → (s.zone y).state ≠ .playing ∨ ¬ s.hears sp) →
      join sp s = put s { r with rampPending := true })
    ∧ (r.zone = some z → (s.zone z).state = .playing → s.hears sp →
      join sp s =
        ((s.zone z).ring.filter fun e =>
          decide (r.horizon < e.block)
            && decide (s.timeline.block + s.store.refillMargin < e.block)).foldl
          (fun u e =>
            let x := u.speaker sp
            handAudio (u.playoutFrame .backfill x.rampPending sp z e)
              (put u { marked x e with backfills := counted x.backfills 1 }))
          (put s { r with rampPending := true }))

/-! ### The Overlay unit -/

/-- A member judged for a claim: outranked at or below its stack priority, with a counter and a report and
nothing else; failed where no cell is free; else the record is its new top, the speaker is CUT, and it joins the
overlay where it was not there already (R141 to R144, R126, R130). At the overlay's end, the record of each
speaker is released; a speaker whose top it was returns to what its stack or its plan then says, and joins it
where it was not there; a deeper record only leaves the stack (R145 to R147). The one byte of a priority is the
model's (log entry 7). -/
def Obligations.ClaimJudged : Prop :=
  (∀ (s : State) (z : ZoneNo) (q : Nat) (role : Role) (sp : SpeakerNo),
    let k := tblGet s.overlay.counters z
    let put (k' : ClaimCounters) : State :=
      { s with overlay := { s.overlay with counters := tblSet s.overlay.counters z k' } }
    (q ≤ s.stackPriority sp →
      judgeClaim z q role sp s = offerEvent .claimOutranked sp.val
        [⟨1, z.val⟩, ⟨1, q⟩, fIndex ((s.topClaim sp).map ClaimCell.zone), ⟨1, s.stackPriority sp⟩,
         ⟨6, s.timeline.block⟩]
        (put { k with outranked := counted k.outranked 1 }))
    ∧ (s.stackPriority sp < q → s.store.freeList = [] →
      judgeClaim z q role sp s = offerEvent .claimFailed sp.val
        [⟨1, z.val⟩, ⟨1, q⟩, ⟨4, 0⟩, ⟨6, s.timeline.block⟩]
        (put { k with failed := counted k.failed 1 }))
    ∧ ∀ (c : CellNo) (rest : List CellNo), s.stackPriority sp < q → s.store.freeList = c :: rest →
      let t := judgeClaim z q role sp s
      (t.claimStack sp = c :: s.claimStack sp
        ∧ t.claimCell c =
            some { zone := z, priority := q, role := role, claimedAt := s.timeline.block }
        ∧ (∀ o : SpeakerNo, o ≠ sp → t.claimStack o = s.claimStack o)
        ∧ t.store.freeList = rest
        ∧ tblGet t.overlay.counters z = { k with made := counted k.made 1 }
        ∧ ((s.activeSpeaker sp).present = true →
            (t.speaker sp).zone = some z ∧ (t.speaker sp).role = role))
      ∧
        let limit := s.timeline.block + s.store.refillMargin
        let low := s.store.depletionArmed && decide (rest.length ≤ s.store.depletionMark)
        let pushed : State :=
          { s with
            store :=
              { s.store with
                freeList := rest, depletionArmed := s.store.depletionArmed && !low
                cells := tblSet s.store.cells c
                  (.claim { zone := z, priority := q, role := role, claimedAt := s.timeline.block }) }
            overlay :=
              { s.overlay with
                claimStacks := tblSet s.overlay.claimStacks sp (c :: s.claimStack sp)
                counters := tblSet s.overlay.counters z { k with made := counted k.made 1 } } }
        let told : State :=
          if low then
            offerEvent .storeDepletion 0 [⟨4, rest.length⟩, ⟨4, s.store.depletionMark⟩] pushed
          else pushed
        let here := (s.activeSpeaker sp).present
        let claimed : State :=
          { told with
            air := (handCut sp (s.activeSpeaker sp).address (s.stamp sp limit) limit s).air
            playout :=
              { told.playout with
                speakers := tblSet told.playout.speakers sp
                  { s.speaker sp with
                    zone := if here then some z else none, role := role, horizon := limit - 1
                    rampPending := true, cuts := counted (s.speaker sp).cuts 1 } } }
        t = if here = true ∧ (s.speaker sp).zone ≠ some z then join sp claimed else claimed)
  ∧ ∀ (s : State) (z : ZoneNo) (sp : SpeakerNo),
    let names (c : CellNo) : Prop := ∃ r, s.claimCell c = some r ∧ r.zone = z
    ((∀ c ∈ s.claimStack sp, ¬ names c) → endClaim z sp s = s)
    ∧ ∀ (above : List CellNo) (c : CellNo) (below : List CellNo),
      s.claimStack sp = above ++ c :: below → (∀ x ∈ above, ¬ names x) → names c →
      let released : State :=
        { s with
          store := s.store.released [c]
          overlay :=
            { s.overlay with claimStacks := tblSet s.overlay.claimStacks sp (above ++ below) } }
      (above ≠ [] → endClaim z sp s = released)
      ∧ (above = [] →
        let plan := s.activeSpeaker sp
        let top := below.head?.bind s.claimCell
        let zone : Option ZoneNo :=
          if plan.present then
            match top with
            | some r => some r.zone
            | none => plan.plannedZone
          else none
        let role : Role :=
          match top with
          | some r => r.role
          | none => plan.role
        let returned : State :=
          { released with
            playout :=
              { s.playout with
                speakers :=
                  tblSet s.playout.speakers sp { s.speaker sp with zone := zone, role := role } } }
        endClaim z sp s =
          if zone ≠ (s.speaker sp).zone ∧ zone ≠ none then join sp returned else returned)

/-! ### The Cue Engine -/

/-- WRITE CUES: a count of words other than 1 to 32 is refused with FORM (a body beyond 134 bytes is counted
malformed besides, R203), then a rank above 0 with RANK, then a start index above 511 with INDEX (R190, R191);
otherwise the words are written from the start index on, wrapping from 511 to 0, and every other word is left
(R165). That words beyond a frame's length are read as such a frame is the model's choice (log entry 10). -/
def Obligations.CuesWritten : Prop :=
  ∀ (s : State) (d : Header) (start : BitVec 16) (words : List CueWord), s.Listening →
    (words = [] → exec (.writeCues d start words) s = .next (s.answered 0x60 d .form []))
    ∧ (32 < words.length → exec (.writeCues d start words) s = .next
        { s.answered 0x60 d .form [] with
          intake := { s.intake with malformedFrames := counted s.intake.malformedFrames 1 } })
    ∧ (1 ≤ words.length → words.length ≤ 32 →
      (d.rank ≠ 0 → exec (.writeCues d start words) s = .next (s.answered 0x60 d .rank []))
      ∧ (d.rank = 0 → 512 ≤ start.toNat →
          exec (.writeCues d start words) s = .next (s.answered 0x60 d .index []))
      ∧ (d.rank = 0 → start.toNat < 512 →
          ∃ memory, exec (.writeCues d start words) s = .next
              { s.answered 0x60 d .ok [] with cue := { s.cue with memory := memory } }
            ∧ ∀ i : CueIndex, tblGet memory i.toFin =
                let offset := (i - BitVec.ofNat 9 start.toNat).toNat
                words.getD offset (tblGet s.cue.memory i.toFin)))

/-- CUE GO, CUE HALT, CUE RESUME and SET PRESCALE of a present zone (R166 to R168): what each writes in the
zone's cue state, and by Table 60 where HALT and RESUME are refused with BUSY. -/
def Obligations.CueDirectivesTaken : Prop :=
  ∀ (s : State) (d : Header) (z : ZoneNo) (index prescale : BitVec 16), s.Listening →
    (s.activeZone z).present = true → s.ZoneAdmits d z →
    let u (kind : Byte) (status : Status) (c : CueRun) : State :=
      { s.answered kind d status [] with cue := { s.cue with runs := tblSet s.cue.runs z c } }
    let c := s.cueRun z
    (index.toNat < 512 → exec (.cueGo d (operandOf z) index) s = .next
      (u 0x61 .ok { c with pointer := BitVec.ofNat 9 index.toNat, status := .running }))
    ∧ (c.status = .running ∨ c.status = .halted →
      exec (.cueHalt d (operandOf z)) s = .next (u 0x62 .ok { c with status := .halted })
        ∧ exec (.cueResume d (operandOf z)) s = .next (u 0x63 .ok { c with status := .running }))
    ∧ (c.status = .stopped ∨ c.status = .faulted →
      exec (.cueHalt d (operandOf z)) s = .next (s.answered 0x62 d .busy [])
        ∧ exec (.cueResume d (operandOf z)) s = .next (s.answered 0x63 d .busy []))
    ∧ exec (.setPrescale d (operandOf z) prescale) s = .next
        (u 0x64 (if prescale.toNat ≤ 255 then .ok else .clamped)
          { c with prescale := min 255 prescale.toNat })

/-! ### The links and RESTART -/

/-- The Source Link goes DOWN: what is being sent and every tap block is lost and counted, the Report Queue
is kept (R199). It comes UP: the READY report joins the tail, and the oldest report begins to be sent
(R200). -/
def Obligations.SourceLinkChanges : Prop :=
  ∀ s : State, s.rstLow = false →
    let tapLost : Nat := match s.source.sending with
      | some (.tap _) => 1
      | _ => 0
    let lost (event : Bool) : Nat := match s.source.sending with
      | some (.report r) => if r.isAnyEvent = event then 1 else 0
      | _ => 0
    (s.source.up = true →
      ∃ t, exec .sourceLinkDown s = .next t
        ∧ t = { s with
                source :=
                  { s.source with
                    up := false, sending := none
                    eventDrops := t.source.eventDrops, replyDrops := t.source.replyDrops
                    lossPending := t.source.lossPending }
                playout :=
                  { s.playout with
                    tap := { s.playout.tap with buffer := [], overruns := t.playout.tap.overruns } } }
        ∧ t.source.lossPending = (s.source.lossPending || decide (0 < lost true + lost false))
        ∧ (s.source.eventDrops ≤ 4294967295 →
            t.source.eventDrops = counted s.source.eventDrops (lost true))
        ∧ (s.source.replyDrops ≤ 4294967295 →
            t.source.replyDrops = counted s.source.replyDrops (lost false))
        ∧ t.playout.tap.overruns =
            counted s.playout.tap.overruns (tapLost + s.playout.tap.buffer.length))
    ∧ (s.source.up = false → s.source.sending = none → s.source.reports.length < 32 →
      let ready : Report :=
        { sort := .ready, count := 1, block := s.timeline.block, payload := [⟨6, s.timeline.block⟩]
          loss := s.source.lossPending }
      exec .sourceLinkUp s = .next
        { s with
          source :=
            { s.source with
              up := true, lossPending := false
              sending := (s.source.reports ++ [ready]).head?.map .report
              reports := (s.source.reports ++ [ready]).tail } })

/-- The Air Link goes DOWN, the frame being sent and every waiting frame discarded and counted; it comes UP
FREE and empty (R183, R184). -/
def Obligations.AirLinkChanges : Prop :=
  ∀ s : State, s.rstLow = false →
    (s.air.up = true → exec .airLinkDown s = .next
      { s with
        air :=
          { s.air with
            up := false, sending := none, control := [], audio := []
            downDiscards := counted s.air.downDiscards
              (s.air.control.length + s.air.audio.length + s.air.sending.toList.length) } })
    ∧ (s.air.up = false → exec .airLinkUp s = .next
      { s with
        air := { s.air with up := true, sending := none, control := [], audio := [] } })

/-- The completion of a send on an UP Air Link: the counter of its class, then the oldest control frame, or
else the first audio frame that is not late; each late frame found before it is discarded and counted under its
speaker (R174, R175). -/
def Obligations.AirSendCompletes : Prop :=
  ∀ (s : State) (x : AirSend), s.rstLow = false → s.air.up = true → s.air.sending = some x →
    let late (i : AudioItem) : Bool := decide (i.block < s.timeline.block + s.store.refillMargin)
    let fresh := s.air.audio.dropWhile late
    let lost (sp : SpeakerNo) : Nat := (s.air.audio.takeWhile late).countP fun i => i.speaker == sp
    ∃ t, exec .airSendComplete s = .next t
      ∧ t = { s with
              air :=
                { s.air with
                  controlSent := t.air.controlSent, audioSent := t.air.audioSent
                  sending := t.air.sending, control := t.air.control, audio := t.air.audio
                  counters := t.air.counters } }
      ∧ (∀ f, x = .control f → t.air.controlSent = counted s.air.controlSent 1
          ∧ t.air.audioSent = s.air.audioSent)
      ∧ (∀ i, x = .audio i → t.air.audioSent = counted s.air.audioSent 1
          ∧ t.air.controlSent = s.air.controlSent)
      ∧ (∀ f rest, s.air.control = f :: rest →
          t.air.sending = some (.control f) ∧ t.air.control = rest ∧ t.air.audio = s.air.audio
            ∧ t.air.counters = s.air.counters)
      ∧ (s.air.control = [] →
          t.air.sending = fresh.head?.map .audio ∧ t.air.control = [] ∧ t.air.audio = fresh.tail
            ∧ ∀ sp : SpeakerNo, tblGet t.air.counters sp =
                let k := tblGet s.air.counters sp
                if lost sp = 0 then k else { k with lateDiscards := counted k.lateDiscards (lost sp) })

/-- The completion of a send on an UP Source Link: the counter of what was sent, then the oldest report, or
else the oldest tap block (R197). -/
def Obligations.SourceSendCompletes : Prop :=
  ∀ (s : State) (x : SourceSend), s.rstLow = false → s.source.up = true →
    s.source.sending = some x →
    let l : SourceLink := match x with
      | .report _ => { s.source with reportsSent := counted s.source.reportsSent 1 }
      | .tap _ => { s.source with tapSent := counted s.source.tapSent 1 }
    exec .sourceSendComplete s = .next
      (match s.source.reports, s.playout.tap.buffer with
       | r :: rest, _ => { s with source := { l with reports := rest, sending := some (.report r) } }
       | [], b :: rest =>
           { s with
             source := { l with sending := some (.tap b) }
             playout := { s.playout with tap := { s.playout.tap with buffer := rest } } }
       | [], [] => { s with source := { l with sending := none } })

/-- An event report offered to the Report Queue merges with its queued equal, enters a queue with room, or
is lost; a REPLY or READY displaces the newest event report of a full queue, or is lost (R195, R196). -/
def Obligations.ReportsOffered : Prop :=
  ∀ (l : SourceLink) (code : EventCode) (subject : Nat) (sort : ReportSort) (payload : List Field)
    (block : Nat),
    (∀ pre r post, l.reports = pre ++ r :: post → r.sort = .event code subject →
      (∀ x ∈ pre ++ post, x.sort ≠ .event code subject) →
      l.offerEvent code subject payload block =
        { l with
          reports := pre ++ { r with
            count := min 255 (r.count + 1), payload := payload, block := block } :: post })
    ∧ ((∀ x ∈ l.reports, x.sort ≠ .event code subject) →
      (l.reports.length < 32 →
        l.offerEvent code subject payload block =
          { l with
            lossPending := false
            reports := l.reports ++
              [{ sort := .event code subject, count := 1, block := block, payload := payload
                 loss := l.lossPending }] })
      ∧ (l.reports.length = 32 →
        l.offerEvent code subject payload block =
          { l with eventDrops := counted l.eventDrops 1, lossPending := true }))
    ∧ (∀ pre r post, l.reports = pre ++ r :: post → l.reports.length = 32 →
      r.isAnyEvent = true → (∀ x ∈ post, x.isAnyEvent = false) →
      l.offerFirm sort payload block =
        { l with
          eventDrops := counted l.eventDrops 1, lossPending := false
          reports := pre ++ post ++
            [{ sort := sort, count := 1, block := block, payload := payload, loss := true }] })
    ∧ (l.reports.length = 32 → (∀ x ∈ l.reports, x.isAnyEvent = false) →
      l.offerFirm sort payload block =
        { l with replyDrops := counted l.replyDrops 1, lossPending := true })

/-- A CUT purges the waiting frames of its address from its block on, counts them under the CUT's speaker, as the
model reads R179 (log entry 20), and is then placed; frames below the block, frames of other addresses and the
frame being sent are left (R179). A BEACON, and a CUT after its purge, joins a queue of fewer than 96 frames; in a
full one it takes the place of the newest audio frame, or is dropped where there is none (R173, R176). A
first-send takes the place of the newest BACKFILL or REFILL of a full queue, or is dropped; a BACKFILL or REFILL
is dropped (R177, R178). On a FREE link with nothing waiting, a frame handed over is selected at once, an audio
frame that is late discarded (R174, R175); on a DOWN link it is discarded (R183). Each is counted. -/
def Obligations.CutPurgesQueue : Prop :=
  (∀ (s : State) (sp : SpeakerNo) (address : AirAddress) (stamp : LocalCount) (block : Nat) (x : AirSend),
    s.air.up = true → s.air.sending = some x →
    let kept := s.air.audio.filter fun i => !(i.frame.address == address && decide (block ≤ i.block))
    s.air.control.length + kept.length < 96 →
    ∃ counters, handCut sp address stamp block s =
        { s with
          air :=
            { s.air with
              audio := kept, control := s.air.control ++ [.cut address stamp]
              counters := counters } }
      ∧ (∀ o : SpeakerNo, o ≠ sp → tblGet counters o = tblGet s.air.counters o)
      ∧ tblGet counters sp =
          { tblGet s.air.counters sp with
            cutPurges := counted (tblGet s.air.counters sp).cutPurges
              (s.air.audio.length - kept.length) })
  ∧ ∀ s : State,
    let dropFor (o : SpeakerNo) (k : Vector AirCounters 24) : Vector AirCounters 24 :=
      tblSet k o { tblGet k o with drops := counted (tblGet k o).drops 1 }
    let waiting := s.air.control.length + s.air.audio.length
    let discarded : State :=
      { s with air := { s.air with downDiscards := counted s.air.downDiscards 1 } }
    (∀ (n : SerialNo) (block interval : Nat),
      let f : ControlFrame := .beacon n block interval
      (s.air.up = false → handBeacon n block interval s = discarded)
      ∧ (s.air.up = true → s.air.sending = none → s.air.control = [] → s.air.audio = [] →
        handBeacon n block interval s =
          { s with air := { s.air with sending := some (.control f) } })
      ∧ (s.air.up = true → s.air.sending.isSome = true →
        (waiting < 96 → handBeacon n block interval s =
          { s with air := { s.air with control := s.air.control ++ [f] } })
        ∧ (96 ≤ waiting → s.air.audio = [] → handBeacon n block interval s =
          { s with air := { s.air with controlDrops := counted s.air.controlDrops 1 } })
        ∧ ∀ (older : List AudioItem) (newest : AudioItem), 96 ≤ waiting →
          s.air.audio = older ++ [newest] → handBeacon n block interval s =
            { s with
              air :=
                { s.air with
                  control := s.air.control ++ [f], audio := older
                  counters := dropFor newest.speaker s.air.counters } }))
    ∧ (∀ (sp : SpeakerNo) (address : AirAddress) (stamp : LocalCount) (block : Nat),
      let f : ControlFrame := .cut address stamp
      let kept := s.air.audio.filter fun i => !(i.frame.address == address && decide (block ≤ i.block))
      let purged := tblSet s.air.counters sp
        { tblGet s.air.counters sp with
          cutPurges := counted (tblGet s.air.counters sp).cutPurges
            (s.air.audio.length - kept.length) }
      (s.air.up = false → handCut sp address stamp block s = discarded)
      ∧ (s.air.up = true → s.air.sending = none → s.air.control = [] → s.air.audio = [] →
        (tblGet s.air.counters sp).cutPurges ≤ 4294967295 →
        handCut sp address stamp block s =
          { s with air := { s.air with sending := some (.control f) } })
      ∧ (s.air.up = true → s.air.sending.isSome = true → 96 ≤ s.air.control.length + kept.length →
        (kept = [] → handCut sp address stamp block s =
          { s with
            air :=
              { s.air with
                audio := [], counters := purged
                controlDrops := counted s.air.controlDrops 1 } })
        ∧ ∀ (older : List AudioItem) (newest : AudioItem), kept = older ++ [newest] →
          handCut sp address stamp block s =
            { s with
              air :=
                { s.air with
                  control := s.air.control ++ [f], audio := older
                  counters := dropFor newest.speaker purged } }))
    ∧ ∀ i : AudioItem,
      let extra (x : AudioItem) : Prop := x.frame.audioKind ≠ .firstSend
      let lost : State :=
        { s with air := { s.air with counters := dropFor i.speaker s.air.counters } }
      (s.air.up = false → handAudio i s = discarded)
      ∧ (s.air.up = true → s.air.sending = none → s.air.control = [] → s.air.audio = [] →
        handAudio i s =
          if s.timeline.block + s.store.refillMargin ≤ i.block then
            { s with air := { s.air with sending := some (.audio i) } }
          else
            { s with
              air :=
                { s.air with
                  counters := tblSet s.air.counters i.speaker
                    { tblGet s.air.counters i.speaker with
                      lateDiscards :=
                        counted (tblGet s.air.counters i.speaker).lateDiscards 1 } } })
      ∧ (s.air.up = true → s.air.sending.isSome = true →
        (waiting < 96 →
          handAudio i s = { s with air := { s.air with audio := s.air.audio ++ [i] } })
        ∧ (96 ≤ waiting → (extra i ∨ ∀ x ∈ s.air.audio, ¬ extra x) → handAudio i s = lost)
        ∧ ∀ (older : List AudioItem) (shed : AudioItem) (newer : List AudioItem), 96 ≤ waiting →
          ¬ extra i → s.air.audio = older ++ shed :: newer → extra shed → (∀ x ∈ newer, ¬ extra x) →
          handAudio i s =
            { s with
              air :=
                { s.air with
                  audio := older ++ newer ++ [i]
                  counters := dropFor shed.speaker s.air.counters } })

/-- RESTART brings the playing state to rest and keeps the settings, the link states and the counters (R19,
R36, R57, R83, R107, R138, R153, R172, R188, R201): every cell free in ascending order; every zone IDLE with an
empty ring, its gains kept; every queue and Claim Stack empty; every entry UNLOCKED with ρ 0; every mark disarmed
and every cue program stopped; no swap pending. T, the timebase, the Beacon Log, the banks, the trims, the
parameters and Cue Memory are kept. The Report Queue is emptied, and then holds the reply, with the LOSS flag
where a report was removed, and the DEMAND reports of the PACED streams. Each present speaker is CUT in ascending
order, by a clock that the reset left at an estimate of nothing. That the cells keep their contents is the
model's choice (log entry 22), as are the two bytes of the free space in STREAM DEMAND (log entry 7). -/
def Obligations.RestartBringsRest : Prop :=
  ∀ (s : State) (d : Header), s.Listening → d.rank = 0 →
    ∃ t, exec (.restart d) s = .next t
      ∧ t.store = { s.store with freeList := ascendingCells, depletionArmed := true }
      ∧ (∀ z : ZoneNo, (t.zone z) =
          { s.zone z with state := .idle, ring := [], prevKind := none })
      ∧ t.intake = { s.intake with streams := t.intake.streams }
      ∧ (∀ st : StreamNo, (t.stream st) =
          { s.stream st with queue := [], expected := none, demandArmed := false })
      ∧ t.overlay = { s.overlay with claimStacks := t.overlay.claimStacks }
      ∧ (∀ sp : SpeakerNo, t.claimStack sp = [])
      ∧ t.tracker = { s.tracker with entries := t.tracker.entries }
      ∧ (∀ e : EntryNo, t.entry e =
          { s.entry e with
            state := .unlocked, rho := 0, rawT := 0, rawL := 0, anchorT := 0, anchorL := 0
            accepted := 0, outlierRun := 0, silence := 0 })
      ∧ t.timeline = { s.timeline with marks := t.timeline.marks }
      ∧ (∀ k : MarkNo, t.mark k = { s.mark k with armed := false })
      ∧ t.cue = { s.cue with runs := t.cue.runs }
      ∧ (∀ z : ZoneNo, t.cueRun z =
          { s.cueRun z with status := .stopped, wait := 0, prescaleCount := 0, loopCount := 0 })
      ∧ t.plan = { s.plan with swapPending := false, accessed := t.plan.accessed }
      ∧ (∀ sp : SpeakerNo, t.accessedFlag sp = false)
      ∧ t.playout.tap = { s.playout.tap with state := .disarmed, buffer := [] }
      ∧ (∀ sp : SpeakerNo, t.speaker sp =
          let was := s.speaker sp
          let plan := s.activeSpeaker sp
          if plan.present then
            { was with
              zone := plan.plannedZone, role := plan.role, horizon := s.timeline.block
              rampPending := true, cuts := counted was.cuts 1 }
          else { was with zone := none, role := plan.role })
      ∧ (let reply : Report :=
           { sort := .reply 0x03 .ok d.tag, count := 1, block := s.timeline.block, payload := []
             loss := !s.source.reports.isEmpty }
         let demands : List Report :=
           (allStreams.filter fun st => (s.stream st).present && (s.stream st).cls == .paced).map
             fun st =>
               { sort := .event .streamDemand st.val, count := 1, block := s.timeline.block
                 payload := [⟨1, 0⟩, ⟨2, (s.stream st).quota⟩], loss := false }
         t.source =
           { s.source with
             lossPending := false
             sending := if s.source.sending.isSome then s.source.sending else some (.report reply)
             reports := if s.source.sending.isSome then reply :: demands else demands })
      ∧ let cuts : List ControlFrame :=
          (allSpeakers.filter fun sp => (s.activeSpeaker sp).present).map fun sp =>
            .cut (s.activeSpeaker sp).address
              (BitVec.ofInt 32
                (32768 * (s.timeline.block + s.store.refillMargin : Nat) + (s.trim sp).delay))
        (∀ sp : SpeakerNo, (tblGet s.air.counters sp).Bounded) →
        s.air.downDiscards ≤ 4294967295 →
        t.air =
          if s.air.up then
            { s.air with
              audio := []
              sending :=
                if s.air.sending.isSome then s.air.sending else cuts.head?.map .control
              control := if s.air.sending.isSome then cuts else cuts.tail }
          else
            { s.air with
              control := [], audio := []
              downDiscards := counted s.air.downDiscards cuts.length }

/-! ### Arithmetic of the tracker and of the samples -/

/-- "round" of 5.2: the nearest integer, and of two equally near the one further from zero. -/
def Obligations.RoundTakesNearest : Prop :=
  ∀ a b : Int, 0 < b →
    2 * |b * roundDiv a b - a| ≤ b ∧ (2 * |b * roundDiv a b - a| = b → |a| < |b * roundDiv a b|)

/-- An input to a tracker entry, by its state. UNLOCKED, it begins acquisition (R63). Otherwise one that is not
newer than the raw pair is stale (R62). ACQUIRING, a gross input restarts acquisition, and any other moves ρ
half the way to the measured deviation, locking the entry at the acquire count (R64, R65). LOCKED or STALE, a
gap re-anchors (R66), an outlier is counted and the third in a row makes the entry reacquire (R67), and any other
is accepted: the anchor moved by a share of the phase error, or set hard beyond the phase limit, ρ by a share of
the measured difference, clamped (R58, R68, R69); what writes the raw pair makes a STALE entry LOCKED (R70). What
an input makes known of a speaker is reported, and then acts at Zone Playout; a stream entry makes nothing known
(R61, R65, R66, R68, R78, R128). That a gross input and the third outlier leave the echoes accepted counter as it
was is the model's reading of R64 and R67 against Table 27 (log entry 9). -/
def Obligations.LockedEntryTracksInput : Prop :=
  (∀ (p : TrackingParams) (e : TrackerEntry) (t : Nat) (l : LocalCount),
    let dt : Int := (t : Int) - e.rawT
    let r : Int := (((l - e.rawL).toNat - 256 * dt) * 65536).tdiv dt
    let span : Int := 256 * ((t : Int) - e.anchorT)
    let predicted : LocalCount :=
      e.anchorL + BitVec.ofInt 32 (span + roundDiv (span * e.rho) 16777216)
    let error : Int := (l - predicted).toInt
    let written (k : Nat) : Int := e.rho + roundDiv (r - e.rho) (2 ^ k)
    let rho (k : Nat) : Int := max (-8192) (min 8192 (written k))
    let clamps (k : Nat) : Nat := if |written k| ≤ 8192 then e.clamps else counted e.clamps 1
    let accepted := counted e.echoesAccepted 1
    let follows := e.state = .locked ∨ e.state = .stale
    let recovered : List TrackEvent := if e.state = .stale then [.recovered] else []
    (e.state = .unlocked → e.input p t l =
      ({ e with
         state := .acquiring, rawT := t, rawL := l, anchorT := t, anchorL := l, accepted := 1
         outlierRun := 0, echoesAccepted := accepted }, []))
    ∧ (e.state ≠ .unlocked → dt ≤ 0 →
      e.input p t l = ({ e with staleEchoes := counted e.staleEchoes 1 }, []))
    ∧ (e.state = .acquiring → 0 < dt → (1048576 < dt ∨ 16384 < |r|) →
      e.input p t l =
        ({ e with
           rawT := t, rawL := l, anchorT := t, anchorL := l, accepted := 1
           outliers := counted e.outliers 1 }, []))
    ∧ (e.state = .acquiring → 0 < dt → dt ≤ 1048576 → |r| ≤ 16384 →
      let a : TrackerEntry :=
        { e with
          rho := rho 1, clamps := clamps 1, rawT := t, rawL := l, anchorT := t, anchorL := l
          accepted := e.accepted + 1, echoesAccepted := accepted }
      e.input p t l =
        if p.acquireCount ≤ e.accepted + 1 then
          ({ a with state := .locked, outlierRun := 0 }, [.locked])
        else (a, []))
    ∧ (follows → 1048576 < dt →
      e.input p t l =
        ({ e with
           state := .locked, rawT := t, rawL := l, anchorT := t, anchorL := l, outlierRun := 0
           phaseSteps := counted e.phaseSteps 1, echoesAccepted := accepted },
         .phaseStep false 0 :: recovered))
    ∧ (follows → 0 < dt → dt ≤ 1048576 → p.outlierLimit < |r - e.rho| →
      e.input p t l =
        if e.outlierRun < 2 then
          ({ e with outliers := counted e.outliers 1, outlierRun := e.outlierRun + 1 }, [])
        else
          ({ e with
             state := .acquiring, rawT := t, rawL := l, anchorT := t, anchorL := l, accepted := 1
             outlierRun := 0, outliers := counted e.outliers 1 }, [.reacquire]))
    ∧ (follows → 0 < dt → dt ≤ 1048576 → |r - e.rho| ≤ p.outlierLimit →
      let a : TrackerEntry :=
        { e with
          state := .locked, rawT := t, rawL := l, anchorT := t, rho := rho p.g, clamps := clamps p.g
          outlierRun := 0, echoesAccepted := accepted }
      (|error| ≤ p.phaseLimit → e.input p t l =
        ({ a with anchorL := predicted + BitVec.ofInt 32 (roundDiv error (2 ^ p.h)) }, recovered))
      ∧ (p.phaseLimit < |error| → e.input p t l =
        ({ a with anchorL := l, phaseSteps := counted e.phaseSteps 1 },
         .phaseStep true error :: recovered))))
  ∧ ∀ (s : State) (t : Nat) (l : LocalCount),
    (∀ e : EntryNo,
      let out := (s.entry e).input s.tracker.params t l
      let put : State :=
        { s with tracker := { s.tracker with entries := tblSet s.tracker.entries e out.1 } }
      (∀ sp : SpeakerNo, e = speakerEntry sp →
        trackInput e t l s = out.2.foldl (fun u v => speakerEvent sp v u) put)
      ∧ (24 ≤ e.val → trackInput e t l s = put))
    ∧ ∀ sp : SpeakerNo,
      let e := s.entry (speakerEntry sp)
      (speakerEvent sp .locked s =
        join sp (offerEvent .speakerLocked sp.val [⟨2, e.rho⟩, ⟨1, e.accepted⟩] s))
      ∧ (∀ (phase : Bool) (error : Int),
        let u := offerEvent .speakerPhaseStep sp.val [⟨1, if phase then 1 else 0⟩, ⟨4, error⟩] s
        speakerEvent sp (.phaseStep phase error) s =
          { u with
            playout :=
              { u.playout with
                speakers :=
                  tblSet u.playout.speakers sp { s.speaker sp with rampPending := true } } })
      ∧ speakerEvent sp .reacquire s = offerEvent .speakerReacquire sp.val [⟨1, 0⟩, ⟨2, e.rho⟩] s
      ∧ speakerEvent sp .recovered s = offerEvent .speakerRecovered sp.val [⟨2, e.rho⟩] s
end

