-- ==== Sys2Proof/Laws/Frames.lean ====
section
/-! SUPPORT. Which parts of the state each shared operation can change: one lemma per operation. -/

namespace Sys2Proof.Machine

open Sys2Proof

-- The many short proofs below are elaborated one after another: side by side they take too many threads.
set_option Elab.async false

/-- The parts of the state that operations change one without another. -/
inductive Part where
  | clock
  | timing
  | marks
  | store
  | intake
  | entries
  | params
  | active
  | staged
  | swapFlag
  | trims
  | accessed
  | zones
  | speakers
  | tap
  | overlay
  | memory
  | cueRuns
  | air
  | source
  | agenda
  deriving DecidableEq, Repr

/-- Two states agree in a part. -/
def SameIn (p : Part) (s t : State) : Prop :=
  match p with
  | .clock => t.timeline.count = s.timeline.count ∧ t.timeline.block = s.timeline.block
  | .timing =>
      t.timeline.tau = s.timeline.tau ∧ t.timeline.mode = s.timeline.mode
        ∧ t.timeline.candidates = s.timeline.candidates ∧ t.timeline.elected = s.timeline.elected
        ∧ t.timeline.noCandidate = s.timeline.noCandidate
        ∧ t.timeline.beaconInterval = s.timeline.beaconInterval
        ∧ t.timeline.beaconNumber = s.timeline.beaconNumber
        ∧ t.timeline.beaconLog = s.timeline.beaconLog
  | .marks => t.timeline.marks = s.timeline.marks
  | .store => t.store = s.store
  | .intake => t.intake = s.intake
  | .entries => t.tracker.entries = s.tracker.entries
  | .params => t.tracker.params = s.tracker.params
  | .active => t.plan.active = s.plan.active
  | .staged => t.plan.staged = s.plan.staged
  | .swapFlag => t.plan.swapPending = s.plan.swapPending
  | .trims => t.plan.trims = s.plan.trims
  | .accessed => t.plan.accessed = s.plan.accessed
  | .zones => t.playout.zones = s.playout.zones
  | .speakers => t.playout.speakers = s.playout.speakers
  | .tap => t.playout.tap = s.playout.tap
  | .overlay => t.overlay = s.overlay
  | .memory => t.cue.memory = s.cue.memory
  | .cueRuns => t.cue.runs = s.cue.runs
  | .air => t.air = s.air
  | .source => t.source = s.source
  | .agenda => t.agenda = s.agenda

/-- `t` differs from `s` in parts of the list alone. -/
def Only (l : List Part) (s t : State) : Prop :=
  t.rstLow = s.rstLow ∧ t.pending = s.pending ∧ ∀ p, p ∉ l → SameIn p s t

theorem SameIn.refl (p : Part) (s : State) : SameIn p s s := by
  cases p <;> simp [SameIn]

theorem SameIn.trans {p : Part} {s t u : State} (h : SameIn p s t) (k : SameIn p t u) :
    SameIn p s u := by
  cases p <;> simp only [SameIn] at * <;> grind

theorem Only.refl (l : List Part) (s : State) : Only l s s := ⟨rfl, rfl, fun p _ => .refl p s⟩

/-- Two operations, one after the other. -/
theorem Only.then {l k m : List Part} {s t u : State} (h : Only l s t) (h' : Only k t u)
    (hl : l.all m.contains = true := by decide) (hk : k.all m.contains = true := by decide) :
    Only m s u := by
  refine ⟨h'.1.trans h.1, h'.2.1.trans h.2.1, fun p hp => (h.2.2 p ?_).trans (h'.2.2 p ?_)⟩
  · intro q; exact hp (by simpa using List.all_eq_true.mp hl p q)
  · intro q; exact hp (by simpa using List.all_eq_true.mp hk p q)

/-- A longer list of parts. -/
theorem Only.widen {l m : List Part} {s t : State} (h : Only l s t)
    (hl : l.all m.contains = true := by decide) : Only m s t :=
  ⟨h.1, h.2.1, fun p hp => h.2.2 p fun q => hp (by simpa using List.all_eq_true.mp hl p q)⟩

theorem Only.forEach {α : Type} {m : List Part} (f : α → State → State)
    (h : ∀ a s, Only m s (f a s)) (l : List α) (s : State) : Only m s (s.forEach l f) := by
  induction l generalizing s with
  | nil => exact .refl _ _
  | cons a l ih =>
      have h' := ih (f a s)
      exact ⟨h'.1.trans (h a s).1, h'.2.1.trans (h a s).2.1,
        fun p hp => ((h a s).2.2 p hp).trans (h'.2.2 p hp)⟩

/-! ### The updates -/

theorem Only.modStore (s : State) (f : CellStore → CellStore) : Only [.store] s (s.modStore f) :=
  ⟨rfl, rfl, fun p h => by cases p <;> first | exact absurd (List.mem_singleton.mpr rfl) h | simp [SameIn, State.modStore]⟩

theorem Only.modIntake (s : State) (f : Intake → Intake) : Only [.intake] s (s.modIntake f) :=
  ⟨rfl, rfl, fun p h => by cases p <;> first | exact absurd (List.mem_singleton.mpr rfl) h | simp [SameIn, State.modIntake]⟩

theorem Only.modAir (s : State) (f : AirLink → AirLink) : Only [.air] s (s.modAir f) :=
  ⟨rfl, rfl, fun p h => by cases p <;> first | exact absurd (List.mem_singleton.mpr rfl) h | simp [SameIn, State.modAir]⟩

theorem Only.modSource (s : State) (f : SourceLink → SourceLink) : Only [.source] s (s.modSource f) :=
  ⟨rfl, rfl, fun p h => by cases p <;> first | exact absurd (List.mem_singleton.mpr rfl) h | simp [SameIn, State.modSource]⟩

theorem Only.modAgenda (s : State) (f : Agenda → Agenda) : Only [.agenda] s (s.modAgenda f) :=
  ⟨rfl, rfl, fun p h => by cases p <;> first | exact absurd (List.mem_singleton.mpr rfl) h | simp [SameIn, State.modAgenda]⟩

theorem Only.modOverlay (s : State) (f : Overlay → Overlay) : Only [.overlay] s (s.modOverlay f) :=
  ⟨rfl, rfl, fun p h => by cases p <;> first | exact absurd (List.mem_singleton.mpr rfl) h | simp [SameIn, State.modOverlay]⟩

theorem Only.modZone (s : State) (z : ZoneNo) (f : ZoneRun → ZoneRun) : Only [.zones] s (s.modZone z f) :=
  ⟨rfl, rfl, fun p h => by cases p <;> first | exact absurd (List.mem_singleton.mpr rfl) h | simp [SameIn, State.modZone, State.modPlayout]⟩

theorem Only.modSpeaker (s : State) (sp : SpeakerNo) (f : SpeakerRun → SpeakerRun) : Only [.speakers] s (s.modSpeaker sp f) :=
  ⟨rfl, rfl, fun p h => by cases p <;> first | exact absurd (List.mem_singleton.mpr rfl) h | simp [SameIn, State.modSpeaker, State.modPlayout]⟩

theorem Only.modTap (s : State) (f : Tap → Tap) : Only [.tap] s (s.modTap f) :=
  ⟨rfl, rfl, fun p h => by cases p <;> first | exact absurd (List.mem_singleton.mpr rfl) h | simp [SameIn, State.modTap, State.modPlayout]⟩

theorem Only.modEntry (s : State) (e : EntryNo) (f : TrackerEntry → TrackerEntry) : Only [.entries] s (s.modEntry e f) :=
  ⟨rfl, rfl, fun p h => by cases p <;> first | exact absurd (List.mem_singleton.mpr rfl) h | simp [SameIn, State.modEntry, State.modTracker]⟩

theorem Only.modStream (s : State) (st : StreamNo) (f : Stream → Stream) : Only [.intake] s (s.modStream st f) :=
  ⟨rfl, rfl, fun p h => by cases p <;> first | exact absurd (List.mem_singleton.mpr rfl) h | simp [SameIn, State.modStream, State.modIntake]⟩

theorem Only.modCueRun (s : State) (z : ZoneNo) (f : CueRun → CueRun) : Only [.cueRuns] s (s.modCueRun z f) :=
  ⟨rfl, rfl, fun p h => by cases p <;> first | exact absurd (List.mem_singleton.mpr rfl) h | simp [SameIn, State.modCueRun, State.modCueEngine]⟩

theorem Only.modMark (s : State) (k : MarkNo) (f : Mark → Mark) : Only [.marks] s (s.modMark k f) :=
  ⟨rfl, rfl, fun p h => by cases p <;> first | exact absurd (List.mem_singleton.mpr rfl) h | simp [SameIn, State.modMark, State.modTimeline]⟩

theorem Only.setClaimStack (s : State) (sp : SpeakerNo) (l : List CellNo) : Only [.overlay] s (s.setClaimStack sp l) :=
  ⟨rfl, rfl, fun p h => by cases p <;> first | exact absurd (List.mem_singleton.mpr rfl) h | simp [SameIn, State.setClaimStack, State.modOverlay]⟩

theorem Only.modClaimCounters (s : State) (z : ZoneNo) (f : ClaimCounters → ClaimCounters) : Only [.overlay] s (s.modClaimCounters z f) :=
  ⟨rfl, rfl, fun p h => by cases p <;> first | exact absurd (List.mem_singleton.mpr rfl) h | simp [SameIn, State.modClaimCounters, State.modOverlay]⟩

theorem Only.modAirCounters (s : State) (sp : SpeakerNo) (f : AirCounters → AirCounters) : Only [.air] s (s.modAirCounters sp f) :=
  ⟨rfl, rfl, fun p h => by cases p <;> first | exact absurd (List.mem_singleton.mpr rfl) h | simp [SameIn, State.modAirCounters, State.modAir]⟩

theorem Only.setCell (s : State) (c : CellNo) (x : Cell) : Only [.store] s (s.setCell c x) :=
  ⟨rfl, rfl, fun p h => by cases p <;> first | exact absurd (List.mem_singleton.mpr rfl) h | simp [SameIn, State.setCell, State.modStore]⟩

theorem Only.setAccessed (s : State) (sp : SpeakerNo) (b : Bool) : Only [.accessed] s (s.setAccessed sp b) :=
  ⟨rfl, rfl, fun p h => by cases p <;> first | exact absurd (List.mem_singleton.mpr rfl) h | simp [SameIn, State.setAccessed, State.modPlan]⟩

/-! ### The Report Queue, the Cell Store and the Air Link -/

theorem Only.selectSource (s : State) : Only [.source, .tap] s (selectSource s) := by
  unfold Machine.selectSource
  split
  · split
    · exact (Only.modSource _ _).widen
    · exact (Only.modTap _ _).then (Only.modSource _ _)
    · exact .refl _ _
  · exact .refl _ _

theorem Only.offerEvent (code : EventCode) (subject : Nat) (payload : List Field) (s : State) :
    Only [.source, .tap] s (offerEvent code subject payload s) :=
  (Only.modSource _ _).then (Only.selectSource _)

theorem Only.offerFirm (sort : ReportSort) (payload : List Field) (s : State) :
    Only [.source, .tap] s (offerFirm sort payload s) :=
  (Only.modSource _ _).then (Only.selectSource _)

theorem Only.reply (kind : Byte) (d : Header) (status : Status) (payload : List Field) (s : State) :
    Only [.source, .tap] s (reply kind d status payload s) := Only.offerFirm _ _ _

theorem Only.completeSource (s : State) : Only [.source, .tap] s (completeSource s) := by
  unfold Machine.completeSource
  split
  · exact .refl _ _
  · exact (Only.modSource _ _).then (Only.selectSource _)
  · exact (Only.modSource _ _).then (Only.selectSource _)

theorem Only.depletionCheck (s : State) : Only [.store, .source, .tap] s (depletionCheck s) := by
  unfold Machine.depletionCheck
  split
  · exact (Only.modStore _ _).then (Only.offerEvent _ _ _ _)
  · exact .refl _ _

theorem Only.takeCell {kind : TakeKind} {s t : State} {c : CellNo}
    (h : takeCell kind s = some (c, t)) : Only [.store, .source, .tap] s t := by
  unfold Machine.takeCell at h
  split at h
  · cases h
  · split at h
    · cases h; exact (Only.modStore _ _).then (Only.depletionCheck _)
    · cases h

theorem Only.releaseCell (c : CellNo) (s : State) : Only [.store] s (releaseCell c s) :=
  Only.modStore _ _

theorem Only.releaseCells (cs : List CellNo) (s : State) : Only [.store] s (releaseCells cs s) :=
  Only.forEach _ Only.releaseCell cs s

theorem Only.selectAudio (l : List AudioItem) (s : State) : Only [.air] s (selectAudio l s) := by
  induction l generalizing s with
  | nil => exact Only.modAir _ _
  | cons i l ih =>
      unfold Machine.selectAudio
      split
      · exact (Only.modAirCounters _ _ _).then (ih _)
      · exact Only.modAir _ _

theorem Only.selectAir (s : State) : Only [.air] s (selectAir s) := by
  unfold Machine.selectAir
  split
  · split
    · exact Only.modAir _ _
    · exact Only.selectAudio _ _
  · exact .refl _ _

theorem Only.queueControl (f : ControlFrame) (s : State) : Only [.air] s (queueControl f s) :=
  Only.modAir _ _

theorem Only.placeControl (f : ControlFrame) (s : State) : Only [.air] s (placeControl f s) := by
  unfold Machine.placeControl
  split
  · exact Only.queueControl _ _
  · split
    · exact ((Only.modAir _ _).then (m := [.air]) (Only.modAirCounters _ _ _)).then
        (Only.queueControl _ _)
    · exact Only.modAir _ _

theorem Only.handBeacon (number : SerialNo) (block interval : Nat) (s : State) :
    Only [.air] s (handBeacon number block interval s) := by
  unfold Machine.handBeacon
  split
  · exact (Only.placeControl _ _).then (Only.selectAir _)
  · exact Only.modAir _ _

theorem Only.purge (sp : SpeakerNo) (address : AirAddress) (cutBlock : Nat) (s : State) :
    Only [.air] s (purge sp address cutBlock s) :=
  (Only.modAir _ _).then (Only.modAirCounters _ _ _)

theorem Only.handCut (sp : SpeakerNo) (address : AirAddress) (stamp : LocalCount) (cutBlock : Nat)
    (s : State) : Only [.air] s (handCut sp address stamp cutBlock s) := by
  unfold Machine.handCut
  split
  · exact ((Only.purge _ _ _ _).then (m := [.air]) (Only.placeControl _ _)).then (Only.selectAir _)
  · exact Only.modAir _ _

theorem Only.queueAudio (i : AudioItem) (s : State) : Only [.air] s (queueAudio i s) :=
  Only.modAir _ _

theorem Only.placeAudio (i : AudioItem) (s : State) : Only [.air] s (placeAudio i s) := by
  unfold Machine.placeAudio
  split
  · exact Only.queueAudio _ _
  · split
    · exact Only.modAirCounters _ _ _
    · split
      · exact ((Only.modAir _ _).then (m := [.air]) (Only.modAirCounters _ _ _)).then
          (Only.queueAudio _ _)
      · exact Only.modAirCounters _ _ _

theorem Only.handAudio (i : AudioItem) (s : State) : Only [.air] s (handAudio i s) := by
  unfold Machine.handAudio
  split
  · exact (Only.placeAudio _ _).then (Only.selectAir _)
  · exact Only.modAir _ _

theorem Only.completeAir (s : State) : Only [.air] s (completeAir s) := by
  unfold Machine.completeAir
  split
  · exact .refl _ _
  · exact (Only.modAir _ _).then (Only.selectAir _)
  · exact (Only.modAir _ _).then (Only.selectAir _)

/-! ### Speakers, claims and zones -/

theorem Only.setRampPending (sp : SpeakerNo) (s : State) :
    Only [.speakers] s (setRampPending sp s) := Only.modSpeaker _ _ _

theorem Only.sendEntry (kind : AudioKind) (z : ZoneNo) (sp : SpeakerNo) (e : IssueEntry) (s : State) :
    Only [.speakers, .air] s (sendEntry kind z sp e s) :=
  (Only.modSpeaker _ _ _).then (Only.handAudio _ _)

theorem Only.join (sp : SpeakerNo) (s : State) : Only [.speakers, .air] s (join sp s) := by
  unfold Machine.join
  split
  · exact (Only.setRampPending _ _).widen
  · split
    · exact (Only.setRampPending _ _).then
        (Only.forEach (m := [.speakers, .air]) _ (fun _ _ => Only.sendEntry _ _ _ _ _) _ _)
    · exact (Only.setRampPending _ _).widen

theorem Only.recompute (sp : SpeakerNo) (s : State) : Only [.speakers] s (recompute sp s) :=
  Only.modSpeaker _ _ _

theorem Only.refresh (sp : SpeakerNo) (s : State) : Only [.speakers, .air] s (refresh sp s) := by
  unfold Machine.refresh
  simp only []
  split
  · exact (Only.recompute _ _).then (Only.join _ _)
  · exact (Only.recompute _ _).widen

theorem Only.cutAt (sp : SpeakerNo) (address : AirAddress) (s : State) :
    Only [.speakers, .air] s (cutAt sp address s) :=
  (Only.handCut _ _ _ _ _).then (Only.modSpeaker _ _ _)

theorem Only.cut (sp : SpeakerNo) (s : State) : Only [.speakers, .air] s (cut sp s) :=
  Only.cutAt _ _ _

theorem Only.resyncNotice (sp : SpeakerNo) (s : State) : Only [.speakers] s (resyncNotice sp s) :=
  Only.modSpeaker _ _ _

theorem Only.presenceNotice (sp : SpeakerNo) (s : State) :
    Only [.speakers, .air] s (presenceNotice sp s) :=
  ((Only.resyncNotice _ _).then (m := [.speakers, .air]) (Only.recompute _ _)).then (Only.join _ _)

theorem Only.firstSend (z : ZoneNo) (e : IssueEntry) (sp : SpeakerNo) (s : State) :
    Only [.speakers, .air] s (firstSend z e sp s) := by
  unfold Machine.firstSend
  split
  · split
    · exact Only.sendEntry _ _ _ _ _
    · exact (Only.modSpeaker _ _ _).widen
  · exact .refl _ _

theorem Only.firstSends (z : ZoneNo) (e : IssueEntry) (s : State) :
    Only [.speakers, .air] s (firstSends z e s) :=
  Only.forEach _ (fun _ _ => Only.firstSend _ _ _ _) _ _

/-- What making, outranking and failing a claim can change. -/
abbrev claimParts : List Part := [.store, .overlay, .speakers, .air, .source, .tap]

theorem Only.claimMade (z : ZoneNo) (q : Nat) (role : Role) (sp : SpeakerNo) (c : CellNo)
    (s : State) : Only [.store, .overlay, .speakers, .air] s (claimMade z q role sp c s) :=
  ((((Only.setCell _ _ _).then (m := [.store, .overlay]) (Only.setClaimStack _ _ _)).then
    (m := [.store, .overlay]) (Only.modClaimCounters _ _ _)).then
    (m := [.store, .overlay, .speakers, .air]) (Only.cut _ _)).then (Only.refresh _ _)

theorem Only.judgeClaim (z : ZoneNo) (q : Nat) (role : Role) (sp : SpeakerNo) (s : State) :
    Only claimParts s (judgeClaim z q role sp s) := by
  unfold Machine.judgeClaim
  split
  · exact (Only.modClaimCounters _ _ _).then (Only.offerEvent _ _ _ _)
  · split
    · rename_i h; exact (Only.takeCell h).then (Only.claimMade _ _ _ _ _ _)
    · exact (Only.modClaimCounters _ _ _).then (Only.offerEvent _ _ _ _)

theorem Only.entryNotice (z : ZoneNo) (s : State) : Only claimParts s (entryNotice z s) :=
  Only.forEach _ (fun _ _ => Only.judgeClaim _ _ _ _ _) _ _

theorem Only.releaseRecord (sp : SpeakerNo) (c : CellNo) (s : State) :
    Only [.store, .overlay] s (releaseRecord sp c s) :=
  (Only.setClaimStack _ _ _).then (Only.releaseCell _ _)

theorem Only.endClaim (z : ZoneNo) (sp : SpeakerNo) (s : State) :
    Only [.store, .overlay, .speakers, .air] s (endClaim z sp s) := by
  unfold Machine.endClaim
  split
  · exact .refl _ _
  · split
    · exact (Only.releaseRecord _ _ _).then (Only.refresh _ _)
    · exact (Only.releaseRecord _ _ _).widen

theorem Only.endedNotice (z : ZoneNo) (s : State) :
    Only [.store, .overlay, .speakers, .air] s (endedNotice z s) :=
  Only.forEach _ (fun _ _ => Only.endClaim _ _ _) _ _

theorem Only.removeClaims (sp : SpeakerNo) (s : State) :
    Only [.store, .overlay] s (removeClaims sp s) :=
  (Only.setClaimStack _ _ _).then (Only.releaseCells _ _)

theorem Only.demandReport (st : StreamNo) (s : State) :
    Only [.intake, .source, .tap] s (demandReport st s) :=
  (Only.modStream _ _ _).then (Only.offerEvent _ _ _ _)

theorem Only.demandCheck (st : StreamNo) (s : State) :
    Only [.intake, .source, .tap] s (demandCheck st s) := by
  unfold Machine.demandCheck
  simp only []
  split
  · exact Only.demandReport _ _
  · exact .refl _ _

theorem Only.issueAnswer (st : StreamNo) (s : State) :
    Only [.intake, .source, .tap] s (issueAnswer st s).2 := by
  unfold Machine.issueAnswer
  split
  · exact (Only.modStream _ _ _).then (Only.demandCheck _ _)
  · exact (Only.modStream _ _ _).widen

theorem Only.emptyQueue (st : StreamNo) (s : State) : Only [.store, .intake] s (emptyQueue st s) :=
  (Only.releaseCells _ _).then (Only.modStream _ _ _)

theorem Only.flushQueue (st : StreamNo) (s : State) :
    Only [.store, .intake, .source, .tap] s (flushQueue st s) := by
  unfold Machine.flushQueue
  simp only []
  split
  · exact (Only.emptyQueue _ _).then (Only.demandReport _ _)
  · exact (Only.emptyQueue _ _).widen

theorem Only.restartStreams (s : State) : Only [.intake, .source, .tap] s (restartStreams s) := by
  refine (Only.modIntake _ _).then
    (Only.forEach (m := [.intake, .source, .tap]) _ (fun st s => ?_) _ _)
  unfold Machine.restartDemand
  split
  · exact Only.demandReport _ _
  · exact .refl _ _

/-- What a zone's change of state can change. -/
abbrev zoneParts : List Part := [.zones, .store, .overlay, .speakers, .air, .source, .tap]

theorem Only.endTap (z : ZoneNo) (s : State) : Only [.source, .tap] s (endTap z s) := by
  unfold Machine.endTap
  split
  · exact (Only.modTap _ _).then (Only.offerEvent _ _ _ _)
  · exact .refl _ _

theorem Only.reachIdle (z : ZoneNo) (s : State) : Only zoneParts s (reachIdle z s) := by
  unfold Machine.reachIdle
  have h : Only zoneParts s (Machine.endTap z (Machine.offerEvent .zoneEnded z.val
      [f2 ((s.modZone z fun r => { r with state := .idle }).zone z).issueNumber.toNat,
       f6 (s.modZone z fun r => { r with state := .idle }).block]
      (s.modZone z fun r => { r with state := .idle }))) :=
    ((Only.modZone _ _ _).then (m := zoneParts) (Only.offerEvent _ _ _ _)).then (Only.endTap _ _)
  simp only []
  split
  · exact h.then (Only.endedNotice _ _)
  · exact h

theorem Only.settleDraining (z : ZoneNo) (s : State) : Only zoneParts s (settleDraining z s) := by
  unfold Machine.settleDraining
  split
  · exact Only.reachIdle _ _
  · exact .refl _ _

theorem Only.enterDraining (z : ZoneNo) (s : State) : Only [.zones] s (enterDraining z s) :=
  Only.modZone _ _ _

theorem Only.softStop (z : ZoneNo) (s : State) : Only zoneParts s (softStop z s) := by
  unfold Machine.softStop
  split
  · exact (Only.enterDraining _ _).then (Only.settleDraining _ _)
  · exact (Only.enterDraining _ _).then (Only.settleDraining _ _)
  · exact .refl _ _
  · exact .refl _ _

theorem Only.trimRing (z : ZoneNo) (keep : IssueEntry → Bool) (s : State) :
    Only [.zones, .store] s (trimRing z keep s) :=
  (Only.modZone _ _ _).then (Only.releaseCells _ _)

theorem Only.releaseDue (z : ZoneNo) (s : State) : Only [.zones, .store] s (releaseDue z s) :=
  Only.trimRing _ _ _

theorem Only.hardStop (z : ZoneNo) (s : State) : Only zoneParts s (hardStop z s) := by
  unfold Machine.hardStop
  split
  · exact .refl _ _
  · exact ((((Only.enterDraining _ _).then (m := zoneParts) (Only.trimRing _ _ _)).then
      (m := zoneParts) (Only.forEach (m := [.speakers, .air]) _ (fun _ _ => Only.cut _ _) _ _))).then
      (Only.settleDraining _ _)

theorem Only.startZone (z : ZoneNo) (s : State) : Only [.zones, .cueRuns] s (startZone z s) :=
  (Only.modCueRun s z _).then (Only.modZone _ _ _)

/-! ### Cues and the work of a zone -/

/-- What the execution of cue words can change. -/
abbrev cueParts : List Part := .cueRuns :: zoneParts

theorem Only.executeWord (z : ZoneNo) (s : State) : Only cueParts s (executeWord z s).1 := by
  unfold Machine.executeWord
  simp only []
  split
  · exact (Only.modCueRun _ _ _).widen
  · exact (Only.modZone _ _ _).then (Only.modCueRun _ _ _)
  · exact (Only.modCueRun _ _ _).widen
  · exact (Only.modCueRun _ _ _).widen
  · exact (Only.modCueRun _ _ _).widen
  · exact (Only.offerEvent _ _ _ _).then (Only.modCueRun _ _ _)
  · exact (Only.modCueRun _ _ _).widen
  · exact (Only.modCueRun _ _ _).then (Only.softStop _ _)
  · exact (Only.modCueRun _ _ _).then (Only.offerEvent _ _ _ _)

theorem Only.executeRun (z : ZoneNo) (n : Nat) (s : State) : Only cueParts s (executeRun z n s) := by
  induction n generalizing s with
  | zero => exact .refl _ _
  | succ n ih =>
      have h := Only.executeWord z s
      unfold Machine.executeRun
      split
      · rename_i e; rw [e] at h; exact h
      · rename_i e; rw [e] at h; exact h.then (ih _)

theorem Only.boundaryNotice (z : ZoneNo) (s : State) : Only cueParts s (boundaryNotice z s) := by
  unfold Machine.boundaryNotice
  simp only []
  split
  · split
    · exact (Only.modCueRun _ _ _).widen
    · exact (Only.modCueRun _ _ _).then (Only.executeRun _ _ _)
  · exact .refl _ _

/-- What the issue of an entry can change. -/
abbrev issueParts : List Part := [.zones, .intake, .store, .source, .tap]

theorem Only.issue (z : ZoneNo) (gainStart : Nat) (s : State) :
    Only issueParts s (issue z gainStart s).2 := by
  unfold Machine.issue
  split
  · exact (Only.modZone _ _ _).widen
  · rename_i st _
    have h := Only.issueAnswer st s
    split
    · rename_i e; rw [e] at h; exact h.then (Only.modZone _ _ _)
    · rename_i e; rw [e] at h
      split
      · refine h.then (k := [.zones, .store, .source, .tap]) ?_
        unfold Machine.issueConcealed
        simp only []
        split
        · split
          · rename_i e; exact ((Only.takeCell e).then (m := [.store, .source, .tap])
              (Only.setCell _ _ _)).then (Only.modZone _ _ _)
          · exact (Only.modZone _ _ _).widen
        · exact (Only.modZone _ _ _).widen
      · refine h.then (k := [.zones, .source, .tap]) ?_
        exact (Only.modZone _ _ _).then (Only.offerEvent _ _ _ _)

theorem Only.bufferTap (b : TapBlock) (s : State) : Only [.source, .tap] s (bufferTap b s) := by
  unfold Machine.bufferTap
  split
  · exact (Only.modTap _ _).then (Only.selectSource _)
  · exact (Only.modTap _ _).widen

theorem Only.tapIssue (z : ZoneNo) (e : IssueEntry) (s : State) :
    Only [.source, .tap] s (tapIssue z e s) := by
  unfold Machine.tapIssue
  split
  · exact (Only.modTap s _).then (Only.bufferTap _ _)
  · exact .refl _ _

/-- What a zone's work can change. -/
abbrev workParts : List Part := .intake :: cueParts

theorem Only.issueWork (z : ZoneNo) (s : State) : Only workParts s (issueWork z s) := by
  unfold Machine.issueWork
  have h : Only workParts s (Machine.issue z (s.zone z).gain
      (s.modZone z fun r => { r with gain := nextGain r.gain r.target r.gainStep })).2 :=
    (Only.modZone s z _).then (Only.issue _ _ _)
  have h' := (h.then (m := workParts) (Only.tapIssue z (Machine.issue z (s.zone z).gain
    (s.modZone z fun r => { r with gain := nextGain r.gain r.target r.gainStep })).1 _)).then
    (m := workParts) (Only.firstSends z (Machine.issue z (s.zone z).gain
    (s.modZone z fun r => { r with gain := nextGain r.gain r.target r.gainStep })).1 _)
  simp only []
  split
  · exact (h'.then (m := workParts) (Only.enterDraining _ _)).then (Only.settleDraining _ _)
  · exact h'

theorem Only.playingSteps (z : ZoneNo) (s : State) : Only workParts s (playingSteps z s) := by
  unfold Machine.playingSteps
  simp only []
  split
  · exact (Only.boundaryNotice _ _).then (Only.issueWork _ _)
  · exact (Only.boundaryNotice _ _).widen

theorem Only.enterPlaying (z : ZoneNo) (s : State) : Only zoneParts s (enterPlaying z s) := by
  unfold Machine.enterPlaying
  simp only []
  split
  · exact ((Only.modZone _ _ _).then (m := zoneParts) (Only.entryNotice _ _)).then
      (Only.offerEvent _ _ _ _)
  · exact (Only.modZone _ _ _).then (Only.offerEvent _ _ _ _)

theorem Only.zoneWork (z : ZoneNo) (s : State) : Only workParts s (zoneWork z s) := by
  unfold Machine.zoneWork
  split
  · exact .refl _ _
  · unfold primingWork
    simp only []
    split
    · exact (Only.releaseDue _ _).widen
    · split
      · exact ((Only.releaseDue _ _).then (m := workParts) (Only.enterPlaying _ _)).then
          (Only.playingSteps _ _)
      · exact (Only.releaseDue _ _).widen
  · exact (Only.releaseDue _ _).then (Only.playingSteps _ _)
  · unfold drainingWork
    simp only []
    split
    · exact ((Only.releaseDue _ _).then (m := workParts) (Only.settleDraining _ _)).then
        (Only.boundaryNotice _ _)
    · exact (Only.releaseDue _ _).then (Only.settleDraining _ _)

/-! ### The Clock Tracker and arrivals -/

theorem Only.speakerEvent (sp : SpeakerNo) (ev : TrackEvent) (s : State) :
    Only [.source, .tap, .speakers, .air] s (speakerEvent sp ev s) := by
  unfold Machine.speakerEvent
  cases ev
  · exact (Only.offerEvent _ _ _ _).then (Only.join _ _)
  · exact (Only.offerEvent _ _ _ _).then (Only.setRampPending _ _)
  · exact (Only.offerEvent _ _ _ _).widen
  · exact (Only.offerEvent _ _ _ _).widen

theorem Only.trackInput (e : EntryNo) (t : Nat) (l : LocalCount) (s : State) :
    Only [.entries, .source, .tap, .speakers, .air] s (trackInput e t l s) := by
  unfold Machine.trackInput
  simp only []
  split
  · exact (Only.modEntry _ _ _).then (Only.forEach (m := [.source, .tap, .speakers, .air]) _
      (fun _ _ => Only.speakerEvent _ _ _) _ _)
  · exact (Only.modEntry _ _ _).widen

/-- A stream's observation changes tracker entries alone (R61). -/
theorem Only.observe (st : StreamNo) (sourceIndex : BitVec 32) (s : State) :
    Only [.entries] s (observe st sourceIndex s) := by
  have h : entrySpeaker (streamEntry st) = none := by
    simp [entrySpeaker, streamEntry]
  unfold Machine.observe Machine.trackInput
  simp only [h]
  exact (Only.modEntry _ _ _).then (Only.modEntry _ _ _)

/-- What an echo's tracking can change. -/
abbrev echoParts : List Part := [.entries, .source, .tap, .speakers, .air, .accessed]

theorem Only.handEcho (sp : SpeakerNo) (f : SerialNo) (l : LocalCount) (resync : Bool) (s : State) :
    Only echoParts s (handEcho sp f l resync s) := by
  unfold Machine.handEcho
  simp only []
  have a : Only echoParts s ((clearSilence (speakerEntry sp) s).setAccessed sp true) :=
    (Only.modEntry s _ _).then (Only.setAccessed _ _ _)
  have b : Only echoParts s
      (if (((clearSilence (speakerEntry sp) s).setAccessed sp true).lookupBeacon f).isNone = true then
        ((clearSilence (speakerEntry sp) s).setAccessed sp true).modEntry (speakerEntry sp) fun x =>
          { x with staleEchoes := bump x.staleEchoes 1 }
      else (clearSilence (speakerEntry sp) s).setAccessed sp true) := by
    split
    · exact a.then (Only.modEntry _ _ _)
    · exact a
  split
  · exact ((b.then (m := echoParts) (Only.modEntry _ _ _)).then (m := echoParts)
      (Only.offerEvent _ _ _ _)).then (Only.resyncNotice _ _)
  · split
    · exact b.then (Only.trackInput _ _ _ _)
    · exact b

theorem Only.serveGap (sp : SpeakerNo) (gapZone : Byte) (number : SerialNo) (s : State) :
    Only [.air] s (serveGap sp gapZone number s) := by
  unfold Machine.serveGap
  split
  · exact (Only.modAirCounters _ _ _).then (Only.handAudio _ _)
  · exact Only.modAirCounters _ _ _

theorem Only.echoArrives (f : EchoFrame) (s : State) :
    Only (.intake :: echoParts) s (echoArrives f s) := by
  unfold Machine.echoArrives
  split
  · exact (Only.modIntake _ _).widen
  · split
    · exact (Only.modIntake _ _).widen
    · split
      · exact (Only.modIntake _ _).widen
      · simp only []
        split
        · exact (Only.handEcho _ _ _ _ _).widen
        · exact (Only.handEcho _ _ _ _ _).then
            (Only.forEach (m := [.air]) _ (fun _ _ => Only.serveGap _ _ _ _) _ _)

/-- What a SOURCE frame can change. -/
abbrev sourceParts : List Part := [.intake, .store, .entries, .source, .tap]

theorem Only.storeFrame (st : StreamNo) (f : SourceFrame) (gap : Nat) (discontinuity : Bool)
    (s : State) : Only sourceParts s (storeFrame st f gap discontinuity s) := by
  unfold Machine.storeFrame
  split
  · rename_i e
    refine (Only.takeCell e).then (k := sourceParts) ?_
    unfold appendFrame
    simp only []
    have h := fun (t : State) (c : CellNo) (x : Cell) (g : Stream → Stream) =>
      (Only.setCell t c x).then (m := sourceParts) (Only.modStream _ st g)
    split
    · exact (h _ _ _ _).then (Only.observe _ _ _)
    · exact h _ _ _ _
  · exact (Only.modStream _ _ _).then (Only.offerEvent _ _ _ _)

theorem Only.markHead (st : StreamNo) (s : State) : Only [.store] s (markHead st s) := by
  unfold Machine.markHead
  split
  · exact .refl _ _
  · split
    · exact Only.setCell _ _ _
    · exact .refl _ _

theorem Only.overflow (st : StreamNo) (s : State) : Only [.intake, .store] s (overflow st s) := by
  unfold Machine.overflow
  split
  · exact .refl _ _
  · rename_i c _ _
    exact ((Only.releaseCell c s).then (m := [.intake, .store]) (Only.modStream _ st _)).then
      (Only.markHead _ _)

theorem Only.sourceArrives (f : SourceFrame) (s : State) :
    Only sourceParts s (sourceArrives f s) := by
  unfold Machine.sourceArrives
  split
  · exact (Only.modIntake _ _).widen
  · split
    · exact (Only.modIntake _ _).widen
    · split
      · unfold judgeFrame
        simp only []
        split
        · exact (Only.modIntake _ _).widen
        · split
          · unfold admitFrame
            simp only []
            split
            · exact Only.storeFrame _ _ _ _ _
            · split
              · exact (Only.overflow _ _).then (Only.storeFrame _ _ _ _ _)
              · exact (Only.modStream _ _ _).then (Only.offerEvent _ _ _ _)
          · exact (Only.modStream _ _ _).widen
      · exact (Only.modIntake _ _).widen

theorem Only.takeNotice (e : EntryNo) (s : State) :
    Only [.entries, .source, .tap] s (takeNotice e s) := by
  unfold Machine.takeNotice
  simp only []
  split
  · exact (Only.modEntry _ _ _).widen
  · split
    · exact (Only.modEntry _ _ _).then (Only.offerEvent _ _ _ _)
    · split
      · exact (Only.modEntry _ _ _).then (Only.offerEvent _ _ _ _)
      · exact (Only.modEntry _ _ _).widen

end Sys2Proof.Machine
end

