-- ==== Sys2Proof/Laws/BoundaryFrames.lean ====
section
/-! SUPPORT. Which parts of the state the works of a boundary and the block resets of RESTART can change. -/

namespace Sys2Proof.Machine

open Sys2Proof

-- The many short proofs below are elaborated one after another: side by side they take too many threads.
set_option Elab.async false

theorem Only.modPlan_swap (s : State) (b : Bool) :
    Only [.swapFlag] s (s.modPlan fun p => { p with swapPending := b }) :=
  ⟨rfl, rfl, fun p h => by
    cases p <;> first | exact absurd (List.mem_singleton.mpr rfl) h | simp [SameIn, State.modPlan]⟩

theorem Only.modTimeline (s : State) (f : Timeline → Timeline)
    (h : ∀ t, (f t).count = t.count ∧ (f t).block = t.block ∧ (f t).marks = t.marks := by
      exact fun _ => ⟨rfl, rfl, rfl⟩) : Only [.timing] s (s.modTimeline f) :=
  ⟨rfl, rfl, fun p hp => by
    have := h s.timeline
    cases p <;> simp_all [SameIn, State.modTimeline]⟩

/-! ### The swap -/

theorem Only.rebind (z : ZoneNo) (s : State) : Only [.zones] s (rebind z s) := Only.modZone _ _ _

theorem Only.refuseSwap (r : SwapRefusal) (s : State) :
    Only [.swapFlag, .source, .tap] s (refuseSwap r s) :=
  (Only.modPlan_swap _ _).then (Only.offerEvent _ _ _ _)

theorem Only.zoneNotice (old : Bank) (z : ZoneNo) (s : State) :
    Only [.zones] s (zoneNotice old z s) := by
  unfold Machine.zoneNotice
  simp only []
  split
  · exact Only.rebind _ _
  · exact .refl _ _

theorem Only.removeEntry (sp : SpeakerNo) (s : State) : Only [.entries] s (removeEntry sp s) :=
  Only.modEntry _ _ _

/-- What the speaker notices of a swap can change. -/
abbrev noticeParts : List Part := [.store, .overlay, .speakers, .air, .entries, .accessed]

theorem Only.speakerRemoved (old : Bank) (sp : SpeakerNo) (s : State) :
    Only noticeParts s (speakerRemoved old sp s) :=
  ((((Only.removeClaims _ _).then (m := noticeParts) (Only.cutAt _ _ _)).then
    (m := noticeParts) (Only.recompute _ _)).then (m := noticeParts) (Only.removeEntry _ _)).then
    (Only.setAccessed _ _ _)

theorem Only.speakerReaddressed (old : Bank) (sp : SpeakerNo) (s : State) :
    Only noticeParts s (speakerReaddressed old sp s) :=
  ((Only.cutAt _ _ _).then (m := noticeParts) (Only.removeEntry _ _)).then (Only.presenceNotice _ _)

theorem Only.speakerNotice (old : Bank) (sp : SpeakerNo) (s : State) :
    Only noticeParts s (speakerNotice old sp s) := by
  unfold Machine.speakerNotice
  simp only []
  split
  · split
    · split
      · split
        · exact (Only.speakerReaddressed _ _ _).then (Only.refresh _ _)
        · exact (Only.refresh _ _).widen
      · split
        · exact Only.speakerReaddressed _ _ _
        · exact .refl _ _
    · exact Only.speakerRemoved _ _ _
  · split
    · exact (Only.presenceNotice _ _).widen
    · exact .refl _ _

theorem Only.streamNotice (old : Bank) (st : StreamNo) (s : State) :
    Only [.store, .intake, .source, .tap] s (streamNotice old st s) := by
  unfold Machine.streamNotice
  simp only []
  split
  · exact Only.flushQueue _ _
  · exact .refl _ _

theorem Only.activate (s : State) :
    Only [.active, .swapFlag] s
      (s.modPlan fun p => { p with active := p.staged, swapPending := false }) :=
  ⟨rfl, rfl, fun p h => by cases p <;> simp [SameIn, State.modPlan] at *⟩

/-- What a successful swap can change, once it is taken from the agenda. -/
abbrev completeParts : List Part :=
  [.active, .swapFlag, .source, .tap, .zones, .intake] ++ noticeParts

/-- What a swap can change. -/
abbrev swapParts : List Part := .agenda :: completeParts

theorem Only.completeSwap (s : State) : Only completeParts s (completeSwap s) := by
  unfold Machine.completeSwap
  simp only []
  refine ((((Only.activate s).then (m := completeParts) (Only.offerEvent _ _ _ _)).then
    (m := completeParts) (k := [.speakers])
    (Only.forEach _ (fun _ _ => Only.modSpeaker _ _ _) _ _)).then (m := completeParts)
    (k := [.zones]) (Only.forEach _ (fun _ _ => Only.zoneNotice _ _ _) _ _)).then
    (m := completeParts) (k := completeParts) (Only.then (m := completeParts)
    (k := [.store, .intake, .source, .tap])
    (Only.forEach (m := noticeParts) _ (fun _ _ => Only.speakerNotice _ _ _) _ _)
    (Only.forEach _ (fun _ _ => Only.streamNotice _ _ _) _ _))

theorem Only.takeSwap (s : State) : Only swapParts s (takeSwap s) := by
  unfold Machine.takeSwap
  simp only []
  split
  · exact (Only.modAgenda s _).then (Only.refuseSwap _ _)
  · exact (Only.modAgenda s _).then (Only.completeSwap _)

/-! ### The Timeline's works -/

theorem Only.rateChange (c : Int) (s : State) : Only [.entries] s (rateChange c s) :=
  ⟨rfl, rfl, fun p h => by
    cases p <;> simp_all [SameIn, Machine.rateChange, State.modTracker]⟩

theorem Only.writeTau (v : Int) (s : State) : Only [.timing, .entries] s (writeTau v s) := by
  unfold Machine.writeTau
  simp only []
  split
  · exact (Only.modTimeline s _).widen
  · exact (Only.modTimeline s _).then (Only.rateChange _ _)

/-- What a held election can change, once it is taken from the agenda. -/
abbrev electParts : List Part := [.timing, .entries, .source, .tap]

/-- What an election can change. -/
abbrev electionParts : List Part := .agenda :: electParts

theorem Only.elect (st : StreamNo) (s : State) : Only electParts s (elect st s) := by
  unfold Machine.elect
  simp only []
  split
  · exact (Only.writeTau _ s).then (Only.modTimeline _ _)
  · exact ((Only.writeTau _ s).then (m := electParts)
      (Only.modTimeline _ _)).then (Only.offerEvent _ _ _ _)

theorem Only.electNone (s : State) : Only electParts s (electNone s) := by
  unfold Machine.electNone
  simp only []
  split
  · exact (Only.modTimeline s _).widen
  · exact (Only.modTimeline s _).then (Only.offerEvent _ _ _ _)

theorem Only.takeElection (s : State) : Only electionParts s (takeElection s) := by
  unfold Machine.takeElection
  simp only []
  split
  · split
    · split
      · exact (Only.modAgenda s _).then (Only.elect _ _)
      · exact (Only.modAgenda s _).then (Only.electNone _)
    · exact (Only.modAgenda s _).widen
  · exact .refl _ _

theorem Only.dueNotice (e : EntryNo) (s : State) :
    Only [.entries, .source, .tap, .agenda] s (dueNotice e s) := by
  unfold Machine.dueNotice
  split
  · exact (Only.modAgenda s _).then (Only.takeNotice _ _)
  · exact .refl _ _

theorem Only.dueNotices (l : List EntryNo) (s : State) :
    Only [.entries, .source, .tap, .agenda] s (dueNotices l s) := Only.forEach _ Only.dueNotice _ _

theorem Only.emitBeacon (interval : Nat) (s : State) :
    Only [.timing, .air, .agenda] s (emitBeacon interval s) :=
  ((Only.modTimeline s _).then (m := [.timing, .air, .agenda])
    (Only.handBeacon _ _ _ _)).then (Only.modAgenda _ _)

/-- What a beacon can change. -/
abbrev beaconParts : List Part := .air :: electionParts

theorem Only.takeBeacon (later : List EntryNo) (s : State) :
    Only beaconParts s (takeBeacon later s) := by
  unfold Machine.takeBeacon
  split
  · exact .refl _ _
  · exact ((Only.dueNotices _ s).then (m := beaconParts) (Only.emitBeacon _ _)).then
      (Only.dueNotices _ _)

/-! ### Marks and the boundary -/

/-- What a boundary can change: all but the clock, the parameters and settings, and Cue Memory. -/
abbrev boundaryParts : List Part := [.timing, .marks, .cueRuns] ++ swapParts

theorem Only.markReport (k : MarkNo) (mk : Mark) (code : EventCode) (reason : List Field) (s : State) :
    Only [.source, .tap] s (markReport k mk code reason s) := Only.offerEvent _ _ _ _

theorem Only.markAction (k : MarkNo) (mk : Mark) (s : State) :
    Only boundaryParts s (markAction k mk s) := by
  unfold Machine.markAction
  split
  · exact (Only.markReport _ _ _ _ _).widen
  · split
    · exact (Only.markReport _ _ _ _ _).widen
    · exact (Only.takeSwap _).then (Only.markReport _ _ _ _ _)
  · split
    · exact (Only.markReport _ _ _ _ _).widen
    · split
      · exact (Only.markReport _ _ _ _ _).widen
      · exact (Only.startZone _ _).then (Only.markReport _ _ _ _ _)
  · split
    · exact (Only.markReport _ _ _ _ _).widen
    · exact (Only.softStop _ _).then (Only.markReport _ _ _ _ _)

theorem Only.fireMark (k : MarkNo) (s : State) : Only boundaryParts s (fireMark k s) := by
  unfold Machine.fireMark
  simp only []
  split
  · split
    · exact ((Only.modAgenda s _).then (m := boundaryParts) (Only.modMark _ _ _)).then
        (Only.markAction _ _ _)
    · exact (Only.modAgenda s _).widen
  · exact .refl _ _

theorem Only.settleSwap (s : State) : Only boundaryParts s (settleSwap s) := by
  have h : Only boundaryParts s (if s.agenda.swap then Machine.takeSwap s else s) := by
    split
    · exact (Only.takeSwap s).widen
    · exact .refl _ _
  refine h.then (k := boundaryParts) (Only.forEach _ (fun k s => ?_) _ _)
  unfold fireSwapMark
  split
  · exact Only.fireMark _ _
  · exact .refl _ _

theorem Only.dueZone (z : ZoneNo) (s : State) : Only boundaryParts s (dueZone z s) := by
  unfold Machine.dueZone
  split
  · exact ((Only.settleSwap s).then (m := boundaryParts) (Only.modAgenda _ _)).then (Only.zoneWork _ _)
  · exact .refl _ _

theorem Only.dueMark (k : MarkNo) (s : State) : Only boundaryParts s (dueMark k s) := by
  unfold Machine.dueMark
  split
  · exact Only.fireMark _ _
  · exact Only.fireMark _ _
  · exact (Only.settleSwap _).then (Only.fireMark _ _)
  · exact (Only.settleSwap _).then (Only.fireMark _ _)

theorem Only.runTask (t : BoundaryTask) (s : State) : Only boundaryParts s (runTask t s) := by
  unfold Machine.runTask
  split
  · exact Only.settleSwap _
  · exact (Only.takeBeacon _ _).widen
  · exact (Only.takeElection _).widen
  · exact Only.dueMark _ _
  · exact Only.dueZone _ _

/-- What a boundary left is finished without a change of the clock. -/
theorem Only.finishBoundary (s : State) : Only boundaryParts s (finishBoundary s) :=
  (Only.forEach _ Only.runTask _ s).then (Only.dueNotices _ _)

theorem Only.boundaryWorks (order later : List BoundaryTask) (s : State) :
    Only boundaryParts s (boundaryWorks order later s) :=
  (Only.forEach _ Only.runTask _ s).then (Only.settleSwap _)

/-! ### RESTART -/

/-- What RESTART can change: no setting, no bank, no trim, no word of Cue Memory, and not the clock. -/
abbrev restartParts : List Part :=
  [.marks, .agenda, .store, .intake, .source, .tap, .entries, .swapFlag, .accessed, .overlay, .cueRuns,
   .air, .zones, .speakers]

theorem Only.restartTimeline (s : State) : Only [.marks, .agenda] s (restartTimeline s) :=
  ⟨rfl, rfl, fun p h => by
    cases p <;> simp_all [SameIn, Machine.restartTimeline, State.modTimeline, State.modAgenda]⟩

theorem Only.restartTracker (s : State) : Only [.entries] s (restartTracker s) :=
  ⟨rfl, rfl, fun p h => by cases p <;> simp_all [SameIn, Machine.restartTracker, State.modTracker]⟩

theorem Only.restartPlan (s : State) : Only [.swapFlag, .accessed] s (restartPlan s) :=
  ⟨rfl, rfl, fun p h => by cases p <;> simp_all [SameIn, Machine.restartPlan, State.modPlan]⟩

theorem Only.restartCues (s : State) : Only [.cueRuns] s (restartCues s) :=
  ⟨rfl, rfl, fun p h => by cases p <;> simp_all [SameIn, Machine.restartCues, State.modCueEngine]⟩

theorem Only.restartZones (s : State) : Only [.zones, .tap] s (restartZones s) :=
  ⟨rfl, rfl, fun p h => by cases p <;> simp_all [SameIn, Machine.restartZones, State.modPlayout]⟩

theorem Only.restartPlayout (s : State) :
    Only [.zones, .tap, .speakers, .air] s (restartPlayout s) :=
  ((Only.restartZones s).then (m := [.zones, .tap, .speakers, .air]) (k := [.speakers, .air])
    (Only.forEach _ (fun _ _ => (Only.cut _ _).then (Only.resyncNotice _ _)) _ _)).then
    (k := [.speakers]) (Only.forEach _ Only.recompute _ _)

theorem Only.restartBlocks (s : State) : Only restartParts s (restartBlocks s) := by
  have a : Only restartParts s (Machine.restartStreams (rebuildStore (Machine.restartTimeline s))) :=
    ((Only.restartTimeline s).then (m := restartParts) (Only.modStore _ _)).then
      (Only.restartStreams _)
  have b := ((a.then (m := restartParts) (Only.restartTracker _)).then (m := restartParts)
    (Only.restartPlan _)).then (m := restartParts) (Only.modOverlay _ fun o =>
      { o with claimStacks := Vector.replicate 24 [] })
  exact ((b.then (m := restartParts) (Only.restartCues _)).then (m := restartParts)
    (Only.modAir _ fun a => { a with control := [], audio := [] })).then (Only.restartPlayout _)

theorem Only.restart (d : Header) (s : State) : Only restartParts s (restart d s) := by
  unfold Machine.restart
  split
  · exact (Only.reply _ _ _ _ _).widen
  · exact ((Only.modSource s _).then (m := restartParts) (Only.reply _ _ _ _ _)).then
      (Only.restartBlocks _)

end Sys2Proof.Machine
end

