-- ==== Sys2Proof/Laws/State.lean ====
section
/-! SUPPORT. One lemma per field of the state for each of the updates of Machine/Ops.lean: the field that
an update changes, and those that it leaves. All hold by definition. -/

namespace Sys2Proof.Machine

open Sys2Proof

/-! ### `State.modTimeline` -/

@[simp] theorem State.modTimeline_rstLow (s : State) (f : Timeline → Timeline) : (s.modTimeline f).rstLow = s.rstLow := rfl
@[simp] theorem State.modTimeline_timeline (s : State) (f : Timeline → Timeline) : (s.modTimeline f).timeline = f s.timeline := rfl
@[simp] theorem State.modTimeline_store (s : State) (f : Timeline → Timeline) : (s.modTimeline f).store = s.store := rfl
@[simp] theorem State.modTimeline_intake (s : State) (f : Timeline → Timeline) : (s.modTimeline f).intake = s.intake := rfl
@[simp] theorem State.modTimeline_tracker (s : State) (f : Timeline → Timeline) : (s.modTimeline f).tracker = s.tracker := rfl
@[simp] theorem State.modTimeline_plan (s : State) (f : Timeline → Timeline) : (s.modTimeline f).plan = s.plan := rfl
@[simp] theorem State.modTimeline_playout (s : State) (f : Timeline → Timeline) : (s.modTimeline f).playout = s.playout := rfl
@[simp] theorem State.modTimeline_overlay (s : State) (f : Timeline → Timeline) : (s.modTimeline f).overlay = s.overlay := rfl
@[simp] theorem State.modTimeline_cue (s : State) (f : Timeline → Timeline) : (s.modTimeline f).cue = s.cue := rfl
@[simp] theorem State.modTimeline_air (s : State) (f : Timeline → Timeline) : (s.modTimeline f).air = s.air := rfl
@[simp] theorem State.modTimeline_source (s : State) (f : Timeline → Timeline) : (s.modTimeline f).source = s.source := rfl
@[simp] theorem State.modTimeline_agenda (s : State) (f : Timeline → Timeline) : (s.modTimeline f).agenda = s.agenda := rfl
@[simp] theorem State.modTimeline_pending (s : State) (f : Timeline → Timeline) : (s.modTimeline f).pending = s.pending := rfl

/-! ### `State.modStore` -/

@[simp] theorem State.modStore_rstLow (s : State) (f : CellStore → CellStore) : (s.modStore f).rstLow = s.rstLow := rfl
@[simp] theorem State.modStore_timeline (s : State) (f : CellStore → CellStore) : (s.modStore f).timeline = s.timeline := rfl
@[simp] theorem State.modStore_store (s : State) (f : CellStore → CellStore) : (s.modStore f).store = f s.store := rfl
@[simp] theorem State.modStore_intake (s : State) (f : CellStore → CellStore) : (s.modStore f).intake = s.intake := rfl
@[simp] theorem State.modStore_tracker (s : State) (f : CellStore → CellStore) : (s.modStore f).tracker = s.tracker := rfl
@[simp] theorem State.modStore_plan (s : State) (f : CellStore → CellStore) : (s.modStore f).plan = s.plan := rfl
@[simp] theorem State.modStore_playout (s : State) (f : CellStore → CellStore) : (s.modStore f).playout = s.playout := rfl
@[simp] theorem State.modStore_overlay (s : State) (f : CellStore → CellStore) : (s.modStore f).overlay = s.overlay := rfl
@[simp] theorem State.modStore_cue (s : State) (f : CellStore → CellStore) : (s.modStore f).cue = s.cue := rfl
@[simp] theorem State.modStore_air (s : State) (f : CellStore → CellStore) : (s.modStore f).air = s.air := rfl
@[simp] theorem State.modStore_source (s : State) (f : CellStore → CellStore) : (s.modStore f).source = s.source := rfl
@[simp] theorem State.modStore_agenda (s : State) (f : CellStore → CellStore) : (s.modStore f).agenda = s.agenda := rfl
@[simp] theorem State.modStore_pending (s : State) (f : CellStore → CellStore) : (s.modStore f).pending = s.pending := rfl

/-! ### `State.modIntake` -/

@[simp] theorem State.modIntake_rstLow (s : State) (f : Intake → Intake) : (s.modIntake f).rstLow = s.rstLow := rfl
@[simp] theorem State.modIntake_timeline (s : State) (f : Intake → Intake) : (s.modIntake f).timeline = s.timeline := rfl
@[simp] theorem State.modIntake_store (s : State) (f : Intake → Intake) : (s.modIntake f).store = s.store := rfl
@[simp] theorem State.modIntake_intake (s : State) (f : Intake → Intake) : (s.modIntake f).intake = f s.intake := rfl
@[simp] theorem State.modIntake_tracker (s : State) (f : Intake → Intake) : (s.modIntake f).tracker = s.tracker := rfl
@[simp] theorem State.modIntake_plan (s : State) (f : Intake → Intake) : (s.modIntake f).plan = s.plan := rfl
@[simp] theorem State.modIntake_playout (s : State) (f : Intake → Intake) : (s.modIntake f).playout = s.playout := rfl
@[simp] theorem State.modIntake_overlay (s : State) (f : Intake → Intake) : (s.modIntake f).overlay = s.overlay := rfl
@[simp] theorem State.modIntake_cue (s : State) (f : Intake → Intake) : (s.modIntake f).cue = s.cue := rfl
@[simp] theorem State.modIntake_air (s : State) (f : Intake → Intake) : (s.modIntake f).air = s.air := rfl
@[simp] theorem State.modIntake_source (s : State) (f : Intake → Intake) : (s.modIntake f).source = s.source := rfl
@[simp] theorem State.modIntake_agenda (s : State) (f : Intake → Intake) : (s.modIntake f).agenda = s.agenda := rfl
@[simp] theorem State.modIntake_pending (s : State) (f : Intake → Intake) : (s.modIntake f).pending = s.pending := rfl

/-! ### `State.modTracker` -/

@[simp] theorem State.modTracker_rstLow (s : State) (f : Tracker → Tracker) : (s.modTracker f).rstLow = s.rstLow := rfl
@[simp] theorem State.modTracker_timeline (s : State) (f : Tracker → Tracker) : (s.modTracker f).timeline = s.timeline := rfl
@[simp] theorem State.modTracker_store (s : State) (f : Tracker → Tracker) : (s.modTracker f).store = s.store := rfl
@[simp] theorem State.modTracker_intake (s : State) (f : Tracker → Tracker) : (s.modTracker f).intake = s.intake := rfl
@[simp] theorem State.modTracker_tracker (s : State) (f : Tracker → Tracker) : (s.modTracker f).tracker = f s.tracker := rfl
@[simp] theorem State.modTracker_plan (s : State) (f : Tracker → Tracker) : (s.modTracker f).plan = s.plan := rfl
@[simp] theorem State.modTracker_playout (s : State) (f : Tracker → Tracker) : (s.modTracker f).playout = s.playout := rfl
@[simp] theorem State.modTracker_overlay (s : State) (f : Tracker → Tracker) : (s.modTracker f).overlay = s.overlay := rfl
@[simp] theorem State.modTracker_cue (s : State) (f : Tracker → Tracker) : (s.modTracker f).cue = s.cue := rfl
@[simp] theorem State.modTracker_air (s : State) (f : Tracker → Tracker) : (s.modTracker f).air = s.air := rfl
@[simp] theorem State.modTracker_source (s : State) (f : Tracker → Tracker) : (s.modTracker f).source = s.source := rfl
@[simp] theorem State.modTracker_agenda (s : State) (f : Tracker → Tracker) : (s.modTracker f).agenda = s.agenda := rfl
@[simp] theorem State.modTracker_pending (s : State) (f : Tracker → Tracker) : (s.modTracker f).pending = s.pending := rfl

/-! ### `State.modPlan` -/

@[simp] theorem State.modPlan_rstLow (s : State) (f : Plan → Plan) : (s.modPlan f).rstLow = s.rstLow := rfl
@[simp] theorem State.modPlan_timeline (s : State) (f : Plan → Plan) : (s.modPlan f).timeline = s.timeline := rfl
@[simp] theorem State.modPlan_store (s : State) (f : Plan → Plan) : (s.modPlan f).store = s.store := rfl
@[simp] theorem State.modPlan_intake (s : State) (f : Plan → Plan) : (s.modPlan f).intake = s.intake := rfl
@[simp] theorem State.modPlan_tracker (s : State) (f : Plan → Plan) : (s.modPlan f).tracker = s.tracker := rfl
@[simp] theorem State.modPlan_plan (s : State) (f : Plan → Plan) : (s.modPlan f).plan = f s.plan := rfl
@[simp] theorem State.modPlan_playout (s : State) (f : Plan → Plan) : (s.modPlan f).playout = s.playout := rfl
@[simp] theorem State.modPlan_overlay (s : State) (f : Plan → Plan) : (s.modPlan f).overlay = s.overlay := rfl
@[simp] theorem State.modPlan_cue (s : State) (f : Plan → Plan) : (s.modPlan f).cue = s.cue := rfl
@[simp] theorem State.modPlan_air (s : State) (f : Plan → Plan) : (s.modPlan f).air = s.air := rfl
@[simp] theorem State.modPlan_source (s : State) (f : Plan → Plan) : (s.modPlan f).source = s.source := rfl
@[simp] theorem State.modPlan_agenda (s : State) (f : Plan → Plan) : (s.modPlan f).agenda = s.agenda := rfl
@[simp] theorem State.modPlan_pending (s : State) (f : Plan → Plan) : (s.modPlan f).pending = s.pending := rfl

/-! ### `State.modPlayout` -/

@[simp] theorem State.modPlayout_rstLow (s : State) (f : Playout → Playout) : (s.modPlayout f).rstLow = s.rstLow := rfl
@[simp] theorem State.modPlayout_timeline (s : State) (f : Playout → Playout) : (s.modPlayout f).timeline = s.timeline := rfl
@[simp] theorem State.modPlayout_store (s : State) (f : Playout → Playout) : (s.modPlayout f).store = s.store := rfl
@[simp] theorem State.modPlayout_intake (s : State) (f : Playout → Playout) : (s.modPlayout f).intake = s.intake := rfl
@[simp] theorem State.modPlayout_tracker (s : State) (f : Playout → Playout) : (s.modPlayout f).tracker = s.tracker := rfl
@[simp] theorem State.modPlayout_plan (s : State) (f : Playout → Playout) : (s.modPlayout f).plan = s.plan := rfl
@[simp] theorem State.modPlayout_playout (s : State) (f : Playout → Playout) : (s.modPlayout f).playout = f s.playout := rfl
@[simp] theorem State.modPlayout_overlay (s : State) (f : Playout → Playout) : (s.modPlayout f).overlay = s.overlay := rfl
@[simp] theorem State.modPlayout_cue (s : State) (f : Playout → Playout) : (s.modPlayout f).cue = s.cue := rfl
@[simp] theorem State.modPlayout_air (s : State) (f : Playout → Playout) : (s.modPlayout f).air = s.air := rfl
@[simp] theorem State.modPlayout_source (s : State) (f : Playout → Playout) : (s.modPlayout f).source = s.source := rfl
@[simp] theorem State.modPlayout_agenda (s : State) (f : Playout → Playout) : (s.modPlayout f).agenda = s.agenda := rfl
@[simp] theorem State.modPlayout_pending (s : State) (f : Playout → Playout) : (s.modPlayout f).pending = s.pending := rfl

/-! ### `State.modOverlay` -/

@[simp] theorem State.modOverlay_rstLow (s : State) (f : Overlay → Overlay) : (s.modOverlay f).rstLow = s.rstLow := rfl
@[simp] theorem State.modOverlay_timeline (s : State) (f : Overlay → Overlay) : (s.modOverlay f).timeline = s.timeline := rfl
@[simp] theorem State.modOverlay_store (s : State) (f : Overlay → Overlay) : (s.modOverlay f).store = s.store := rfl
@[simp] theorem State.modOverlay_intake (s : State) (f : Overlay → Overlay) : (s.modOverlay f).intake = s.intake := rfl
@[simp] theorem State.modOverlay_tracker (s : State) (f : Overlay → Overlay) : (s.modOverlay f).tracker = s.tracker := rfl
@[simp] theorem State.modOverlay_plan (s : State) (f : Overlay → Overlay) : (s.modOverlay f).plan = s.plan := rfl
@[simp] theorem State.modOverlay_playout (s : State) (f : Overlay → Overlay) : (s.modOverlay f).playout = s.playout := rfl
@[simp] theorem State.modOverlay_overlay (s : State) (f : Overlay → Overlay) : (s.modOverlay f).overlay = f s.overlay := rfl
@[simp] theorem State.modOverlay_cue (s : State) (f : Overlay → Overlay) : (s.modOverlay f).cue = s.cue := rfl
@[simp] theorem State.modOverlay_air (s : State) (f : Overlay → Overlay) : (s.modOverlay f).air = s.air := rfl
@[simp] theorem State.modOverlay_source (s : State) (f : Overlay → Overlay) : (s.modOverlay f).source = s.source := rfl
@[simp] theorem State.modOverlay_agenda (s : State) (f : Overlay → Overlay) : (s.modOverlay f).agenda = s.agenda := rfl
@[simp] theorem State.modOverlay_pending (s : State) (f : Overlay → Overlay) : (s.modOverlay f).pending = s.pending := rfl

/-! ### `State.modCueEngine` -/

@[simp] theorem State.modCueEngine_rstLow (s : State) (f : CueEngine → CueEngine) : (s.modCueEngine f).rstLow = s.rstLow := rfl
@[simp] theorem State.modCueEngine_timeline (s : State) (f : CueEngine → CueEngine) : (s.modCueEngine f).timeline = s.timeline := rfl
@[simp] theorem State.modCueEngine_store (s : State) (f : CueEngine → CueEngine) : (s.modCueEngine f).store = s.store := rfl
@[simp] theorem State.modCueEngine_intake (s : State) (f : CueEngine → CueEngine) : (s.modCueEngine f).intake = s.intake := rfl
@[simp] theorem State.modCueEngine_tracker (s : State) (f : CueEngine → CueEngine) : (s.modCueEngine f).tracker = s.tracker := rfl
@[simp] theorem State.modCueEngine_plan (s : State) (f : CueEngine → CueEngine) : (s.modCueEngine f).plan = s.plan := rfl
@[simp] theorem State.modCueEngine_playout (s : State) (f : CueEngine → CueEngine) : (s.modCueEngine f).playout = s.playout := rfl
@[simp] theorem State.modCueEngine_overlay (s : State) (f : CueEngine → CueEngine) : (s.modCueEngine f).overlay = s.overlay := rfl
@[simp] theorem State.modCueEngine_cue (s : State) (f : CueEngine → CueEngine) : (s.modCueEngine f).cue = f s.cue := rfl
@[simp] theorem State.modCueEngine_air (s : State) (f : CueEngine → CueEngine) : (s.modCueEngine f).air = s.air := rfl
@[simp] theorem State.modCueEngine_source (s : State) (f : CueEngine → CueEngine) : (s.modCueEngine f).source = s.source := rfl
@[simp] theorem State.modCueEngine_agenda (s : State) (f : CueEngine → CueEngine) : (s.modCueEngine f).agenda = s.agenda := rfl
@[simp] theorem State.modCueEngine_pending (s : State) (f : CueEngine → CueEngine) : (s.modCueEngine f).pending = s.pending := rfl

/-! ### `State.modAir` -/

@[simp] theorem State.modAir_rstLow (s : State) (f : AirLink → AirLink) : (s.modAir f).rstLow = s.rstLow := rfl
@[simp] theorem State.modAir_timeline (s : State) (f : AirLink → AirLink) : (s.modAir f).timeline = s.timeline := rfl
@[simp] theorem State.modAir_store (s : State) (f : AirLink → AirLink) : (s.modAir f).store = s.store := rfl
@[simp] theorem State.modAir_intake (s : State) (f : AirLink → AirLink) : (s.modAir f).intake = s.intake := rfl
@[simp] theorem State.modAir_tracker (s : State) (f : AirLink → AirLink) : (s.modAir f).tracker = s.tracker := rfl
@[simp] theorem State.modAir_plan (s : State) (f : AirLink → AirLink) : (s.modAir f).plan = s.plan := rfl
@[simp] theorem State.modAir_playout (s : State) (f : AirLink → AirLink) : (s.modAir f).playout = s.playout := rfl
@[simp] theorem State.modAir_overlay (s : State) (f : AirLink → AirLink) : (s.modAir f).overlay = s.overlay := rfl
@[simp] theorem State.modAir_cue (s : State) (f : AirLink → AirLink) : (s.modAir f).cue = s.cue := rfl
@[simp] theorem State.modAir_air (s : State) (f : AirLink → AirLink) : (s.modAir f).air = f s.air := rfl
@[simp] theorem State.modAir_source (s : State) (f : AirLink → AirLink) : (s.modAir f).source = s.source := rfl
@[simp] theorem State.modAir_agenda (s : State) (f : AirLink → AirLink) : (s.modAir f).agenda = s.agenda := rfl
@[simp] theorem State.modAir_pending (s : State) (f : AirLink → AirLink) : (s.modAir f).pending = s.pending := rfl

/-! ### `State.modSource` -/

@[simp] theorem State.modSource_rstLow (s : State) (f : SourceLink → SourceLink) : (s.modSource f).rstLow = s.rstLow := rfl
@[simp] theorem State.modSource_timeline (s : State) (f : SourceLink → SourceLink) : (s.modSource f).timeline = s.timeline := rfl
@[simp] theorem State.modSource_store (s : State) (f : SourceLink → SourceLink) : (s.modSource f).store = s.store := rfl
@[simp] theorem State.modSource_intake (s : State) (f : SourceLink → SourceLink) : (s.modSource f).intake = s.intake := rfl
@[simp] theorem State.modSource_tracker (s : State) (f : SourceLink → SourceLink) : (s.modSource f).tracker = s.tracker := rfl
@[simp] theorem State.modSource_plan (s : State) (f : SourceLink → SourceLink) : (s.modSource f).plan = s.plan := rfl
@[simp] theorem State.modSource_playout (s : State) (f : SourceLink → SourceLink) : (s.modSource f).playout = s.playout := rfl
@[simp] theorem State.modSource_overlay (s : State) (f : SourceLink → SourceLink) : (s.modSource f).overlay = s.overlay := rfl
@[simp] theorem State.modSource_cue (s : State) (f : SourceLink → SourceLink) : (s.modSource f).cue = s.cue := rfl
@[simp] theorem State.modSource_air (s : State) (f : SourceLink → SourceLink) : (s.modSource f).air = s.air := rfl
@[simp] theorem State.modSource_source (s : State) (f : SourceLink → SourceLink) : (s.modSource f).source = f s.source := rfl
@[simp] theorem State.modSource_agenda (s : State) (f : SourceLink → SourceLink) : (s.modSource f).agenda = s.agenda := rfl
@[simp] theorem State.modSource_pending (s : State) (f : SourceLink → SourceLink) : (s.modSource f).pending = s.pending := rfl

/-! ### `State.modAgenda` -/

@[simp] theorem State.modAgenda_rstLow (s : State) (f : Agenda → Agenda) : (s.modAgenda f).rstLow = s.rstLow := rfl
@[simp] theorem State.modAgenda_timeline (s : State) (f : Agenda → Agenda) : (s.modAgenda f).timeline = s.timeline := rfl
@[simp] theorem State.modAgenda_store (s : State) (f : Agenda → Agenda) : (s.modAgenda f).store = s.store := rfl
@[simp] theorem State.modAgenda_intake (s : State) (f : Agenda → Agenda) : (s.modAgenda f).intake = s.intake := rfl
@[simp] theorem State.modAgenda_tracker (s : State) (f : Agenda → Agenda) : (s.modAgenda f).tracker = s.tracker := rfl
@[simp] theorem State.modAgenda_plan (s : State) (f : Agenda → Agenda) : (s.modAgenda f).plan = s.plan := rfl
@[simp] theorem State.modAgenda_playout (s : State) (f : Agenda → Agenda) : (s.modAgenda f).playout = s.playout := rfl
@[simp] theorem State.modAgenda_overlay (s : State) (f : Agenda → Agenda) : (s.modAgenda f).overlay = s.overlay := rfl
@[simp] theorem State.modAgenda_cue (s : State) (f : Agenda → Agenda) : (s.modAgenda f).cue = s.cue := rfl
@[simp] theorem State.modAgenda_air (s : State) (f : Agenda → Agenda) : (s.modAgenda f).air = s.air := rfl
@[simp] theorem State.modAgenda_source (s : State) (f : Agenda → Agenda) : (s.modAgenda f).source = s.source := rfl
@[simp] theorem State.modAgenda_agenda (s : State) (f : Agenda → Agenda) : (s.modAgenda f).agenda = f s.agenda := rfl
@[simp] theorem State.modAgenda_pending (s : State) (f : Agenda → Agenda) : (s.modAgenda f).pending = s.pending := rfl

/-! ### `State.modZone` -/

@[simp] theorem State.modZone_rstLow (s : State) (z : ZoneNo) (f : ZoneRun → ZoneRun) :
    (s.modZone z f).rstLow = s.rstLow := rfl
@[simp] theorem State.modZone_timeline (s : State) (z : ZoneNo) (f : ZoneRun → ZoneRun) :
    (s.modZone z f).timeline = s.timeline := rfl
@[simp] theorem State.modZone_store (s : State) (z : ZoneNo) (f : ZoneRun → ZoneRun) :
    (s.modZone z f).store = s.store := rfl
@[simp] theorem State.modZone_intake (s : State) (z : ZoneNo) (f : ZoneRun → ZoneRun) :
    (s.modZone z f).intake = s.intake := rfl
@[simp] theorem State.modZone_tracker (s : State) (z : ZoneNo) (f : ZoneRun → ZoneRun) :
    (s.modZone z f).tracker = s.tracker := rfl
@[simp] theorem State.modZone_plan (s : State) (z : ZoneNo) (f : ZoneRun → ZoneRun) :
    (s.modZone z f).plan = s.plan := rfl
@[simp] theorem State.modZone_playout (s : State) (z : ZoneNo) (f : ZoneRun → ZoneRun) :
    (s.modZone z f).playout = { s.playout with zones := tblMod s.playout.zones z f } := rfl
@[simp] theorem State.modZone_overlay (s : State) (z : ZoneNo) (f : ZoneRun → ZoneRun) :
    (s.modZone z f).overlay = s.overlay := rfl
@[simp] theorem State.modZone_cue (s : State) (z : ZoneNo) (f : ZoneRun → ZoneRun) :
    (s.modZone z f).cue = s.cue := rfl
@[simp] theorem State.modZone_air (s : State) (z : ZoneNo) (f : ZoneRun → ZoneRun) :
    (s.modZone z f).air = s.air := rfl
@[simp] theorem State.modZone_source (s : State) (z : ZoneNo) (f : ZoneRun → ZoneRun) :
    (s.modZone z f).source = s.source := rfl
@[simp] theorem State.modZone_agenda (s : State) (z : ZoneNo) (f : ZoneRun → ZoneRun) :
    (s.modZone z f).agenda = s.agenda := rfl
@[simp] theorem State.modZone_pending (s : State) (z : ZoneNo) (f : ZoneRun → ZoneRun) :
    (s.modZone z f).pending = s.pending := rfl

/-! ### `State.modSpeaker` -/

@[simp] theorem State.modSpeaker_rstLow (s : State) (sp : SpeakerNo) (f : SpeakerRun → SpeakerRun) :
    (s.modSpeaker sp f).rstLow = s.rstLow := rfl
@[simp] theorem State.modSpeaker_timeline (s : State) (sp : SpeakerNo) (f : SpeakerRun → SpeakerRun) :
    (s.modSpeaker sp f).timeline = s.timeline := rfl
@[simp] theorem State.modSpeaker_store (s : State) (sp : SpeakerNo) (f : SpeakerRun → SpeakerRun) :
    (s.modSpeaker sp f).store = s.store := rfl
@[simp] theorem State.modSpeaker_intake (s : State) (sp : SpeakerNo) (f : SpeakerRun → SpeakerRun) :
    (s.modSpeaker sp f).intake = s.intake := rfl
@[simp] theorem State.modSpeaker_tracker (s : State) (sp : SpeakerNo) (f : SpeakerRun → SpeakerRun) :
    (s.modSpeaker sp f).tracker = s.tracker := rfl
@[simp] theorem State.modSpeaker_plan (s : State) (sp : SpeakerNo) (f : SpeakerRun → SpeakerRun) :
    (s.modSpeaker sp f).plan = s.plan := rfl
@[simp] theorem State.modSpeaker_playout (s : State) (sp : SpeakerNo) (f : SpeakerRun → SpeakerRun) :
    (s.modSpeaker sp f).playout = { s.playout with speakers := tblMod s.playout.speakers sp f } := rfl
@[simp] theorem State.modSpeaker_overlay (s : State) (sp : SpeakerNo) (f : SpeakerRun → SpeakerRun) :
    (s.modSpeaker sp f).overlay = s.overlay := rfl
@[simp] theorem State.modSpeaker_cue (s : State) (sp : SpeakerNo) (f : SpeakerRun → SpeakerRun) :
    (s.modSpeaker sp f).cue = s.cue := rfl
@[simp] theorem State.modSpeaker_air (s : State) (sp : SpeakerNo) (f : SpeakerRun → SpeakerRun) :
    (s.modSpeaker sp f).air = s.air := rfl
@[simp] theorem State.modSpeaker_source (s : State) (sp : SpeakerNo) (f : SpeakerRun → SpeakerRun) :
    (s.modSpeaker sp f).source = s.source := rfl
@[simp] theorem State.modSpeaker_agenda (s : State) (sp : SpeakerNo) (f : SpeakerRun → SpeakerRun) :
    (s.modSpeaker sp f).agenda = s.agenda := rfl
@[simp] theorem State.modSpeaker_pending (s : State) (sp : SpeakerNo) (f : SpeakerRun → SpeakerRun) :
    (s.modSpeaker sp f).pending = s.pending := rfl

/-! ### `State.modTap` -/

@[simp] theorem State.modTap_rstLow (s : State) (f : Tap → Tap) :
    (s.modTap f).rstLow = s.rstLow := rfl
@[simp] theorem State.modTap_timeline (s : State) (f : Tap → Tap) :
    (s.modTap f).timeline = s.timeline := rfl
@[simp] theorem State.modTap_store (s : State) (f : Tap → Tap) :
    (s.modTap f).store = s.store := rfl
@[simp] theorem State.modTap_intake (s : State) (f : Tap → Tap) :
    (s.modTap f).intake = s.intake := rfl
@[simp] theorem State.modTap_tracker (s : State) (f : Tap → Tap) :
    (s.modTap f).tracker = s.tracker := rfl
@[simp] theorem State.modTap_plan (s : State) (f : Tap → Tap) :
    (s.modTap f).plan = s.plan := rfl
@[simp] theorem State.modTap_playout (s : State) (f : Tap → Tap) :
    (s.modTap f).playout = { s.playout with tap := f s.playout.tap } := rfl
@[simp] theorem State.modTap_overlay (s : State) (f : Tap → Tap) :
    (s.modTap f).overlay = s.overlay := rfl
@[simp] theorem State.modTap_cue (s : State) (f : Tap → Tap) :
    (s.modTap f).cue = s.cue := rfl
@[simp] theorem State.modTap_air (s : State) (f : Tap → Tap) :
    (s.modTap f).air = s.air := rfl
@[simp] theorem State.modTap_source (s : State) (f : Tap → Tap) :
    (s.modTap f).source = s.source := rfl
@[simp] theorem State.modTap_agenda (s : State) (f : Tap → Tap) :
    (s.modTap f).agenda = s.agenda := rfl
@[simp] theorem State.modTap_pending (s : State) (f : Tap → Tap) :
    (s.modTap f).pending = s.pending := rfl

/-! ### `State.modEntry` -/

@[simp] theorem State.modEntry_rstLow (s : State) (e : EntryNo) (f : TrackerEntry → TrackerEntry) :
    (s.modEntry e f).rstLow = s.rstLow := rfl
@[simp] theorem State.modEntry_timeline (s : State) (e : EntryNo) (f : TrackerEntry → TrackerEntry) :
    (s.modEntry e f).timeline = s.timeline := rfl
@[simp] theorem State.modEntry_store (s : State) (e : EntryNo) (f : TrackerEntry → TrackerEntry) :
    (s.modEntry e f).store = s.store := rfl
@[simp] theorem State.modEntry_intake (s : State) (e : EntryNo) (f : TrackerEntry → TrackerEntry) :
    (s.modEntry e f).intake = s.intake := rfl
@[simp] theorem State.modEntry_tracker (s : State) (e : EntryNo) (f : TrackerEntry → TrackerEntry) :
    (s.modEntry e f).tracker = { s.tracker with entries := tblMod s.tracker.entries e f } := rfl
@[simp] theorem State.modEntry_plan (s : State) (e : EntryNo) (f : TrackerEntry → TrackerEntry) :
    (s.modEntry e f).plan = s.plan := rfl
@[simp] theorem State.modEntry_playout (s : State) (e : EntryNo) (f : TrackerEntry → TrackerEntry) :
    (s.modEntry e f).playout = s.playout := rfl
@[simp] theorem State.modEntry_overlay (s : State) (e : EntryNo) (f : TrackerEntry → TrackerEntry) :
    (s.modEntry e f).overlay = s.overlay := rfl
@[simp] theorem State.modEntry_cue (s : State) (e : EntryNo) (f : TrackerEntry → TrackerEntry) :
    (s.modEntry e f).cue = s.cue := rfl
@[simp] theorem State.modEntry_air (s : State) (e : EntryNo) (f : TrackerEntry → TrackerEntry) :
    (s.modEntry e f).air = s.air := rfl
@[simp] theorem State.modEntry_source (s : State) (e : EntryNo) (f : TrackerEntry → TrackerEntry) :
    (s.modEntry e f).source = s.source := rfl
@[simp] theorem State.modEntry_agenda (s : State) (e : EntryNo) (f : TrackerEntry → TrackerEntry) :
    (s.modEntry e f).agenda = s.agenda := rfl
@[simp] theorem State.modEntry_pending (s : State) (e : EntryNo) (f : TrackerEntry → TrackerEntry) :
    (s.modEntry e f).pending = s.pending := rfl

/-! ### `State.modStream` -/

@[simp] theorem State.modStream_rstLow (s : State) (st : StreamNo) (f : Stream → Stream) :
    (s.modStream st f).rstLow = s.rstLow := rfl
@[simp] theorem State.modStream_timeline (s : State) (st : StreamNo) (f : Stream → Stream) :
    (s.modStream st f).timeline = s.timeline := rfl
@[simp] theorem State.modStream_store (s : State) (st : StreamNo) (f : Stream → Stream) :
    (s.modStream st f).store = s.store := rfl
@[simp] theorem State.modStream_intake (s : State) (st : StreamNo) (f : Stream → Stream) :
    (s.modStream st f).intake = { s.intake with streams := tblMod s.intake.streams st f } := rfl
@[simp] theorem State.modStream_tracker (s : State) (st : StreamNo) (f : Stream → Stream) :
    (s.modStream st f).tracker = s.tracker := rfl
@[simp] theorem State.modStream_plan (s : State) (st : StreamNo) (f : Stream → Stream) :
    (s.modStream st f).plan = s.plan := rfl
@[simp] theorem State.modStream_playout (s : State) (st : StreamNo) (f : Stream → Stream) :
    (s.modStream st f).playout = s.playout := rfl
@[simp] theorem State.modStream_overlay (s : State) (st : StreamNo) (f : Stream → Stream) :
    (s.modStream st f).overlay = s.overlay := rfl
@[simp] theorem State.modStream_cue (s : State) (st : StreamNo) (f : Stream → Stream) :
    (s.modStream st f).cue = s.cue := rfl
@[simp] theorem State.modStream_air (s : State) (st : StreamNo) (f : Stream → Stream) :
    (s.modStream st f).air = s.air := rfl
@[simp] theorem State.modStream_source (s : State) (st : StreamNo) (f : Stream → Stream) :
    (s.modStream st f).source = s.source := rfl
@[simp] theorem State.modStream_agenda (s : State) (st : StreamNo) (f : Stream → Stream) :
    (s.modStream st f).agenda = s.agenda := rfl
@[simp] theorem State.modStream_pending (s : State) (st : StreamNo) (f : Stream → Stream) :
    (s.modStream st f).pending = s.pending := rfl

/-! ### `State.modCueRun` -/

@[simp] theorem State.modCueRun_rstLow (s : State) (z : ZoneNo) (f : CueRun → CueRun) :
    (s.modCueRun z f).rstLow = s.rstLow := rfl
@[simp] theorem State.modCueRun_timeline (s : State) (z : ZoneNo) (f : CueRun → CueRun) :
    (s.modCueRun z f).timeline = s.timeline := rfl
@[simp] theorem State.modCueRun_store (s : State) (z : ZoneNo) (f : CueRun → CueRun) :
    (s.modCueRun z f).store = s.store := rfl
@[simp] theorem State.modCueRun_intake (s : State) (z : ZoneNo) (f : CueRun → CueRun) :
    (s.modCueRun z f).intake = s.intake := rfl
@[simp] theorem State.modCueRun_tracker (s : State) (z : ZoneNo) (f : CueRun → CueRun) :
    (s.modCueRun z f).tracker = s.tracker := rfl
@[simp] theorem State.modCueRun_plan (s : State) (z : ZoneNo) (f : CueRun → CueRun) :
    (s.modCueRun z f).plan = s.plan := rfl
@[simp] theorem State.modCueRun_playout (s : State) (z : ZoneNo) (f : CueRun → CueRun) :
    (s.modCueRun z f).playout = s.playout := rfl
@[simp] theorem State.modCueRun_overlay (s : State) (z : ZoneNo) (f : CueRun → CueRun) :
    (s.modCueRun z f).overlay = s.overlay := rfl
@[simp] theorem State.modCueRun_cue (s : State) (z : ZoneNo) (f : CueRun → CueRun) :
    (s.modCueRun z f).cue = { s.cue with runs := tblMod s.cue.runs z f } := rfl
@[simp] theorem State.modCueRun_air (s : State) (z : ZoneNo) (f : CueRun → CueRun) :
    (s.modCueRun z f).air = s.air := rfl
@[simp] theorem State.modCueRun_source (s : State) (z : ZoneNo) (f : CueRun → CueRun) :
    (s.modCueRun z f).source = s.source := rfl
@[simp] theorem State.modCueRun_agenda (s : State) (z : ZoneNo) (f : CueRun → CueRun) :
    (s.modCueRun z f).agenda = s.agenda := rfl
@[simp] theorem State.modCueRun_pending (s : State) (z : ZoneNo) (f : CueRun → CueRun) :
    (s.modCueRun z f).pending = s.pending := rfl

/-! ### `State.modMark` -/

@[simp] theorem State.modMark_rstLow (s : State) (k : MarkNo) (f : Mark → Mark) :
    (s.modMark k f).rstLow = s.rstLow := rfl
@[simp] theorem State.modMark_timeline (s : State) (k : MarkNo) (f : Mark → Mark) :
    (s.modMark k f).timeline = { s.timeline with marks := tblMod s.timeline.marks k f } := rfl
@[simp] theorem State.modMark_store (s : State) (k : MarkNo) (f : Mark → Mark) :
    (s.modMark k f).store = s.store := rfl
@[simp] theorem State.modMark_intake (s : State) (k : MarkNo) (f : Mark → Mark) :
    (s.modMark k f).intake = s.intake := rfl
@[simp] theorem State.modMark_tracker (s : State) (k : MarkNo) (f : Mark → Mark) :
    (s.modMark k f).tracker = s.tracker := rfl
@[simp] theorem State.modMark_plan (s : State) (k : MarkNo) (f : Mark → Mark) :
    (s.modMark k f).plan = s.plan := rfl
@[simp] theorem State.modMark_playout (s : State) (k : MarkNo) (f : Mark → Mark) :
    (s.modMark k f).playout = s.playout := rfl
@[simp] theorem State.modMark_overlay (s : State) (k : MarkNo) (f : Mark → Mark) :
    (s.modMark k f).overlay = s.overlay := rfl
@[simp] theorem State.modMark_cue (s : State) (k : MarkNo) (f : Mark → Mark) :
    (s.modMark k f).cue = s.cue := rfl
@[simp] theorem State.modMark_air (s : State) (k : MarkNo) (f : Mark → Mark) :
    (s.modMark k f).air = s.air := rfl
@[simp] theorem State.modMark_source (s : State) (k : MarkNo) (f : Mark → Mark) :
    (s.modMark k f).source = s.source := rfl
@[simp] theorem State.modMark_agenda (s : State) (k : MarkNo) (f : Mark → Mark) :
    (s.modMark k f).agenda = s.agenda := rfl
@[simp] theorem State.modMark_pending (s : State) (k : MarkNo) (f : Mark → Mark) :
    (s.modMark k f).pending = s.pending := rfl

/-! ### `State.setClaimStack` -/

@[simp] theorem State.setClaimStack_rstLow (s : State) (sp : SpeakerNo) (l : List CellNo) :
    (s.setClaimStack sp l).rstLow = s.rstLow := rfl
@[simp] theorem State.setClaimStack_timeline (s : State) (sp : SpeakerNo) (l : List CellNo) :
    (s.setClaimStack sp l).timeline = s.timeline := rfl
@[simp] theorem State.setClaimStack_store (s : State) (sp : SpeakerNo) (l : List CellNo) :
    (s.setClaimStack sp l).store = s.store := rfl
@[simp] theorem State.setClaimStack_intake (s : State) (sp : SpeakerNo) (l : List CellNo) :
    (s.setClaimStack sp l).intake = s.intake := rfl
@[simp] theorem State.setClaimStack_tracker (s : State) (sp : SpeakerNo) (l : List CellNo) :
    (s.setClaimStack sp l).tracker = s.tracker := rfl
@[simp] theorem State.setClaimStack_plan (s : State) (sp : SpeakerNo) (l : List CellNo) :
    (s.setClaimStack sp l).plan = s.plan := rfl
@[simp] theorem State.setClaimStack_playout (s : State) (sp : SpeakerNo) (l : List CellNo) :
    (s.setClaimStack sp l).playout = s.playout := rfl
@[simp] theorem State.setClaimStack_overlay (s : State) (sp : SpeakerNo) (l : List CellNo) :
    (s.setClaimStack sp l).overlay = { s.overlay with claimStacks := tblSet s.overlay.claimStacks sp l } := rfl
@[simp] theorem State.setClaimStack_cue (s : State) (sp : SpeakerNo) (l : List CellNo) :
    (s.setClaimStack sp l).cue = s.cue := rfl
@[simp] theorem State.setClaimStack_air (s : State) (sp : SpeakerNo) (l : List CellNo) :
    (s.setClaimStack sp l).air = s.air := rfl
@[simp] theorem State.setClaimStack_source (s : State) (sp : SpeakerNo) (l : List CellNo) :
    (s.setClaimStack sp l).source = s.source := rfl
@[simp] theorem State.setClaimStack_agenda (s : State) (sp : SpeakerNo) (l : List CellNo) :
    (s.setClaimStack sp l).agenda = s.agenda := rfl
@[simp] theorem State.setClaimStack_pending (s : State) (sp : SpeakerNo) (l : List CellNo) :
    (s.setClaimStack sp l).pending = s.pending := rfl

/-! ### `State.modClaimCounters` -/

@[simp] theorem State.modClaimCounters_rstLow (s : State) (z : ZoneNo) (f : ClaimCounters → ClaimCounters) :
    (s.modClaimCounters z f).rstLow = s.rstLow := rfl
@[simp] theorem State.modClaimCounters_timeline (s : State) (z : ZoneNo) (f : ClaimCounters → ClaimCounters) :
    (s.modClaimCounters z f).timeline = s.timeline := rfl
@[simp] theorem State.modClaimCounters_store (s : State) (z : ZoneNo) (f : ClaimCounters → ClaimCounters) :
    (s.modClaimCounters z f).store = s.store := rfl
@[simp] theorem State.modClaimCounters_intake (s : State) (z : ZoneNo) (f : ClaimCounters → ClaimCounters) :
    (s.modClaimCounters z f).intake = s.intake := rfl
@[simp] theorem State.modClaimCounters_tracker (s : State) (z : ZoneNo) (f : ClaimCounters → ClaimCounters) :
    (s.modClaimCounters z f).tracker = s.tracker := rfl
@[simp] theorem State.modClaimCounters_plan (s : State) (z : ZoneNo) (f : ClaimCounters → ClaimCounters) :
    (s.modClaimCounters z f).plan = s.plan := rfl
@[simp] theorem State.modClaimCounters_playout (s : State) (z : ZoneNo) (f : ClaimCounters → ClaimCounters) :
    (s.modClaimCounters z f).playout = s.playout := rfl
@[simp] theorem State.modClaimCounters_overlay (s : State) (z : ZoneNo) (f : ClaimCounters → ClaimCounters) :
    (s.modClaimCounters z f).overlay = { s.overlay with counters := tblMod s.overlay.counters z f } := rfl
@[simp] theorem State.modClaimCounters_cue (s : State) (z : ZoneNo) (f : ClaimCounters → ClaimCounters) :
    (s.modClaimCounters z f).cue = s.cue := rfl
@[simp] theorem State.modClaimCounters_air (s : State) (z : ZoneNo) (f : ClaimCounters → ClaimCounters) :
    (s.modClaimCounters z f).air = s.air := rfl
@[simp] theorem State.modClaimCounters_source (s : State) (z : ZoneNo) (f : ClaimCounters → ClaimCounters) :
    (s.modClaimCounters z f).source = s.source := rfl
@[simp] theorem State.modClaimCounters_agenda (s : State) (z : ZoneNo) (f : ClaimCounters → ClaimCounters) :
    (s.modClaimCounters z f).agenda = s.agenda := rfl
@[simp] theorem State.modClaimCounters_pending (s : State) (z : ZoneNo) (f : ClaimCounters → ClaimCounters) :
    (s.modClaimCounters z f).pending = s.pending := rfl

/-! ### `State.modAirCounters` -/

@[simp] theorem State.modAirCounters_rstLow (s : State) (sp : SpeakerNo) (f : AirCounters → AirCounters) :
    (s.modAirCounters sp f).rstLow = s.rstLow := rfl
@[simp] theorem State.modAirCounters_timeline (s : State) (sp : SpeakerNo) (f : AirCounters → AirCounters) :
    (s.modAirCounters sp f).timeline = s.timeline := rfl
@[simp] theorem State.modAirCounters_store (s : State) (sp : SpeakerNo) (f : AirCounters → AirCounters) :
    (s.modAirCounters sp f).store = s.store := rfl
@[simp] theorem State.modAirCounters_intake (s : State) (sp : SpeakerNo) (f : AirCounters → AirCounters) :
    (s.modAirCounters sp f).intake = s.intake := rfl
@[simp] theorem State.modAirCounters_tracker (s : State) (sp : SpeakerNo) (f : AirCounters → AirCounters) :
    (s.modAirCounters sp f).tracker = s.tracker := rfl
@[simp] theorem State.modAirCounters_plan (s : State) (sp : SpeakerNo) (f : AirCounters → AirCounters) :
    (s.modAirCounters sp f).plan = s.plan := rfl
@[simp] theorem State.modAirCounters_playout (s : State) (sp : SpeakerNo) (f : AirCounters → AirCounters) :
    (s.modAirCounters sp f).playout = s.playout := rfl
@[simp] theorem State.modAirCounters_overlay (s : State) (sp : SpeakerNo) (f : AirCounters → AirCounters) :
    (s.modAirCounters sp f).overlay = s.overlay := rfl
@[simp] theorem State.modAirCounters_cue (s : State) (sp : SpeakerNo) (f : AirCounters → AirCounters) :
    (s.modAirCounters sp f).cue = s.cue := rfl
@[simp] theorem State.modAirCounters_air (s : State) (sp : SpeakerNo) (f : AirCounters → AirCounters) :
    (s.modAirCounters sp f).air = { s.air with counters := tblMod s.air.counters sp f } := rfl
@[simp] theorem State.modAirCounters_source (s : State) (sp : SpeakerNo) (f : AirCounters → AirCounters) :
    (s.modAirCounters sp f).source = s.source := rfl
@[simp] theorem State.modAirCounters_agenda (s : State) (sp : SpeakerNo) (f : AirCounters → AirCounters) :
    (s.modAirCounters sp f).agenda = s.agenda := rfl
@[simp] theorem State.modAirCounters_pending (s : State) (sp : SpeakerNo) (f : AirCounters → AirCounters) :
    (s.modAirCounters sp f).pending = s.pending := rfl

/-! ### `State.setCell` -/

@[simp] theorem State.setCell_rstLow (s : State) (c : CellNo) (x : Cell) :
    (s.setCell c x).rstLow = s.rstLow := rfl
@[simp] theorem State.setCell_timeline (s : State) (c : CellNo) (x : Cell) :
    (s.setCell c x).timeline = s.timeline := rfl
@[simp] theorem State.setCell_store (s : State) (c : CellNo) (x : Cell) :
    (s.setCell c x).store = { s.store with cells := tblSet s.store.cells c x } := rfl
@[simp] theorem State.setCell_intake (s : State) (c : CellNo) (x : Cell) :
    (s.setCell c x).intake = s.intake := rfl
@[simp] theorem State.setCell_tracker (s : State) (c : CellNo) (x : Cell) :
    (s.setCell c x).tracker = s.tracker := rfl
@[simp] theorem State.setCell_plan (s : State) (c : CellNo) (x : Cell) :
    (s.setCell c x).plan = s.plan := rfl
@[simp] theorem State.setCell_playout (s : State) (c : CellNo) (x : Cell) :
    (s.setCell c x).playout = s.playout := rfl
@[simp] theorem State.setCell_overlay (s : State) (c : CellNo) (x : Cell) :
    (s.setCell c x).overlay = s.overlay := rfl
@[simp] theorem State.setCell_cue (s : State) (c : CellNo) (x : Cell) :
    (s.setCell c x).cue = s.cue := rfl
@[simp] theorem State.setCell_air (s : State) (c : CellNo) (x : Cell) :
    (s.setCell c x).air = s.air := rfl
@[simp] theorem State.setCell_source (s : State) (c : CellNo) (x : Cell) :
    (s.setCell c x).source = s.source := rfl
@[simp] theorem State.setCell_agenda (s : State) (c : CellNo) (x : Cell) :
    (s.setCell c x).agenda = s.agenda := rfl
@[simp] theorem State.setCell_pending (s : State) (c : CellNo) (x : Cell) :
    (s.setCell c x).pending = s.pending := rfl

/-! ### `State.setAccessed` -/

@[simp] theorem State.setAccessed_rstLow (s : State) (sp : SpeakerNo) (b : Bool) :
    (s.setAccessed sp b).rstLow = s.rstLow := rfl
@[simp] theorem State.setAccessed_timeline (s : State) (sp : SpeakerNo) (b : Bool) :
    (s.setAccessed sp b).timeline = s.timeline := rfl
@[simp] theorem State.setAccessed_store (s : State) (sp : SpeakerNo) (b : Bool) :
    (s.setAccessed sp b).store = s.store := rfl
@[simp] theorem State.setAccessed_intake (s : State) (sp : SpeakerNo) (b : Bool) :
    (s.setAccessed sp b).intake = s.intake := rfl
@[simp] theorem State.setAccessed_tracker (s : State) (sp : SpeakerNo) (b : Bool) :
    (s.setAccessed sp b).tracker = s.tracker := rfl
@[simp] theorem State.setAccessed_plan (s : State) (sp : SpeakerNo) (b : Bool) :
    (s.setAccessed sp b).plan = { s.plan with accessed := tblSet s.plan.accessed sp b } := rfl
@[simp] theorem State.setAccessed_playout (s : State) (sp : SpeakerNo) (b : Bool) :
    (s.setAccessed sp b).playout = s.playout := rfl
@[simp] theorem State.setAccessed_overlay (s : State) (sp : SpeakerNo) (b : Bool) :
    (s.setAccessed sp b).overlay = s.overlay := rfl
@[simp] theorem State.setAccessed_cue (s : State) (sp : SpeakerNo) (b : Bool) :
    (s.setAccessed sp b).cue = s.cue := rfl
@[simp] theorem State.setAccessed_air (s : State) (sp : SpeakerNo) (b : Bool) :
    (s.setAccessed sp b).air = s.air := rfl
@[simp] theorem State.setAccessed_source (s : State) (sp : SpeakerNo) (b : Bool) :
    (s.setAccessed sp b).source = s.source := rfl
@[simp] theorem State.setAccessed_agenda (s : State) (sp : SpeakerNo) (b : Bool) :
    (s.setAccessed sp b).agenda = s.agenda := rfl
@[simp] theorem State.setAccessed_pending (s : State) (sp : SpeakerNo) (b : Bool) :
    (s.setAccessed sp b).pending = s.pending := rfl

/-! ### `State.withPending` -/

@[simp] theorem State.withPending_rstLow (s : State) (l : List Instr) :
    (s.withPending l).rstLow = s.rstLow := rfl
@[simp] theorem State.withPending_timeline (s : State) (l : List Instr) :
    (s.withPending l).timeline = s.timeline := rfl
@[simp] theorem State.withPending_store (s : State) (l : List Instr) :
    (s.withPending l).store = s.store := rfl
@[simp] theorem State.withPending_intake (s : State) (l : List Instr) :
    (s.withPending l).intake = s.intake := rfl
@[simp] theorem State.withPending_tracker (s : State) (l : List Instr) :
    (s.withPending l).tracker = s.tracker := rfl
@[simp] theorem State.withPending_plan (s : State) (l : List Instr) :
    (s.withPending l).plan = s.plan := rfl
@[simp] theorem State.withPending_playout (s : State) (l : List Instr) :
    (s.withPending l).playout = s.playout := rfl
@[simp] theorem State.withPending_overlay (s : State) (l : List Instr) :
    (s.withPending l).overlay = s.overlay := rfl
@[simp] theorem State.withPending_cue (s : State) (l : List Instr) :
    (s.withPending l).cue = s.cue := rfl
@[simp] theorem State.withPending_air (s : State) (l : List Instr) :
    (s.withPending l).air = s.air := rfl
@[simp] theorem State.withPending_source (s : State) (l : List Instr) :
    (s.withPending l).source = s.source := rfl
@[simp] theorem State.withPending_agenda (s : State) (l : List Instr) :
    (s.withPending l).agenda = s.agenda := rfl
@[simp] theorem State.withPending_pending (s : State) (l : List Instr) :
    (s.withPending l).pending = l := rfl

end Sys2Proof.Machine
end

