-- ==== Sys2Proof/Laws/Tables.lean ====
section
/-! SUPPORT. Reading a table after an element of it was written (Machine/Ops.lean), and the same for the
named readings of the state. -/

namespace Sys2Proof.Machine

open Sys2Proof

variable {α β : Type} {n : Nat}

/-! ### Tables -/

@[simp] theorem tblGet_tblSet_same (t : Vector α n) (i : Fin n) (x : α) :
    tblGet (tblSet t i x) i = x := by simp [tblGet, tblSet]

theorem tblGet_tblSet_other (t : Vector α n) {i j : Fin n} (x : α) (h : i ≠ j) :
    tblGet (tblSet t i x) j = tblGet t j := by
  have : i.val ≠ j.val := fun e => h (Fin.ext e)
  simp [tblGet, tblSet, this]

/-- What one place of a table holds after another, or the same, was written. -/
theorem tblGet_tblSet (t : Vector α n) (i j : Fin n) (x : α) :
    tblGet (tblSet t i x) j = if i = j then x else tblGet t j := by
  by_cases h : i = j
  · subst h; simp
  · simp [h, tblGet_tblSet_other t x h]

@[simp] theorem tblGet_tblMod_same (t : Vector α n) (i : Fin n) (f : α → α) :
    tblGet (tblMod t i f) i = f (tblGet t i) := by simp [tblMod]

theorem tblGet_tblMod (t : Vector α n) (i j : Fin n) (f : α → α) :
    tblGet (tblMod t i f) j = if i = j then f (tblGet t i) else tblGet t j := by
  simp [tblMod, tblGet_tblSet]

@[simp] theorem tblGet_tblMap (t : Vector α n) (f : α → β) (i : Fin n) :
    tblGet (tblMap t f) i = f (tblGet t i) := by simp [tblGet, tblMap]

@[simp] theorem tblGet_replicate (x : α) (i : Fin n) : tblGet (Vector.replicate n x) i = x := by
  simp [tblGet]

/-- Tables that agree in every place are equal. -/
theorem tbl_ext {t u : Vector α n} (h : ∀ i : Fin n, tblGet t i = tblGet u i) : t = u := by
  apply Vector.ext
  intro i hi
  exact h ⟨i, hi⟩

/-- Of two writes to one place the later stands. -/
@[simp] theorem tblSet_tblSet (t : Vector α n) (i : Fin n) (x y : α) :
    tblSet (tblSet t i x) i y = tblSet t i y := by
  apply tbl_ext
  intro j
  simp only [tblGet_tblSet]
  split <;> rfl

/-! ### The named readings after the named writes -/

@[simp] theorem State.zone_modZone (s : State) (z y : ZoneNo) (f : ZoneRun → ZoneRun) :
    (s.modZone z f).zone y = if z = y then f (s.zone z) else s.zone y := tblGet_tblMod _ _ _ _

@[simp] theorem State.speaker_modSpeaker (s : State) (a b : SpeakerNo) (f : SpeakerRun → SpeakerRun) :
    (s.modSpeaker a f).speaker b = if a = b then f (s.speaker a) else s.speaker b :=
  tblGet_tblMod _ _ _ _

@[simp] theorem State.entry_modEntry (s : State) (a b : EntryNo) (f : TrackerEntry → TrackerEntry) :
    (s.modEntry a f).entry b = if a = b then f (s.entry a) else s.entry b := tblGet_tblMod _ _ _ _

@[simp] theorem State.stream_modStream (s : State) (a b : StreamNo) (f : Stream → Stream) :
    (s.modStream a f).stream b = if a = b then f (s.stream a) else s.stream b := tblGet_tblMod _ _ _ _

@[simp] theorem State.cueRun_modCueRun (s : State) (a b : ZoneNo) (f : CueRun → CueRun) :
    (s.modCueRun a f).cueRun b = if a = b then f (s.cueRun a) else s.cueRun b := tblGet_tblMod _ _ _ _

@[simp] theorem State.mark_modMark (s : State) (a b : MarkNo) (f : Mark → Mark) :
    (s.modMark a f).mark b = if a = b then f (s.mark a) else s.mark b := tblGet_tblMod _ _ _ _

@[simp] theorem State.claimStack_setClaimStack (s : State) (a b : SpeakerNo) (l : List CellNo) :
    (s.setClaimStack a l).claimStack b = if a = b then l else s.claimStack b := tblGet_tblSet _ _ _ _

/-- Read after write of a cell: the cell written reads as written, every other as before. -/
@[simp] theorem State.cell_setCell (s : State) (c d : CellNo) (x : Cell) :
    (s.setCell c x).cell d = if c = d then x else s.cell d := tblGet_tblSet _ _ _ _

/-- Read after write of an accessed flag. -/
theorem State.accessed_setAccessed (s : State) (a b : SpeakerNo) (v : Bool) :
    tblGet (s.setAccessed a v).plan.accessed b = if a = b then v else tblGet s.plan.accessed b :=
  tblGet_tblSet _ _ _ _

/-! ### Work taken for each of a list -/

@[simp] theorem State.forEach_nil (s : State) (f : α → State → State) : s.forEach [] f = s := rfl

@[simp] theorem State.forEach_cons (s : State) (a : α) (l : List α) (f : α → State → State) :
    s.forEach (a :: l) f = (f a s).forEach l f := rfl

/-- A property that each single work keeps holds after all of them. -/
theorem State.forEach_keeps {P : State → Prop} (l : List α) (f : α → State → State)
    (step : ∀ a s, P s → P (f a s)) : ∀ s, P s → P (s.forEach l f) := by
  induction l with
  | nil => exact fun _ h => h
  | cons a l ih => exact fun s h => ih (f a s) (step a s h)

/-- What each single work leaves as it is, all of them leave as it is. -/
theorem State.forEach_unchanged {γ : Type} (g : State → γ) (l : List α) (f : α → State → State)
    (step : ∀ a s, g (f a s) = g s) (s : State) : g (s.forEach l f) = g s :=
  State.forEach_keeps (P := fun t => g t = g s) l f (fun a t h => (step a t).trans h) s rfl

end Sys2Proof.Machine
end

