-- ==== Sys2Proof/Laws/Agenda.lean ====
section
/-! SUPPORT. What each work of a boundary leaves of the agenda: its own item is gone, and it makes no other
due but the shares of a beacon notice. -/

namespace Sys2Proof.Machine

open Sys2Proof

set_option Elab.async false

theorem Only.agenda_eq {l : List Part} {s t : State} (h : Only l s t)
    (hl : l.contains .agenda = false := by decide) : t.agenda = s.agenda :=
  h.2.2 .agenda (by simpa using hl)

theorem Only.marks_eq {l : List Part} {s t : State} (h : Only l s t)
    (hl : l.contains .marks = false := by decide) (k : MarkNo) : t.mark k = s.mark k := by
  have e : t.timeline.marks = s.timeline.marks := h.2.2 .marks (by simpa using hl)
  unfold State.mark
  rw [e]

theorem takeSwap_agenda (s : State) :
    (takeSwap s).agenda = { s.agenda with swap := false, swapTaken := true } := by
  unfold takeSwap
  simp only []
  split
  · exact (Only.refuseSwap _ _).agenda_eq
  · exact (Only.completeSwap _).agenda_eq

theorem takeElection_agenda (s : State) :
    (takeElection s).agenda = { s.agenda with election := false } := by
  unfold takeElection
  simp only []
  split
  · split
    · split
      · exact (Only.elect _ _).agenda_eq
      · exact (Only.electNone _).agenda_eq
    · rfl
  · rename_i h
    rw [← Bool.eq_false_iff.mpr h]

theorem zoneWork_agenda (z : ZoneNo) (s : State) : (zoneWork z s).agenda = s.agenda :=
  (Only.zoneWork z s).agenda_eq

/-- A START, STOP or NOTIFY mark's action leaves the agenda alone. -/
theorem markAction_agenda (k : MarkNo) (mk : Mark) (s : State) (h : mk.action ≠ .swap) :
    (markAction k mk s).agenda = s.agenda := by
  unfold markAction
  split
  · exact (Only.markReport _ _ _ _ _).agenda_eq
  · exact absurd ‹_› h
  · split
    · exact (Only.markReport _ _ _ _ _).agenda_eq
    · split
      · exact (Only.markReport _ _ _ _ _).agenda_eq
      · exact ((Only.startZone _ _).then (m := [.zones, .cueRuns, .source, .tap])
          (Only.markReport _ _ _ _ _)).agenda_eq
  · split
    · exact (Only.markReport _ _ _ _ _).agenda_eq
    · exact ((Only.softStop _ _).then (m := .cueRuns :: workParts)
        (Only.markReport _ _ _ _ _)).agenda_eq

/-- No SWAP mark is due. -/
abbrev State.NoSwapMarkDue (s : State) : Prop :=
  ∀ k : MarkNo, tblGet s.agenda.marks k = true → (s.mark k).action ≠ .swap

theorem forEach_fireSwapMark (l : List MarkNo) (s : State) (h : s.NoSwapMarkDue) :
    s.forEach l fireSwapMark = s := by
  induction l with
  | nil => rfl
  | cons k l ih =>
      have e : fireSwapMark k s = s := by
        unfold fireSwapMark fireMark
        split
        · split
          · exact absurd ‹_› (h k ‹_›)
          · rfl
        · rfl
      rw [State.forEach_cons, e, ih]

theorem takeSwap_marks (s : State) (k : MarkNo) : (takeSwap s).mark k = s.mark k :=
  (Only.takeSwap s).marks_eq (by decide) k

theorem State.NoSwapMarkDue.takeSwap {s : State} (h : s.NoSwapMarkDue) :
    (takeSwap s).NoSwapMarkDue := by
  intro k hk
  rw [takeSwap_marks]
  exact h k (by simpa [takeSwap_agenda] using hk)

/-- With no SWAP mark due, the swap of the boundary is the pending one alone. -/
theorem settleSwap_eq (s : State) (h : s.NoSwapMarkDue) :
    settleSwap s = if s.agenda.swap then takeSwap s else s := by
  unfold settleSwap
  split
  · exact forEach_fireSwapMark _ _ h.takeSwap
  · exact forEach_fireSwapMark _ _ h

/-- With no swap and no SWAP mark due, nothing is settled. -/
theorem settleSwap_none (s : State) (h : s.NoSwapMarkDue) (hs : s.agenda.swap = false) :
    settleSwap s = s := by
  rw [settleSwap_eq s h, if_neg (by simp [hs])]

/-- What is settled stays settled. -/
theorem settleSwap_settled (s : State) (h : s.NoSwapMarkDue) :
    settleSwap (settleSwap s) = settleSwap s := by
  rw [settleSwap_eq s h]
  split
  · exact settleSwap_none _ h.takeSwap (by rw [takeSwap_agenda])
  · rename_i hs
    exact settleSwap_none _ h (by simpa using hs)

end Sys2Proof.Machine
end

