-- ==== Sys2Proof/Laws/Operands.lean ====
section
/-! SUPPORT. Operand forms: an operand that names an object is read as that object, a code as what it
stands for, and clamping is a minimum and a maximum. -/

namespace Sys2Proof.Machine

open Sys2Proof

@[simp] theorem zoneIndex_operandOf : ∀ z : ZoneNo, zoneIndex (operandOf z) = some z := by decide

@[simp] theorem markIndex_operandOf : ∀ k : MarkNo, markIndex (operandOf k) = some k := by decide

@[simp] theorem streamIndex_operandOf : ∀ st : StreamNo, streamIndex (operandOf st) = some st := by
  decide

@[simp] theorem speakerIndex_operandOf : ∀ sp : SpeakerNo, speakerIndex (operandOf sp) = some sp := by
  decide

@[simp] theorem roleOf_code (r : Role) : roleOf (BitVec.ofNat 8 r.code) = some r := by
  cases r <;> rfl

@[simp] theorem zoneKindOf_code (k : ZoneKind) : zoneKindOf (BitVec.ofNat 8 k.code) = some k := by
  cases k <;> rfl

@[simp] theorem streamClassOf_code (c : StreamClass) :
    streamClassOf (BitVec.ofNat 8 c.code) = some c := by cases c <;> rfl

@[simp] theorem markActionOf_code (a : MarkAction) :
    markActionOf (BitVec.ofNat 8 a.code) = some a := by cases a <;> rfl

/-- A role code is read where it is below 4. -/
theorem roleOf_isSome {b : Byte} (h : b.toNat < 4) : (roleOf b).isSome := by
  unfold roleOf
  have : b.toNat = 0 ∨ b.toNat = 1 ∨ b.toNat = 2 ∨ b.toNat = 3 := by omega
  rcases this with h | h | h | h <;> simp [h]

/-- A stream operand in range, or the code for none. -/
theorem optStreamIndex_read {b : Byte} (h : b.toNat < 16 ∨ b = 0xFF) :
    optStreamIndex b = some (if b = 0xFF then none else some (Fin.ofNat 16 b.toNat)) := by
  unfold optStreamIndex
  split
  · rfl
  · have h' : b.toNat < 16 := by tauto
    simp [streamIndex, h', Fin.ofNat, Nat.mod_eq_of_lt h']

/-- A zone operand in range, or the code for none. -/
theorem optZoneIndex_read {b : Byte} (h : b.toNat < 8 ∨ b = 0xFF) :
    optZoneIndex b = some (if b = 0xFF then none else some (Fin.ofNat 8 b.toNat)) := by
  unfold optZoneIndex
  split
  · rfl
  · have h' : b.toNat < 8 := by tauto
    simp [zoneIndex, h', Fin.ofNat, Nat.mod_eq_of_lt h']

/-- A cue index operand in range, or the code for none. -/
theorem optCueIndex_read {v : BitVec 16} (h : v.toNat < 512 ∨ v = 0xFFFF) :
    optCueIndex v = some (if v = 0xFFFF then none else some (BitVec.ofNat 9 v.toNat)) := by
  unfold optCueIndex
  split
  · rfl
  · have h' : v.toNat < 512 := by tauto
    simp [cueIndex, h']

/-- A zone operand in range. -/
theorem zoneIndex_read {b : Byte} (h : b.toNat < 8) : zoneIndex b = some (Fin.ofNat 8 b.toNat) := by
  simp [zoneIndex, h, Fin.ofNat, Nat.mod_eq_of_lt h]

/-- Clamping to a range that is not empty. -/
theorem clampNat_eq {lo hi v : Nat} (h : lo ≤ hi) : clampNat lo hi v = max lo (min hi v) := by
  unfold clampNat
  split
  · omega
  · split <;> omega

/-- A clamp to a range that begins at 0. -/
theorem clampNat_zero (hi v : Nat) : clampNat 0 hi v = min hi v := by
  rw [clampNat_eq (Nat.zero_le hi)]; omega

/-- Clamping to a range that is not empty. -/
theorem clampInt_eq {lo hi v : Int} (h : lo ≤ hi) : clampInt lo hi v = max lo (min hi v) := by
  unfold clampInt
  split
  · omega
  · split <;> omega

theorem clampRate_eq (v : Int) : clampRate v = max (-8192) (min 8192 v) := by
  unfold clampRate Config.rateLimit
  exact clampInt_eq (by decide)

/-- ρ and τ after a clamp are within their range. -/
theorem abs_clampRate_le (v : Int) : |clampRate v| ≤ Config.rateLimit := by
  rw [clampRate_eq, abs_le, Config.rateLimit]
  omega

/-- The saturating counters are those of the claims. -/
theorem bump_eq_counted (n k : Nat) : bump n k = counted n k := rfl

end Sys2Proof.Machine
end

