-- ==== Sys2Proof/Laws/AirQueue.lean ====
section
/-! SUPPORT. What handing a frame to the Air Link reads and writes, what a CUT does to its speaker, and the
arithmetic of a sample. -/

namespace Sys2Proof.Machine

open Sys2Proof

/-! ### The Air queue -/

/-- `u` and `s` agree in what the Air Link's operations read. -/
structure SameAir (u s : State) : Prop where
  air : u.air = s.air
  block : u.timeline.block = s.timeline.block
  margin : u.store.refillMargin = s.store.refillMargin

theorem SameAir.refl (s : State) : SameAir s s := ⟨rfl, rfl, rfl⟩

theorem SameAir.withAir {u s : State} (h : SameAir u s) (a : AirLink) :
    SameAir { u with air := a } { s with air := a } := ⟨rfl, h.block, h.margin⟩

theorem selectAudio_reads (l : List AudioItem) (u s : State) (h : SameAir u s) :
    selectAudio l u = { u with air := (selectAudio l s).air } := by
  induction l generalizing u s with
  | nil => simp only [selectAudio, State.modAir, h.air]
  | cons i l ih =>
    have now : u.block = s.block := h.block
    simp only [selectAudio, now, h.margin]
    split
    · rw [ih (u.modAirCounters i.speaker fun c => { c with lateDiscards := bump c.lateDiscards 1 })
        (s.modAirCounters i.speaker fun c => { c with lateDiscards := bump c.lateDiscards 1 })
        ⟨by simp [State.modAirCounters, State.modAir, h.air], h.block, h.margin⟩]
      rfl
    · simp only [State.modAir, h.air]

theorem selectAir_reads (u s : State) (h : SameAir u s) :
    selectAir u = { u with air := (selectAir s).air } := by
  unfold selectAir
  rw [h.air]
  split
  · split
    · simp only [State.modAir, h.air]
    · exact selectAudio_reads _ _ _ h
  · rw [← h.air]

theorem placeControl_reads (f : ControlFrame) (u s : State) (h : SameAir u s) :
    placeControl f u = { u with air := (placeControl f s).air } := by
  unfold placeControl queueControl countAirDrop State.modAirCounters State.modAir
  simp only [h.air]
  split
  · rfl
  · split <;> rfl

theorem purge_reads (sp : SpeakerNo) (address : AirAddress) (block : Nat) (u s : State)
    (h : SameAir u s) : purge sp address block u = { u with air := (purge sp address block s).air } := by
  unfold purge State.modAirCounters State.modAir
  simp only [h.air]

theorem placeAudio_reads (i : AudioItem) (u s : State) (h : SameAir u s) :
    placeAudio i u = { u with air := (placeAudio i s).air } := by
  unfold placeAudio queueAudio countAirDrop State.modAirCounters State.modAir
  simp only [h.air]
  split
  · rfl
  · split
    · rfl
    · split <;> rfl

/-- A CUT is handed over by what the Air Link, the block and the refill margin say, and writes the Air Link
alone. -/
theorem handCut_reads (sp : SpeakerNo) (address : AirAddress) (stamp : LocalCount) (block : Nat)
    (u s : State) (h : SameAir u s) :
    handCut sp address stamp block u = { u with air := (handCut sp address stamp block s).air } := by
  unfold handCut
  rw [h.air]
  split
  · rw [purge_reads sp address block u s h, purge_reads sp address block s s (.refl s)]
    have purged := h.withAir (purge sp address block s).air
    rw [placeControl_reads _ _ _ purged,
      placeControl_reads _ { s with air := (purge sp address block s).air } _ (.refl _),
      selectAir_reads _ _ (purged.withAir _)]
  · simp only [countDown, State.modAir, h.air]

theorem handCut_air (sp : SpeakerNo) (address : AirAddress) (stamp : LocalCount) (block : Nat)
    (s : State) :
    handCut sp address stamp block s = { s with air := (handCut sp address stamp block s).air } :=
  handCut_reads sp address stamp block s s (.refl s)

/-- So is an audio frame. -/
theorem handAudio_reads (i : AudioItem) (u s : State) (h : SameAir u s) :
    handAudio i u = { u with air := (handAudio i s).air } := by
  unfold handAudio
  rw [h.air]
  split
  · rw [placeAudio_reads i u s h, placeAudio_reads i s s (.refl s),
      selectAir_reads _ _ (h.withAir (placeAudio i s).air)]
  · simp only [countDown, State.modAir, h.air]

theorem handAudio_air (i : AudioItem) (s : State) :
    handAudio i s = { s with air := (handAudio i s).air } := handAudio_reads i s s (.refl s)

/-! ### A speaker that is CUT, and one that joins -/

/-- A CUT: its frame, and what it leaves of the speaker (R130). -/
theorem cutAt_eq (sp : SpeakerNo) (address : AirAddress) (s : State) :
    let limit := s.timeline.block + s.store.refillMargin
    cutAt sp address s =
      { s with
        air := (handCut sp address (s.stamp sp limit) limit s).air
        playout :=
          { s.playout with
            speakers := tblSet s.playout.speakers sp
              { s.speaker sp with
                horizon := limit - 1, rampPending := true
                cuts := counted (s.speaker sp).cuts 1 } } } := by
  intro limit
  unfold cutAt
  simp only []
  rw [handCut_air]
  rfl

/-- A speaker that is sent nothing joins by its ramp alone (R127, R129). -/
theorem join_unheard (sp : SpeakerNo) (s : State) (h : ¬ s.hears sp) :
    join sp s = setRampPending sp s := by
  have deaf : s.eligible sp = false := by
    unfold State.eligible
    unfold State.hears at h
    rcases k : (s.entry (speakerEntry sp)).state <;> simp_all
  unfold join
  split
  · rfl
  · rw [if_neg]
    simp [deaf]

/-! ### Samples -/

/-- The product of R125, rounded at the half and saturated to 24 bits. -/
theorem applyGain_toInt (x g : Int) :
    (applyGain x g).toInt = max (-8388608) (min 8388607 ((x * g + 8192) / 16384)) := by
  unfold applyGain
  rw [clampInt_eq (by decide)]
  unfold floorDiv
  rw [Int.fdiv_eq_ediv_of_nonneg _ (by decide), BitVec.toInt_ofInt]
  generalize (x * g + 8192) / 16384 = w
  have high : max (-8388608) (min 8388607 w) ≤ 8388607 := by omega
  have low : -8388608 ≤ max (-8388608) (min 8388607 w) := by omega
  generalize max (-8388608) (min 8388607 w) = v at *
  simp only [Int.bmod]
  omega

end Sys2Proof.Machine
end

