-- ==== Sys2Proof/Laws/PerInstr.lean ====
section
/-! SUPPORT. Statements about every command, one lemma per constructor. -/

namespace Sys2Proof.Laws.DirectiveLength

open Sys2Proof

set_option Elab.async false

/-- Every directive fits a DIRECTIVE frame: its operands are at most the 130 bytes that a body of 134 bytes
leaves them (R203). -/
def Statement (i : Instr) : Prop :=
  ∀ kind d ops, i.wellFormed = true → directiveBytes i = some (kind, d, ops) → ops.length ≤ 130

theorem toBytes_length (n v : Nat) : (toBytes n v).length = n := by
  induction n with
  | zero => rfl
  | succ n ih => simp [toBytes, ih]

theorem rstNRelease : Statement (.rstNRelease) := by
  intro k e o _ h
  cases h

theorem blockBoundary : ∀ a0 a1, Statement (.blockBoundary a0 a1) := by
  intro a0 a1 k e o _ h
  cases h

theorem beacon : ∀ a0, Statement (.beacon a0) := by
  intro a0 k e o _ h
  cases h

theorem election : Statement (.election) := by
  intro k e o _ h
  cases h

theorem markFiring : ∀ a0, Statement (.markFiring a0) := by
  intro a0 k e o _ h
  cases h

theorem waitRunsOut : ∀ a0, Statement (.waitRunsOut a0) := by
  intro a0 k e o _ h
  cases h

theorem silenceStale : ∀ a0, Statement (.silenceStale a0) := by
  intro a0 k e o _ h
  cases h

theorem silenceLost : ∀ a0, Statement (.silenceLost a0) := by
  intro a0 k e o _ h
  cases h

theorem sourceFrame : ∀ a0, Statement (.sourceFrame a0) := by
  intro a0 k e o _ h
  cases h

theorem echo : ∀ a0, Statement (.echo a0) := by
  intro a0 k e o _ h
  cases h

theorem unknownDirectiveKind : ∀ a0 a1 a2, Statement (.unknownDirectiveKind a0 a1 a2) := by
  intro kind d ops k e o hw h
  cases h
  exact (by simpa [Instr.wellFormed, spellsNoDirective] using hw : _ ∧ ops.length ≤ 130).2

theorem identify : ∀ a0, Statement (.identify a0) := by
  intro a0 k e o _ h
  cases h
  simp

theorem queryDevice : ∀ a0, Statement (.queryDevice a0) := by
  intro a0 k e o _ h
  cases h
  simp

theorem restart : ∀ a0, Statement (.restart a0) := by
  intro a0 k e o _ h
  cases h
  simp

theorem setTimebaseLocal : ∀ a0 a1 a2 a3, Statement (.setTimebaseLocal a0 a1 a2 a3) := by
  intro a0 a1 a2 a3 k e o _ h
  cases h
  simp [toBytes_length]

theorem setTimebaseFastest : ∀ a0 a1 a2, Statement (.setTimebaseFastest a0 a1 a2) := by
  intro a0 a1 a2 k e o _ h
  cases h
  simp [toBytes_length]

theorem setBeacon : ∀ a0 a1, Statement (.setBeacon a0 a1) := by
  intro a0 a1 k e o _ h
  cases h
  simp

theorem armMark : ∀ a0 a1 a2 a3 a4, Statement (.armMark a0 a1 a2 a3 a4) := by
  intro a0 a1 a2 a3 a4 k e o _ h
  cases h
  simp [toBytes_length]

theorem disarmMark : ∀ a0 a1, Statement (.disarmMark a0 a1) := by
  intro a0 a1 k e o _ h
  cases h
  simp

theorem openStream : ∀ a0 a1 a2 a3 a4 a5, Statement (.openStream a0 a1 a2 a3 a4 a5) := by
  intro a0 a1 a2 a3 a4 a5 k e o _ h
  cases h
  simp [toBytes_length]

theorem closeStream : ∀ a0 a1, Statement (.closeStream a0 a1) := by
  intro a0 a1 k e o _ h
  cases h
  simp

theorem flushStream : ∀ a0 a1, Statement (.flushStream a0 a1) := by
  intro a0 a1 k e o _ h
  cases h
  simp

theorem queryStream : ∀ a0 a1, Statement (.queryStream a0 a1) := by
  intro a0 a1 k e o _ h
  cases h
  simp

theorem stageZone : ∀ a0 a1, Statement (.stageZone a0 a1) := by
  intro a0 a1 k e o _ h
  cases h
  simp [toBytes_length]

theorem stageSpeaker : ∀ a0 a1, Statement (.stageSpeaker a0 a1) := by
  intro a0 a1 k e o _ h
  cases h
  simp [toBytes_length]

theorem unstage : ∀ a0, Statement (.unstage a0) := by
  intro a0 k e o _ h
  cases h
  simp

theorem swap : ∀ a0, Statement (.swap a0) := by
  intro a0 k e o _ h
  cases h
  simp

theorem queryZone : ∀ a0 a1, Statement (.queryZone a0 a1) := by
  intro a0 a1 k e o _ h
  cases h
  simp

theorem querySpeaker : ∀ a0 a1, Statement (.querySpeaker a0 a1) := by
  intro a0 a1 k e o _ h
  cases h
  simp

theorem startZone : ∀ a0 a1, Statement (.startZone a0 a1) := by
  intro a0 a1 k e o _ h
  cases h
  simp

theorem stopZoneSoft : ∀ a0 a1 a2, Statement (.stopZoneSoft a0 a1 a2) := by
  intro a0 a1 a2 k e o _ h
  cases h
  simp

theorem stopZoneHard : ∀ a0 a1, Statement (.stopZoneHard a0 a1) := by
  intro a0 a1 k e o _ h
  cases h
  simp

theorem setLevel : ∀ a0 a1 a2 a3, Statement (.setLevel a0 a1 a2 a3) := by
  intro a0 a1 a2 a3 k e o _ h
  cases h
  simp [toBytes_length]

theorem setTrim : ∀ a0 a1 a2 a3, Statement (.setTrim a0 a1 a2 a3) := by
  intro a0 a1 a2 a3 k e o _ h
  cases h
  simp [toBytes_length]

theorem pollAccessed : ∀ a0, Statement (.pollAccessed a0) := by
  intro a0 k e o _ h
  cases h
  simp

theorem resyncSpeaker : ∀ a0 a1, Statement (.resyncSpeaker a0 a1) := by
  intro a0 a1 k e o _ h
  cases h
  simp

theorem setTracking : ∀ a0 a1, Statement (.setTracking a0 a1) := by
  intro a0 a1 k e o _ h
  cases h
  simp [toBytes_length]

theorem setStore : ∀ a0 a1 a2 a3, Statement (.setStore a0 a1 a2 a3) := by
  intro a0 a1 a2 a3 k e o _ h
  cases h
  simp [toBytes_length]

theorem queryStore : ∀ a0, Statement (.queryStore a0) := by
  intro a0 k e o _ h
  cases h
  simp

theorem writeCues : ∀ a0 a1 a2, Statement (.writeCues a0 a1 a2) := by
  intro d start words k e o hw h
  cases h
  have hw : 1 ≤ words.length ∧ words.length ≤ 32 := by
    simpa [Instr.wellFormed, wordCountPasses] using hw
  simp only [List.length_append, List.length_flatMap, toBytes_length, List.map_const', List.sum_replicate, smul_eq_mul]
  omega

theorem cueGo : ∀ a0 a1 a2, Statement (.cueGo a0 a1 a2) := by
  intro a0 a1 a2 k e o _ h
  cases h
  simp [toBytes_length]

theorem cueHalt : ∀ a0 a1, Statement (.cueHalt a0 a1) := by
  intro a0 a1 k e o _ h
  cases h
  simp

theorem cueResume : ∀ a0 a1, Statement (.cueResume a0 a1) := by
  intro a0 a1 k e o _ h
  cases h
  simp

theorem setPrescale : ∀ a0 a1 a2, Statement (.setPrescale a0 a1 a2) := by
  intro a0 a1 a2 k e o _ h
  cases h
  simp [toBytes_length]

theorem armTap : ∀ a0 a1, Statement (.armTap a0 a1) := by
  intro a0 a1 k e o _ h
  cases h
  simp

theorem disarmTap : ∀ a0 a1, Statement (.disarmTap a0 a1) := by
  intro a0 a1 k e o _ h
  cases h
  simp

theorem sourceLinkDown : Statement (.sourceLinkDown) := by
  intro k e o _ h
  cases h

theorem sourceLinkUp : Statement (.sourceLinkUp) := by
  intro k e o _ h
  cases h

theorem airLinkDown : Statement (.airLinkDown) := by
  intro k e o _ h
  cases h

theorem airLinkUp : Statement (.airLinkUp) := by
  intro k e o _ h
  cases h

theorem airSendComplete : Statement (.airSendComplete) := by
  intro k e o _ h
  cases h

theorem sourceSendComplete : Statement (.sourceSendComplete) := by
  intro k e o _ h
  cases h

theorem malformedFrame : ∀ a0 a1 a2, Statement (.malformedFrame a0 a1 a2) := by
  intro a0 a1 a2 k e o _ h
  cases h

theorem rstNAssertion : Statement (.rstNAssertion) := by
  intro k e o _ h
  cases h

end Sys2Proof.Laws.DirectiveLength
end

