-- ==== Sys2Proof/Laws/Reports.lean ====
section
/-! SUPPORT. What the operations on the Report Queue and on the transmit side of the Source Link can do. -/

namespace Sys2Proof.Machine

open Sys2Proof

/-- `t` is `s` but for the Source Link and the tap buffer, which a selection may take from. -/
def OnlyReports (s t : State) : Prop :=
  ∃ l b, t = { s with source := l, playout := { s.playout with tap := { s.playout.tap with buffer := b } } }

theorem OnlyReports.refl (s : State) : OnlyReports s s := ⟨s.source, s.playout.tap.buffer, rfl⟩

theorem OnlyReports.trans {s t u : State} (h : OnlyReports s t) (k : OnlyReports t u) :
    OnlyReports s u := by
  obtain ⟨l, b, rfl⟩ := h
  obtain ⟨l', b', rfl⟩ := k
  exact ⟨l', b', rfl⟩

theorem onlyReports_modSource (s : State) (f : SourceLink → SourceLink) :
    OnlyReports s (s.modSource f) := ⟨f s.source, s.playout.tap.buffer, rfl⟩

/-- A selection that begins nothing: the side is SENDING, or nothing waits, or the link is DOWN. -/
theorem selectSource_idle (s : State)
    (h : s.source.up = false ∨ s.source.sending.isSome
      ∨ (s.source.reports = [] ∧ s.playout.tap.buffer = [])) : selectSource s = s := by
  unfold selectSource
  rcases h with h | h | ⟨h, k⟩
  · simp [h]
  · cases hs : s.source.sending <;> simp_all
  · split <;> simp_all

/-- A selection of the oldest report (R197). -/
theorem selectSource_report (s : State) (r : Report) (rest : List Report) (up : s.source.up = true)
    (free : s.source.sending = none) (h : s.source.reports = r :: rest) :
    selectSource s =
      { s with source := { s.source with reports := rest, sending := some (.report r) } } := by
  simp [selectSource, up, free, h, State.modSource]

/-- A selection changes the Source Link and the tap buffer alone. -/
theorem selectSource_only (s : State) : OnlyReports s (selectSource s) := by
  unfold selectSource
  split
  · split
    · exact onlyReports_modSource _ _
    · exact ⟨_, _, rfl⟩
    · exact OnlyReports.refl s
  · exact OnlyReports.refl s

theorem offerEvent_only (code : EventCode) (subject : Nat) (payload : List Field) (s : State) :
    OnlyReports s (offerEvent code subject payload s) :=
  (onlyReports_modSource _ _).trans (selectSource_only _)

/-- A selection reads the Source Link and the tap alone. -/
theorem selectSource_reads (u s : State) (link : u.source = s.source)
    (same : u.playout.tap = s.playout.tap) :
    selectSource u =
      { u with
        source := (selectSource s).source
        playout := { u.playout with tap := (selectSource s).playout.tap } } := by
  rcases u with ⟨_, _, _, _, _, _, ⟨_, _, tap⟩, _, _, _, ⟨up, sending, reports, _, _, _, _, _⟩, _, _⟩
  rcases s with ⟨_, _, _, _, _, _, ⟨_, _, _⟩, _, _, _, _, _, _⟩
  simp only at link same
  subst link same
  unfold selectSource State.modSource State.modTap State.modPlayout
  rcases tap with ⟨_, buffer, _⟩
  cases up <;> cases sending <;> cases reports <;> cases buffer <;> rfl

/-- An event report is made of the Source Link, the tap and the block number alone. -/
theorem offerEvent_reads (u s : State) (code : EventCode) (subject : Nat) (payload : List Field)
    (link : u.source = s.source) (tap : u.playout.tap = s.playout.tap)
    (block : u.timeline.block = s.timeline.block) :
    offerEvent code subject payload u =
      { u with
        source := (offerEvent code subject payload s).source
        playout := { u.playout with tap := (offerEvent code subject payload s).playout.tap } } := by
  unfold offerEvent
  have now : u.block = s.block := block
  rw [selectSource_reads (u.modSource fun l => l.offerEvent code subject payload u.block)
    (s.modSource fun l => l.offerEvent code subject payload s.block)
    (by simp [State.modSource, link, now]) tap]
  rfl

theorem offerFirm_only (sort : ReportSort) (payload : List Field) (s : State) :
    OnlyReports s (offerFirm sort payload s) :=
  (onlyReports_modSource _ _).trans (selectSource_only _)

theorem reply_only (kind : Byte) (d : Header) (status : Status) (payload : List Field) (s : State) :
    OnlyReports s (reply kind d status payload s) := offerFirm_only _ _ _

theorem completeSource_only (s : State) : OnlyReports s (completeSource s) := by
  unfold completeSource
  split
  · exact OnlyReports.refl s
  · exact (onlyReports_modSource _ _).trans (selectSource_only _)
  · exact (onlyReports_modSource _ _).trans (selectSource_only _)

/-- The REPLY of a directive that the link takes and has room to answer (R192, R195 to R197). -/
theorem reply_answered (kind : Byte) (d : Header) (status : Status) (payload : List Field) (s : State)
    (up : s.source.up = true) (room : s.source.reports.length < Config.reportCapacity) :
    reply kind d status payload s = s.answered kind d status payload := by
  unfold reply offerFirm SourceLink.offerFirm
  simp only [room, ↓reduceIte, State.modSource, SourceLink.enter, State.answered,
    SourceLink.answered, State.block]
  cases hs : s.source.sending with
  | some f => rw [selectSource_idle]; right; left; simp
  | none =>
    cases hr : s.source.reports with
    | nil => rw [selectSource_report (h := rfl)] <;> simp_all
    | cons h q => rw [selectSource_report (h := rfl)] <;> simp_all

/-- The same for a part that listens. -/
theorem State.Listening.reply {s : State} (h : s.Listening) (kind : Byte) (d : Header)
    (status : Status) (payload : List Field) :
    Machine.reply kind d status payload s = s.answered kind d status payload :=
  reply_answered kind d status payload s h.2.1 h.2.2

/-- A directive that reaches the part. -/
theorem State.Listening.onSource {s : State} (h : s.Listening) (f : State → State) :
    s.onSource f = .next (f s) := by simp [State.onSource, h.1, h.2.1]

end Sys2Proof.Machine
end

