-- ==== Sys2Proof/Laws/Store.lean ====
section
/-! SUPPORT. What releases do to the Cell Store. -/

namespace Sys2Proof.Machine

open Sys2Proof

/-- The re-arming check sets the armed flag where the level is reached, and nothing else (R30). -/
theorem CellStore.rearm_eq (st : CellStore) :
    st.rearm =
      { st with
        depletionArmed :=
          st.depletionArmed || decide (min (st.depletionMark + 16) 1024 ≤ st.freeList.length) } := by
  unfold CellStore.rearm rearmLevel Config.rearmMargin Config.cellCount
  cases h : st.depletionArmed
  · by_cases k : min (st.depletionMark + 16) 1024 ≤ st.freeList.length
    · simp [k]
    · simp only [k, decide_false, Bool.and_false, Bool.false_eq_true, if_false, Bool.or_false]
      rw [← h]
  · simp only [Bool.not_true, Bool.false_and, Bool.false_eq_true, if_false, Bool.true_or]
    rw [← h]

/-- Releases of an empty list change nothing. -/
@[simp] theorem CellStore.released_nil (st : CellStore) : st.released [] = st := by
  simp [CellStore.released]

/-- One release before others. -/
theorem CellStore.released_cons (st : CellStore) (c : CellNo) (cs : List CellNo) :
    st.released (c :: cs) = (CellStore.rearm { st with freeList := c :: st.freeList }).released cs := by
  rw [CellStore.rearm_eq]
  simp only [CellStore.released, CellStore.mk.injEq, true_and, List.reverse_cons, List.append_assoc,
    List.cons_append, List.nil_append, List.length_cons, List.isEmpty_cons, Bool.not_false,
    Bool.true_and]
  cases cs with
  | nil => simp [Nat.add_comm]
  | cons d ds =>
      cases st.depletionArmed
      · simp only [Bool.false_or, List.isEmpty_cons, Bool.not_false, Bool.true_and, List.length_cons,
          ← Bool.decide_or]
        exact decide_eq_decide.mpr ⟨fun h => .inr (by omega), fun h => by omega⟩
      · simp

/-- Cells released one after another reach the Cell Store alone (R28, R30). -/
theorem releaseCells_eq (cs : List CellNo) (s : State) :
    releaseCells cs s = { s with store := s.store.released cs } := by
  unfold releaseCells
  induction cs generalizing s with
  | nil => simp
  | cons c cs ih => rw [State.forEach_cons, ih, CellStore.released_cons]; rfl

/-- Releases after releases. -/
theorem CellStore.released_append (st : CellStore) (a b : List CellNo) :
    (st.released a).released b = st.released (a ++ b) := by
  induction a generalizing st with
  | nil => simp
  | cons c a ih => rw [List.cons_append, CellStore.released_cons, CellStore.released_cons, ih]

end Sys2Proof.Machine
end

