-- ==== Sys2Proof/Machine/Layout.lean ====
section
/-! DEFINITION. The frames that the part sends, byte for byte (Tables 78, 79, 82, 83, 84, 87 and 88, R204):
what stands on a link while a transmit side is SENDING. No command reads these bytes. -/

namespace Sys2Proof.Machine

open Sys2Proof

/-- A frame: class code, body length, body (Table 78). -/
def frameBytes (cls : Byte) (body : List Byte) : List Byte := cls :: toBytes 2 body.length ++ body

/-- A payload field in its width, two's complement where it is negative (R204). -/
def Field.bytes (f : Field) : List Byte := toBytes f.width (f.value.emod (256 ^ f.width)).toNat

/-- Samples, three bytes each (chapter 11). -/
def sampleBytes (l : List Sample) : List Byte := l.flatMap fun x => toBytes 3 x.toNat

/-- The report kind code (Table 83). -/
def ReportSort.kindCode : ReportSort → Nat
  | .reply _ _ _ => 0
  | .event code _ => code.kind
  | .ready => 11

/-- The code byte: the status, the event code, or 0 for READY (Table 82). -/
def ReportSort.codeByte : ReportSort → Nat
  | .reply _ status _ => status.code
  | .event code _ => code.code
  | .ready => 0

/-- The subject byte: the directive kind, the object, or 0 for READY (Tables 73 and 82). -/
def ReportSort.subjectByte : ReportSort → Nat
  | .reply kind _ _ => kind.toNat
  | .event _ subject => subject
  | .ready => 0

/-- The tag, present in REPLY only (Table 82). -/
def ReportSort.tagBytes : ReportSort → List Byte
  | .reply _ _ tag => toBytes 2 tag.toNat
  | .event _ _ => []
  | .ready => []

/-- A REPORT body (Table 82). -/
def Report.bytes (r : Report) : List Byte :=
  [BitVec.ofNat 8 r.sort.kindCode, BitVec.ofNat 8 r.sort.codeByte, BitVec.ofNat 8 r.sort.subjectByte,
   BitVec.ofNat 8 (flagCode r.loss), BitVec.ofNat 8 r.count]
    ++ toBytes 6 r.block ++ r.sort.tagBytes ++ r.payload.flatMap Field.bytes

/-- A TAP body (Table 84). -/
def TapBlock.bytes (b : TapBlock) : List Byte :=
  [BitVec.ofNat 8 b.zone.val] ++ toBytes 2 b.number.toNat ++ toBytes 6 b.block ++ sampleBytes b.samples

/-- The frame being sent on the Source Link (Table 79). -/
def SourceSend.frame : SourceSend → List Byte
  | .report r => frameBytes 0x03 r.bytes
  | .tap b => frameBytes 0x04 b.bytes

/-- The flags of a PLAYOUT frame: RAMP_IN, RAMP_OUT, REPEAT, SILENT, BACKFILL, REFILL from bit 0 (Table
87). -/
def PlayoutFrame.flags (f : PlayoutFrame) : Nat :=
  flagCode f.rampIn + 2 * flagCode f.rampOut + 4 * flagCode (f.entryKind == .repeated)
    + 8 * flagCode (f.entryKind == .silent) + 16 * flagCode (f.audioKind == .backfill)
    + 32 * flagCode (f.audioKind == .refill)

/-- A PLAYOUT body (Table 87). -/
def PlayoutFrame.bytes (f : PlayoutFrame) : List Byte :=
  toBytes 2 f.address.toNat
    ++ [BitVec.ofNat 8 f.zone.val, BitVec.ofNat 8 f.role.code, BitVec.ofNat 8 f.flags]
    ++ toBytes 2 f.number.toNat ++ toBytes 4 f.stamp.toNat ++ toBytes 2 f.rate.toNat
    ++ sampleBytes f.samples

/-- A BEACON or CUT frame (Tables 79 and 88). -/
def ControlFrame.frame : ControlFrame → List Byte
  | .beacon number block interval =>
      frameBytes 0x13 (toBytes 2 number.toNat ++ toBytes 6 block ++ toBytes 1 interval)
  | .cut address stamp => frameBytes 0x12 (toBytes 2 address.toNat ++ toBytes 4 stamp.toNat)

/-- The frame being sent on the Air Link (Table 79). -/
def AirSend.frame : AirSend → List Byte
  | .control f => f.frame
  | .audio i => frameBytes 0x11 i.frame.bytes

/-- What stands on the Source Link, outbound. -/
def State.sourceFrameOut (s : State) : Option (List Byte) := s.source.sending.map SourceSend.frame

/-- What stands on the Air Link, outbound. -/
def State.airFrameOut (s : State) : Option (List Byte) := s.air.sending.map AirSend.frame

end Sys2Proof.Machine
end

