-- ==== Sys2Proof/Tests/Slice0.lean ====
section
/-! SUPPORT. Tests of single commands on small states, with expected values from the manual's worked
examples or counted by hand from its rules; the smoke tests of WellFormed; directives written out byte by
byte from Table 85. -/

namespace Sys2Proof.Tests

open Sys2Proof Sys2Proof.Machine

set_option Elab.async false

/-! ### States -/

/-- Rank 0, tag 7. -/
def d0 : Header := { rank := 0, tag := 7 }

/-- Rank 3, tag 7. -/
def d3 : Header := { rank := 3, tag := 7 }

/-- Both links UP. -/
def upState : State :=
  { State.reset with
    source := { SourceLink.reset with up := true }
    air := { AirLink.reset with up := true } }

/-- Block 10; stream 0 LIVE and stream 1 PACED present with quota 4; zone 0 present on stream 0 at rank 2;
speaker 0 present in zone 0 at rank 2, address 7. -/
def rich : State :=
  { upState with
    timeline := { Timeline.reset with count := 1280, block := 10, beaconLog := [(5, 8)] }
    intake :=
      { Intake.reset with
        streams :=
          tblSet (tblSet Intake.reset.streams 0 { Stream.reset with present := true, quota := 4 }) 1
            { Stream.reset with present := true, cls := .paced, quota := 4, demandMark := 2 } }
    plan :=
      { Plan.reset with
        active :=
          { zones :=
              tblSet Bank.reset.zones 0
                { ZoneDesc.reset with
                  present := true, rank := 2, stream := some 0, startLevel := 16384
                  cueEntry := some 40 }
            speakers :=
              tblSet Bank.reset.speakers 0
                { SpeakerDesc.reset 7 with present := true, rank := 2, plannedZone := some 0 } } }
    playout :=
      { Playout.reset with
        speakers := tblSet Playout.reset.speakers 0 { SpeakerRun.reset with zone := some 0 } } }

/-- A mono SOURCE frame of 128 samples of value `x`. -/
def monoFrame (stream : Byte) (seq : SerialNo) (x : Sample) : SourceFrame :=
  { stream := stream, seq := seq, sourceIndex := 0, lanes := 1, flags := 0
    samples := List.replicate 128 x }

/-- An echo from address 7 to beacon 5. -/
def echo5 : EchoFrame :=
  { address := 7, beacon := 5, count := 262400, flags := 0, gapZone := 0, gapCount := 0, issues := [] }

/-- What a command leaves of a part of the state; none where it does not answer a next state. -/
def after {α : Type} (c : Instr) (s : State) (f : State → α) : Option α :=
  match exec c s with
  | .next t => some (f t)
  | .fault _ => none
  | .refused _ => none

/-- The status of the reply that the Source Link is sending. -/
def sentStatus (s : State) : Option Status :=
  match s.source.sending with
  | some (.report { sort := .reply _ st _, .. }) => some st
  | _ => none

/-- The values that the payload of the report being sent carries. -/
def sentPayload (s : State) : List Int :=
  match s.source.sending with
  | some (.report r) => r.payload.map Field.value
  | _ => []

/-! ### WellFormed refuses what is no command of its row -/

theorem test_wf_boundary : (Instr.blockBoundary [] [.swap]).wellFormed = false := by decide

theorem test_wf_source_frame :
    (Instr.sourceFrame { monoFrame 0 0 0 with samples := [] }).wellFormed = false := by decide

theorem test_wf_echo : (Instr.echo { echo5 with gapCount := 1 }).wellFormed = false := by decide

theorem test_wf_unknown_directive :
    (Instr.unknownDirectiveKind 0x11 d0 [32]).wellFormed = false := by decide

theorem test_wf_timebase_mode : (Instr.setTimebaseLocal d0 1 0 0).wellFormed = false := by decide

theorem test_wf_stop_mode : (Instr.stopZoneSoft d0 0 1).wellFormed = false := by decide

theorem test_wf_no_words : (Instr.writeCues d0 0 []).wellFormed = false := by decide

theorem test_wf_many_words :
    (Instr.writeCues d0 0 (List.replicate 33 0)).wellFormed = false := by decide

theorem test_wf_malformed_frame :
    (Instr.malformedFrame .source 0x02 [0x01, 0, 0, 7]).wellFormed = false := by decide

/-! ### Directives byte by byte (Tables 81 and 85) -/

theorem test_bytes_identify : directiveOf 0x01 d0 [] = .identify d0 := by decide

theorem test_bytes_timebase :
    directiveOf 0x10 d0 [1, 0xFF, 0x88, 0x00, 0x88] = .setTimebaseFastest d0 0xFF88 0x0088 := by decide

theorem test_bytes_arm_mark :
    directiveOf 0x12 d0 [2, 0, 0, 0, 0, 0x10, 0x00, 2, 5] = .armMark d0 2 4096 2 5 := by decide

theorem test_bytes_open_stream :
    directiveOf 0x20 d0 [2, 1, 2, 0x00, 0x08, 0x00, 0x03] = .openStream d0 2 1 2 8 3 := by decide

theorem test_bytes_stage_zone :
    directiveOf 0x30 d0 [5, 1, 1, 2, 1, 3, 12, 6, 0x40, 0x00, 0x00, 0x28, 0x00, 0x00, 0x0E, 2]
      = .stageZone d0
          { zone := 5, present := 1, kind := 1, priority := 2, rank := 1, stream := 3, primeDepth := 12
            lead := 6, startLevel := 16384, cueEntry := 40, members := 14, overlayRole := 2 } := by
  decide

theorem test_bytes_stage_speaker :
    directiveOf 0x31 d0 [4, 1, 3, 0x12, 0x34, 0xFF, 1]
      = .stageSpeaker d0
          { speaker := 4, present := 1, rank := 3, address := 0x1234, plannedZone := 0xFF, role := 1 } := by
  decide

theorem test_bytes_stop_hard : directiveOf 0x41 d0 [1, 1] = .stopZoneHard d0 1 := by decide

theorem test_bytes_set_trim :
    directiveOf 0x43 d0 [4, 0x30, 0x00, 0x00, 0x0A, 0x00] = .setTrim d0 4 12288 2560 := by decide

theorem test_bytes_set_tracking :
    directiveOf 0x50 d0 [3, 2, 0x01, 0x00, 0x00, 0x40, 0x00, 4, 8, 64]
      = .setTracking d0
          { g := 3, h := 2, outlierLimit := 256, phaseLimit := 16384, acquireCount := 4
            staleLimit := 8, lostLimit := 64 } := by decide

theorem test_bytes_set_store : directiveOf 0x51 d0 [0x00, 0x30, 24, 2] = .setStore d0 48 24 2 := by
  decide

theorem test_bytes_write_cues :
    directiveOf 0x60 d0 [0x00, 0x28, 0x20, 0x00, 0x00, 0x04, 0x70, 0x00, 0x00, 0x00]
      = .writeCues d0 40 [0x20000004, 0x70000000] := by decide

theorem test_bytes_disarm_tap : directiveOf 0x71 d0 [3] = .disarmTap d0 3 := by decide

/-- A length that is not that of the kind, and a kind of no directive (R190). -/
theorem test_bytes_form :
    directiveOf 0x71 d0 [] = .unknownDirectiveKind 0x71 d0 []
      ∧ directiveOf 0x72 d0 [3] = .unknownDirectiveKind 0x72 d0 [3] := by decide

/-- Bits 7 to 2 of the rank byte are ignored (Table 81). -/
theorem test_bytes_header : parseHeader [0x33, 0xFE, 0x12, 0x34] = { rank := 2, tag := 0x1234 } := by
  decide

/-- An ECHO body (Table 88). -/
theorem test_bytes_echo :
    parseEcho [0, 7, 0, 5, 0, 4, 1, 0, 1, 0xFF, 1, 0, 9]
      = { address := 7, beacon := 5, count := 262400, flags := 1, gapZone := 0xFF, gapCount := 1
          issues := [9] } := by decide

/-- No row of the table has bits, so the first step after reset finds no command. -/
theorem test_fetch_word : State.reset.withFetchWord 8 0x01 = State.reset := rfl

/-! ### The part's own events -/

/-- T counts on within its block (R1). -/
theorem test_idle_counts :
    (match step State.reset with
      | .next t => t.timeline.count
      | _ => 0) = 1 := by decide +kernel

/-- Past the 48 bits of T nothing is said (log entry 1). -/
theorem test_boundary_exhausted :
    (match exec (.blockBoundary [] [])
        { State.reset with timeline := { Timeline.reset with block := 2 ^ 41 - 1 } } with
      | .fault f => some f
      | _ => none) = some .timelineExhausted := by decide +kernel

/-- Boundary 32 emits beacon 1 and logs it (R10, R11). -/
theorem test_boundary_beacon :
    after (.blockBoundary [] [])
      { upState with timeline := { Timeline.reset with block := 31, count := 3968 } }
      (fun t => (t.timeline.block, t.timeline.count, t.timeline.beaconNumber, t.timeline.beaconLog))
      = some (32, 4096, 1, [(1, 32)]) := by decide +kernel

/-- With its share put off, an entry of 7 quiet beacons waits for its own event, which makes it STALE
(R71). -/
theorem test_silence_stale :
    after (.silenceStale 5)
      (({ upState with
          agenda := { Agenda.reset with notices := tblSet Agenda.reset.notices 5 true } }).modEntry 5
        fun e => { e with state := .locked, silence := 7 })
      (fun t => ((t.entry 5).state, (t.entry 5).silence)) = some (.stale, 8) := by decide +kernel

theorem test_silence_lost :
    after (.silenceLost 5)
      (({ upState with
          agenda := { Agenda.reset with notices := tblSet Agenda.reset.notices 5 true } }).modEntry 5
        fun e => { e with state := .stale, silence := 63, rho := 9 })
      (fun t => ((t.entry 5).state, (t.entry 5).rho)) = some (.unlocked, 9) := by decide +kernel

/-- The first row of Table 7: τ slews from 120 by +64 toward stream 7, whose ρ is 95; a speaker at 804
becomes 740. -/
def election4096 : State :=
  { rich with
    timeline :=
      { rich.timeline with mode := .fastest, tau := 120, elected := some 1, candidates := 1 }
    tracker :=
      { rich.tracker with
        entries :=
          tblSet (tblSet rich.tracker.entries 24 { TrackerEntry.reset with state := .locked, rho := 95 }) 5
            { TrackerEntry.reset with state := .locked, rho := 804 } }
    agenda := { Agenda.reset with election := true } }

theorem test_election :
    after .election election4096
      (fun t => (t.timeline.tau, t.timeline.elected, (t.entry 24).rho, (t.entry 5).rho))
      = some (184, some 0, 31, 740) := by decide +kernel

/-- A mark armed for a block that has passed fires late (R13, R16). -/
def lateMark : State :=
  { rich with
    timeline :=
      { rich.timeline with
        marks :=
          tblSet rich.timeline.marks 2
            { armed := true, block := 9, action := .notify, zone := none, late := true } }
    agenda := { Agenda.reset with marks := tblSet Agenda.reset.marks 2 true } }

theorem test_mark_firing :
    after (.markFiring 2) lateMark (fun t => ((t.mark 2).armed, sentPayload t))
      = some (false, [0, 255, 9, 10, 1]) := by decide +kernel

/-- Zone 0 DRAINING with one entry left, its program waiting for one more count before a STOP. -/
def waiting : State :=
  { rich with
    playout :=
      { rich.playout with
        zones :=
          tblSet rich.playout.zones 0
            { ZoneRun.reset with
              state := .draining
              ring :=
                [{ number := 1, block := 11, kind := .silent, cell := none, gainStart := 0, gainEnd := 0
                   rampIn := false, rampOut := false }] } }
    cue :=
      { rich.cue with
        runs := tblSet rich.cue.runs 0 { CueRun.reset with status := .running, pointer := 40, wait := 1 } }
    agenda := { Agenda.reset with zones := tblSet Agenda.reset.zones 0 true } }

theorem test_wait_runs_out :
    after (.waitRunsOut 0) waiting (fun t => t.cueRun 0)
      = some { CueRun.reset with status := .stopped, pointer := 41 } := by decide +kernel

theorem test_release : after .rstNRelease rich (fun t => (t.source.up, t.timeline.block, t.freeCount))
      = some (false, 0, 1024) := by decide +kernel

theorem test_assertion : after .rstNAssertion rich (fun t => (t.rstLow, t.timeline.count))
      = some (true, 0) := by decide +kernel

/-! ### Frames that arrive -/

/-- A frame above the expected sequence is stored behind its gap with DISCONTINUITY (R44, R48). -/
theorem test_source_frame_gap :
    after (.sourceFrame (monoFrame 0 44 1)) (rich.modStream 0 fun d => { d with expected := some 42 })
      (fun t =>
        ((t.stream 0).expected, (t.stream 0).counters.gaps, (t.stream 0).queue,
          (t.audioCell 0).map AudioCell.discontinuity))
      = some (some 45, 2, [0], some true) := by decide +kernel

theorem test_source_frame_stray :
    after (.sourceFrame (monoFrame 9 0 0)) rich (fun t => t.intake.strayFrames) = some 1 := by
  decide +kernel

/-- The echo to beacon 5, of block 8, begins acquisition at T 1024 (R60, R63). -/
theorem test_echo :
    after (.echo echo5) rich
      (fun t => ((t.entry 0).state, (t.entry 0).rawT, (t.entry 0).anchorL, t.plan.accessed.toList.head?))
      = some (.acquiring, 1024, 262400, some true) := by decide +kernel

theorem test_malformed :
    after (.malformedFrame .air 0x14 [0, 7]) rich (fun t => t.intake.malformedFrames) = some 1 := by
  decide +kernel

theorem test_unknown_directive :
    after (.unknownDirectiveKind 0x99 d0 []) rich sentStatus = some (some .form) := by decide +kernel

/-! ### Directives -/

theorem test_identify :
    after (.identify d3) rich sentPayload
      = some [0x525A, 2416, 1, 1024, 16, 8, 24, 40, 8, 512, 32, 96] := by decide +kernel

theorem test_query_device :
    after (.queryDevice d3) rich (fun t => (sentPayload t).take 9)
      = some [0, 0, 0, 255, 0, 32, 0, 1280, 10] := by decide +kernel

theorem test_query_store :
    after (.queryStore d3) rich sentPayload = some [1024, 0, 0, 0, 48, 24, 2, 1] := by decide +kernel

theorem test_query_stream :
    after (.queryStream d3 1) rich (fun t => (sentPayload t).take 11)
      = some [1, 1, 1, 4, 2, 0, 0, 0, 0, 0, 255] := by decide +kernel

theorem test_query_zone :
    after (.queryZone d3 0) rich (fun t => (sentPayload t).take 9)
      = some [1, 0, 0, 2, 0, 1, 4, 16384, 40] := by decide +kernel

theorem test_query_speaker :
    after (.querySpeaker d3 0) rich (fun t => (sentPayload t).take 5) = some [1, 2, 7, 0, 2] := by
  decide +kernel

theorem test_restart :
    after (.restart d0) rich (fun t => (t.source.sending.isSome, t.freeCount, (t.speaker 0).horizon))
      = some (true, 1024, 10) := by decide +kernel

/-- τ is limited to 8192 (R5). -/
theorem test_timebase_local :
    after (.setTimebaseLocal d0 0 9000 0) rich (fun t => (t.timeline.tau, sentStatus t))
      = some (8192, some .clamped) := by decide +kernel

theorem test_timebase_fastest :
    after (.setTimebaseFastest d0 9000 5) rich (fun t => (t.timeline.tau, t.timeline.candidates))
      = some (0, 5) := by decide +kernel

theorem test_set_beacon :
    after (.setBeacon d0 7) rich (fun t => (t.timeline.beaconInterval, sentStatus t))
      = some (8, some .clamped) := by decide +kernel

theorem test_arm_mark_late :
    after (.armMark d0 3 10 0 0xAA) rich (fun t => ((t.mark 3).late, (t.mark 3).zone))
      = some (true, none) := by decide +kernel

theorem test_disarm_mark : after (.disarmMark d0 2) lateMark (fun t => (t.mark 2).armed)
      = some false := by decide +kernel

theorem test_open_stream :
    after (.openStream d0 9 0 2 300 500) rich
      (fun t => ((t.stream 9).quota, (t.stream 9).demandMark, (t.stream 9).lanes, sentStatus t))
      = some (256, 256, 2, some .clamped) := by decide +kernel

theorem test_close_stream_bound : after (.closeStream d0 0) rich sentStatus = some (some .bound) := by
  decide +kernel

theorem test_flush_stream :
    after (.flushStream d0 1)
      (rich.modSource fun l =>
        { l with
          sending := some (.report { sort := .ready, count := 1, block := 0, payload := [], loss := false }) })
      (fun t => t.source.reports.map fun r => r.payload.map Field.value)
      = some [[], [0, 4]] := by decide +kernel

def overlayOps : ZoneOperands :=
  { zone := 5, present := 1, kind := 1, priority := 9, rank := 1, stream := 3, primeDepth := 12, lead := 2
    startLevel := 16384, cueEntry := 0xFFFF, members := 14, overlayRole := 2 }

theorem test_stage_zone :
    after (.stageZone d0 overlayOps) rich
      (fun t => ((t.plan.staged.zone 5).priority, (t.plan.staged.zone 5).lead, sentStatus t))
      = some (3, 4, some .clamped) := by decide +kernel

theorem test_stage_speaker :
    after (.stageSpeaker d0
        { speaker := 0, present := 1, rank := 0, address := 0, plannedZone := 0xFF, role := 0 }) rich
      sentStatus = some (some .value) := by decide +kernel

theorem test_unstage :
    after (.unstage d0) rich (fun t => decide (t.plan.staged = rich.plan.active)) = some true := by
  decide +kernel

/-- The swap of `rich` would make zone 0 absent, which a directive of rank 3 may not (R93). -/
theorem test_swap_rank : after (.swap d3) rich sentStatus = some (some .rank) := by decide +kernel

theorem test_swap : after (.swap d0) rich (fun t => t.plan.swapPending) = some true := by decide +kernel

theorem test_start_zone :
    after (.startZone d0 0) rich (fun t => ((t.zone 0).state, (t.zone 0).gain, (t.cueRun 0).pointer))
      = some (.priming, 16384, 40) := by decide +kernel

theorem test_stop_soft : after (.stopZoneSoft d0 0 0) waiting (fun t => (t.zone 0).state)
      = some .draining := by decide +kernel

/-- A hard STOP that leaves the ring empty: refill margin 2, so the entry of block 12 goes (R110). -/
theorem test_stop_hard :
    after (.stopZoneHard d0 0)
      (waiting.modZone 0 fun r => { r with ring := r.ring.map fun e => { e with block := 12 } })
      (fun t => ((t.zone 0).state, (t.speaker 0).horizon, (t.speaker 0).cuts))
      = some (.idle, 11, 1) := by decide +kernel

theorem test_set_level :
    after (.setLevel d0 0 40000 2048) rich (fun t => ((t.zone 0).target, (t.zone 0).gainStep))
      = some (32767, 2048) := by decide +kernel

theorem test_set_trim :
    after (.setTrim d0 0 12288 2560) rich (fun t => (t.trim 0, (t.speaker 0).rampPending))
      = some ({ gain := 12288, delay := 2560 }, true) := by decide +kernel

theorem test_poll_accessed :
    after (.pollAccessed d0) (rich.setAccessed 0 true) (fun t => (sentPayload t, t.plan.accessed[0]))
      = some ([1], false) := by decide +kernel

theorem test_resync_speaker :
    after (.resyncSpeaker d0 0) (rich.modEntry 0 fun e => { e with state := .locked, rho := 5, rawT := 9 })
      (fun t => ((t.entry 0).state, (t.entry 0).rho, (t.entry 0).rawT))
      = some (.unlocked, 0, 9) := by decide +kernel

/-- The lost limit goes above the stale limit stored (R80). -/
theorem test_set_tracking :
    after (.setTracking d0
        { g := 3, h := 2, outlierLimit := 256, phaseLimit := 16384, acquireCount := 4, staleLimit := 80
          lostLimit := 20 }) rich
      (fun t => (t.tracker.params.staleLimit, t.tracker.params.lostLimit)) = some (63, 64) := by
  decide +kernel

theorem test_set_store :
    after (.setStore d0 2000 70 0) rich
      (fun t => (t.store.depletionMark, t.store.claimReserve, t.store.refillMargin))
      = some (1023, 64, 1) := by decide +kernel

/-- Words wrap from index 511 to 0 (R165). -/
theorem test_write_cues :
    after (.writeCues d0 511 [0x20000004, 0x70000000]) rich
      (fun t => (t.cueWord 511, t.cueWord 0, t.cueWord 1)) = some (0x20000004, 0x70000000, 0) := by
  decide +kernel

theorem test_cue_go :
    after (.cueGo d0 0 300) waiting (fun t => t.cueRun 0)
      = some { CueRun.reset with status := .running, pointer := 300, wait := 1 } := by decide +kernel

theorem test_cue_halt : after (.cueHalt d0 0) waiting (fun t => (t.cueRun 0).status)
      = some .halted := by decide +kernel

theorem test_cue_resume : after (.cueResume d0 0) rich sentStatus = some (some .busy) := by
  decide +kernel

theorem test_set_prescale :
    after (.setPrescale d0 0 256) rich (fun t => ((t.cueRun 0).prescale, sentStatus t))
      = some (255, some .clamped) := by decide +kernel

theorem test_arm_tap : after (.armTap d0 0) rich (fun t => t.playout.tap.state) = some (.armed 0) := by
  decide +kernel

theorem test_disarm_tap :
    after (.disarmTap d0 3) (rich.modTap fun t => { t with state := .active 0 }) sentStatus
      = some (some .busy) := by decide +kernel

/-! ### Links -/

theorem test_source_link_down :
    after .sourceLinkDown (rich.modTap fun t => { t with buffer := [⟨0, 1, 2, []⟩] })
      (fun t => (t.source.up, t.playout.tap.buffer.length, t.playout.tap.overruns))
      = some (false, 0, 1) := by decide +kernel

theorem test_source_link_up :
    after .sourceLinkUp State.reset (fun t => (t.source.up, sentPayload t)) = some (true, [0]) := by
  decide +kernel

theorem test_air_link_down :
    after .airLinkDown
      (rich.modAir fun a => { a with sending := some (.control (.cut 7 0)), control := [.cut 7 0] })
      (fun t => (t.air.up, t.air.downDiscards)) = some (false, 2) := by decide +kernel

theorem test_air_link_up : after .airLinkUp State.reset (fun t => t.air.up) = some true := by
  decide +kernel

theorem test_air_send_complete :
    after .airSendComplete
      (rich.modAir fun a => { a with sending := some (.control (.cut 7 0)), control := [.cut 8 0] })
      (fun t => (t.air.sending, t.air.controlSent)) = some (some (.control (.cut 8 0)), 1) := by
  decide +kernel

theorem test_source_send_complete :
    after .sourceSendComplete
      (rich.modSource fun l =>
        { l with
          sending := some (.report { sort := .ready, count := 1, block := 0, payload := [], loss := false }) })
      (fun t => (t.source.sending.isSome, t.source.reportsSent)) = some (false, 1) := by decide +kernel

/-! ### Arithmetic of the worked examples -/

/-- Table 34: a LOCKED entry of ρ 800 follows an input; the stamp of block 8238 with a delay of 2560. -/
theorem test_table_34 :
    (let e : TrackerEntry :=
        { TrackerEntry.reset with
          state := .locked, rho := 800, rawT := 1048576, anchorT := 1048576, rawL := 268435456
          anchorL := 268435456 }
      let x := (e.input TrackingParams.reset 1052672 269484084).1
      (x.rho, x.anchorL.toNat, (stampOf x 2560 8238).toNat)) = (804, 269484083, 269945417) := by
  decide +kernel

/-- Table 48: the gain at sample frame 64, trimmed, and the samples derived from it. -/
theorem test_table_48 :
    (let e : IssueEntry :=
        { number := 1, block := 1, kind := .normal, cell := none, gainStart := 16384, gainEnd := 14336
          rampIn := false, rampOut := false }
      let g := trimmedGain e 12288 64
      (zoneGain e 64, g, rampedGain true false g 64, (applyGain 1000000 g).toInt))
      = (15360, 11520, 5760, 703125) := by decide +kernel

/-! ### Witnesses: for each statement with hypotheses, concrete inputs that meet them together -/

/-- Whether a command answers a next state. -/
def completes (c : Instr) (s : State) : Bool :=
  match exec c s with
  | .next _ => true
  | _ => false

/-- Whether a step answers a next state. -/
def stepCompletes (s : State) : Bool :=
  match step s with
  | .next _ => true
  | _ => false

theorem next_of_completes {c : Instr} {s : State} (h : completes c s = true) :
    ∃ t, exec c s = .next t := by
  unfold completes at h
  split at h
  · exact ⟨_, ‹_›⟩
  · cases h

theorem next_of_stepCompletes {s : State} (h : stepCompletes s = true) : ∃ t, step s = .next t := by
  unfold stepCompletes at h
  split at h
  · exact ⟨_, ‹_›⟩
  · cases h

/-- The cell of `playing` that a zone's ring holds. -/
def ringEntry : IssueEntry :=
  { number := 7, block := 14, kind := .normal, cell := some 1, gainStart := 16384, gainEnd := 16384
    rampIn := false, rampOut := false }

/-- `rich` in play: cell 0 in the queue of stream 0, cell 1 in the ring of zone 0, PLAYING, cell 2 the claim of
the overlay zone 1 on speaker 0; an IDENTIFY waits. -/
def playing : State :=
  { rich with
    store :=
      { CellStore.reset with
        freeList := ascendingCells.drop 3
        cells :=
          tblSet (tblSet (tblSet CellStore.reset.cells 0
            (.audio ⟨0, 41, 0, 1, false, false, List.replicate 128 1⟩)) 1
            (.audio ⟨0, 40, 0, 1, false, false, List.replicate 128 2⟩)) 2
            (.claim { zone := 1, priority := 2, role := .mono, claimedAt := 6 }) }
    intake :=
      { rich.intake with
        streams :=
          tblSet rich.intake.streams 0
            { Stream.reset with present := true, quota := 4, queue := [0], expected := some 42 } }
    plan :=
      { rich.plan with
        active :=
          { rich.plan.active with
            zones :=
              tblSet rich.plan.active.zones 1
                { ZoneDesc.reset with
                  present := true, kind := .overlay, priority := 2, rank := 1, members := 1
                  overlayRole := some .mono } } }
    playout :=
      { rich.playout with
        zones :=
          tblSet rich.playout.zones 0
            { ZoneRun.reset with
              state := .playing, issueNumber := 7, prevKind := some .normal, gain := 16384, target := 16384
              ring := [ringEntry] }
        speakers := tblSet rich.playout.speakers 0 { SpeakerRun.reset with zone := some 1 } }
    overlay := { rich.overlay with claimStacks := tblSet rich.overlay.claimStacks 0 [2] }
    pending := [.identify d0] }

theorem listening_up : upState.Listening := ⟨rfl, rfl, by decide⟩
theorem listening_rich : rich.Listening := ⟨rfl, rfl, by decide⟩
theorem listening_waiting : waiting.Listening := ⟨rfl, rfl, by decide⟩
theorem listening_playing : playing.Listening := ⟨rfl, rfl, by decide⟩

theorem playing_step : ∃ t, step playing = .next t := next_of_stepCompletes (by decide +kernel)

/-- `rich` with T at the last sample before a boundary. -/
def lastSample : State := rich.modTimeline fun t => { t with count := 1407 }

theorem witness_StepRunsFrontCommand :
    playing.pending = [.identify d0]
      ∧ ({ upState with rstLow := true }.pending = [] ∧ { upState with rstLow := true }.rstLow = true)
      ∧ (waiting.pending = [] ∧ waiting.rstLow = false ∧ waiting.agenda.busy = true)
      ∧ (rich.pending = [] ∧ rich.rstLow = false ∧ rich.agenda.busy = false
        ∧ rich.timeline.count + 1 < 128 * (rich.timeline.block + 1))
      ∧ lastSample.pending = [] ∧ lastSample.rstLow = false ∧ lastSample.agenda.busy = false
      ∧ lastSample.timeline.count + 1 = 128 * (lastSample.timeline.block + 1)
      ∧ lastSample.timeline.block + 1 < 2 ^ 41 :=
  ⟨rfl, by decide +kernel⟩

theorem witness_StepKeepsClockAndRates :
    playing.ClockConsistent ∧ playing.RatesBounded ∧ playing.AnchorsPaired
      ∧ ∃ t, step playing = .next t :=
  ⟨⟨by decide +kernel, by decide +kernel, by decide +kernel⟩,
    ⟨by decide +kernel, by decide +kernel⟩, by unfold State.AnchorsPaired; decide +kernel,
    playing_step⟩

theorem witness_StepKeepsQueues :
    playing.QueuesBounded ∧ playing.LinksConsistent ∧ ∃ t, step playing = .next t :=
  ⟨⟨by decide +kernel, by decide +kernel, by decide +kernel, by decide +kernel⟩,
    ⟨by decide +kernel, by decide +kernel, by decide +kernel, by decide +kernel⟩, playing_step⟩

theorem playing_places : playing.cellPlaces = (List.finRange 1024).rotate 3 := by decide +kernel

theorem playing_partitioned : playing.CellsPartitioned := fun c => by
  rw [playing_places, (List.rotate_perm _ 3).count_eq]
  exact List.count_eq_one_of_mem (List.nodup_finRange 1024) (List.mem_finRange c)

theorem witness_StepKeepsCells : playing.CellsPartitioned ∧ ∃ t, step playing = .next t :=
  ⟨playing_partitioned, playing_step⟩

theorem playing_banks : playing.BanksLegal := by
  unfold State.BanksLegal Bank.Legal ZoneDesc.Legal SpeakerDesc.Legal
  decide +kernel

theorem playing_plan : playing.PlanValid := by
  refine ⟨?_, ?_, ?_, ?_⟩
  · unfold State.StreamsUnshared; decide +kernel
  · unfold State.AddressesDistinct; decide +kernel
  · unfold State.PlannedZonesValid; decide +kernel
  · unfold State.MembersPresent; decide +kernel

theorem witness_StepKeepsPlan :
    playing.BanksLegal ∧ playing.PlanValid ∧ ∃ t, step playing = .next t :=
  ⟨playing_banks, playing_plan, playing_step⟩

theorem witness_StepKeepsZones :
    playing.BanksLegal ∧ playing.GainsBounded ∧ playing.LeadsBounded ∧ playing.RingsMatchStates
      ∧ playing.EntriesTyped ∧ playing.RingsLawful ∧ playing.CellsPartitioned ∧ playing.AudioTyped
      ∧ ∃ t, step playing = .next t := by
  refine ⟨playing_banks, ?_, ?_, ?_, ?_, ?_, playing_partitioned, ?_, playing_step⟩
  · unfold State.GainsBounded; decide +kernel
  · unfold State.LeadsBounded; decide +kernel
  · unfold State.RingsMatchStates; decide +kernel
  · unfold State.EntriesTyped; decide +kernel
  · unfold State.RingsLawful
    intro z
    have other (y : ZoneNo) (h : y ≠ 0) : playing.zone y = ZoneRun.reset := by
      revert y; decide +kernel
    by_cases h : z = 0
    · subst h
      refine ⟨by decide +kernel, by decide +kernel, by decide +kernel, by decide +kernel, ?_⟩
      intro _ k hk
      exact ⟨ringEntry, by decide +kernel, by
        rw [show (playing.zone 0).prevKind = some .normal from rfl] at hk
        exact Option.some.inj hk, by decide +kernel⟩
    · rw [other z h]
      exact ⟨by decide, List.Pairwise.nil, fun e h => absurd h List.not_mem_nil, fun _ => rfl,
        fun h => absurd h (by decide)⟩
  · unfold State.AudioTyped; decide +kernel

theorem witness_StepKeepsStreamsAndSettings :
    playing.StreamsLegal ∧ playing.SettingsInRange ∧ ∃ t, step playing = .next t := by
  refine ⟨?_, ?_, playing_step⟩
  · unfold State.StreamsLegal Stream.Legal; decide +kernel
  · unfold State.SettingsInRange; decide +kernel

/-- `playing` with the overlay zone 1 PLAYING. -/
def claimed : State := playing.modZone 1 fun r => { r with state := .playing }

theorem claimed_partitioned : claimed.CellsPartitioned := fun c => by
  rw [show claimed.cellPlaces = playing.cellPlaces by decide +kernel]
  exact playing_partitioned c

theorem witness_StepKeepsClaimStacks :
    claimed.CellsPartitioned ∧ claimed.ClaimsTyped ∧ claimed.BanksLegal ∧ claimed.StacksOrdered
      ∧ claimed.PlanValid ∧ claimed.RecordsLawful ∧ claimed.recordZones 0 = [1]
      ∧ ∃ t, step claimed = .next t := by
  refine ⟨claimed_partitioned, ?_, playing_banks, ?_, playing_plan, ?_, by decide +kernel,
    next_of_stepCompletes (by decide +kernel)⟩
  · unfold State.ClaimsTyped; decide +kernel
  · unfold State.StacksOrdered; decide +kernel
  · unfold State.RecordsLawful; decide +kernel

theorem witness_RankShieldsObjects :
    directiveBytes (.restart d3) = some (0x03, d3, []) ∧ (∃ t, exec (.restart d3) rich = .next t)
      ∧ ((rich.activeZone 0).present = true ∧ (rich.activeZone 0).rank < d3.rank.toNat)
      ∧ (rich.activeSpeaker 0).present = true ∧ (rich.activeSpeaker 0).rank < d3.rank.toNat :=
  ⟨rfl, next_of_completes (by decide +kernel), by decide +kernel, by decide +kernel⟩

theorem witness_DirectivesKeepActivePlanAndTime :
    directiveBytes (.swap d0) = some (0x33, d0, []) ∧ (∀ k : MarkNo, tblGet rich.agenda.marks k = false)
      ∧ ∃ t, exec (.swap d0) rich = .next t :=
  ⟨rfl, by decide +kernel, next_of_completes (by decide +kernel)⟩

theorem witness_DirectiveBytesRoundTrip :
    (Instr.writeCues d3 511 (List.replicate 32 0x20000004)).wellFormed = true
      ∧ (directiveBytes (.writeCues d3 511 (List.replicate 32 0x20000004))).isSome = true := by decide

theorem witness_RankZeroDirectivesRefused :
    rich.Listening ∧ d3.rank ≠ 0 ∧ (Instr.writeCues d3 0 [0]).wellFormed = true
      ∧ directiveBytes (.writeCues d3 0 [0]) = some (0x60, d3, [0, 0, 0, 0, 0, 0])
      ∧ (0x60 : Byte) ∈
          ([0x03, 0x10, 0x11, 0x12, 0x13, 0x20, 0x21, 0x22, 0x32, 0x50, 0x51, 0x60] : List Byte)
      ∧ ∀ k o, Instr.writeCues d3 0 [0] ≠ .unknownDirectiveKind k d3 o :=
  ⟨listening_rich, by decide, by decide, by decide, by decide, fun _ _ h => by cases h⟩

theorem witness_IdentifyReplies : playing.Listening := listening_playing

theorem witness_QueriesChangeNothing : playing.Listening := listening_playing

theorem witness_UnknownDirectiveRefused :
    rich.Listening ∧ (List.replicate 130 (0 : Byte)).length ≤ 130
      ∧ parseDirective 0x99 d3 (List.replicate 130 0) = none
      ∧ parseDirective 0x01 d3 (List.replicate 130 0) = none :=
  ⟨listening_rich, by decide +kernel⟩

theorem witness_DownLinksReceiveNothing :
    (State.reset.source.up = false ∧ (directiveBytes (.identify d0)).isSome = true)
      ∧ State.reset.air.up = false ∧ { rich with rstLow := true }.rstLow = true := ⟨⟨rfl, rfl⟩, rfl, rfl⟩

/-- The tap ACTIVE for zone 1. -/
def tapped : State := playing.modTap fun x => { x with state := .active 1 }

/-- A swap is pending. -/
def swapping : State := rich.modPlan fun x => { x with swapPending := true }

theorem witness_ZoneDirectivesRefused :
    (rich.Listening ∧ (511 : BitVec 16).toNat < 512 ∧ 8 ≤ (8 : Byte).toNat ∧ 8 ≤ (255 : Byte).toNat
      ∧ ((rich.activeZone 0).present = true ∧ (rich.activeZone 0).rank < d3.rank.toNat)
      ∧ (rich.activeZone 7).present = false)
    ∧ ((∀ st : StreamNo, (rich.activeZone 0).stream = some st →
          ((rich.modStream 0 fun x => { x with present := false }).stream st).present = false)
      ∧ rich.ZoneAdmits d0 0)
    ∧ (playing.Listening ∧ playing.ZoneAdmits d0 0 ∧ (playing.zone 0).state ≠ .idle
      ∧ (playing.activeZone 0).stream = some 0 ∧ (playing.stream 0).present = true)
    ∧ (tapped.playout.tap.state = .active 1 ∧ tapped.playout.tap.state ≠ .disarmed
      ∧ tapped.ZoneAdmits d0 0 ∧ (tapped.activeZone 0).present = true)
    ∧ (2 ≤ (2 : Byte).toNat ∧ 512 ≤ (512 : BitVec 16).toNat)
    ∧ (overlayOps.zone.toNat < 8 ∧ overlayOps.stream.toNat < 16 ∧ overlayOps.cueEntry = 0xFFFF
      ∧ d0.rank.toNat ≤ min 3 overlayOps.rank.toNat ∧ ¬ d3.rank.toNat ≤ min 3 overlayOps.rank.toNat
      ∧ (∀ z : ZoneNo, overlayOps.zone = operandOf z → swapping.ZoneAdmits d0 z)
      ∧ overlayOps.kind = 1 ∧ overlayOps.overlayRole.toNat < 4 ∧ swapping.plan.swapPending = true)
    ∧ (¬ (16 : Byte).toNat < 16 ∧ (16 : Byte) ≠ 0xFF ∧ ¬ (512 : BitVec 16).toNat < 512)
    ∧ ¬ ((2 : Byte) = 0 ∨ (2 : Byte) = 1) := by
  refine ⟨⟨listening_rich, by decide, by decide, by decide, by decide +kernel, by decide +kernel⟩, ?_,
    ⟨listening_playing, ?_⟩, ?_, by decide, ?_, by decide, by decide⟩ <;>
    unfold State.ZoneAdmits <;> decide +kernel

/-- The operands of STAGE SPEAKER for the last speaker, in the last zone. -/
def lastSpeakerOps : SpeakerOperands :=
  { speaker := 23, present := 1, rank := 1, address := 65534, plannedZone := 7, role := 3 }

theorem witness_StreamAndSpeakerDirectivesRefused :
    (rich.Listening ∧ d0.rank = 0 ∧ 16 ≤ (16 : Byte).toNat ∧ (rich.stream 0).present = true
      ∧ (rich.stream 15).present = false
      ∧ ((rich.activeZone 0).present = true ∧ (rich.activeZone 0).stream = some 0)
      ∧ 24 ≤ (24 : Byte).toNat ∧ (rich.activeSpeaker 23).present = false
      ∧ (rich.activeSpeaker 0).present = true ∧ (rich.activeSpeaker 0).rank < d3.rank.toNat)
    ∧ (2 ≤ (2 : Byte).toNat ∧ (0 : Byte) ≠ 1 ∧ (3 : Byte) ≠ 2)
    ∧ (lastSpeakerOps.speaker.toNat < 24 ∧ lastSpeakerOps.plannedZone.toNat < 8
      ∧ d0.rank.toNat ≤ min 3 lastSpeakerOps.rank.toNat
      ∧ ¬ d3.rank.toNat ≤ min 3 lastSpeakerOps.rank.toNat
      ∧ (∀ sp : SpeakerNo, lastSpeakerOps.speaker = operandOf sp → swapping.SpeakerAdmits d0 sp)
      ∧ lastSpeakerOps.address ≠ 0 ∧ lastSpeakerOps.address ≠ 0xFFFF ∧ lastSpeakerOps.role.toNat < 4
      ∧ swapping.plan.swapPending = true)
    ∧ ¬ ((8 : Byte).toNat < 8 ∨ (8 : Byte) = 0xFF) ∧ ¬ (4 : Byte).toNat < 4 := by
  refine ⟨⟨listening_rich, by decide, by decide, by decide +kernel⟩, by decide, ?_, by decide⟩
  unfold State.SpeakerAdmits
  decide +kernel

theorem witness_BoundaryAdvancesBlock :
    rich.rstLow = false
      ∧ { rich.timeline with block := 2 ^ 41 - 2 }.block + 1 < 2 ^ 41
      ∧ rich.timeline.block + 1 < 2 ^ 41 ∧ rich.agenda.busy = false ∧ rich.plan.swapPending = false
      ∧ ∀ k : MarkNo, (rich.mark k).armed = true → (rich.mark k).action = .swap →
          (rich.mark k).block ≠ rich.timeline.block + 1 ∧ (rich.mark k).late = false := by decide +kernel

/-- The boundary of `swapping` with a late START mark: a swap is pending, and no SWAP mark is armed. -/
def swapBoundary : State :=
  swapping.modMark 2 fun _ => { armed := true, block := 9, action := .start, zone := some 0, late := true }

theorem witness_BoundaryTakesSwap :
    swapBoundary.rstLow = false ∧ swapBoundary.timeline.block + 1 < 2 ^ 41
      ∧ swapBoundary.agenda.busy = false ∧ swapBoundary.plan.swapPending = true
      ∧ (swapBoundary.mark 2).action = .start
      ∧ ∀ k : MarkNo, (swapBoundary.mark k).armed = true → (swapBoundary.mark k).action = .swap →
          (swapBoundary.mark k).block ≠ swapBoundary.timeline.block + 1
            ∧ (swapBoundary.mark k).late = false := by decide +kernel

/-- Block 32 with its beacon due. -/
def beaconDue : State := { playing with agenda := { Agenda.reset with beacon := some 32 } }

theorem witness_BeaconEmitted :
    beaconDue.rstLow = false ∧ beaconDue.agenda.beacon = some 32
      ∧ ∀ e : EntryNo, tblGet beaconDue.agenda.notices e = false := by decide +kernel

/-- `election4096` without a candidate. -/
def noCandidates : State :=
  { election4096 with timeline := { election4096.timeline with candidates := 0 } }

theorem witness_ElectionTaken :
    (election4096.rstLow = false ∧ election4096.agenda.election = true
      ∧ election4096.timeline.mode = .fastest
      ∧ (election4096.timeline.candidates.getLsbD 0 = true ∧ (election4096.stream 0).present = true
        ∧ (election4096.stream 0).cls = .live
        ∧ (election4096.entry (streamEntry 0)).state = .locked)
      ∧ ∀ o : StreamNo, election4096.timeline.candidates.getLsbD o.val = true → o = 0)
    ∧ (noCandidates.rstLow = false ∧ noCandidates.agenda.election = true
      ∧ noCandidates.timeline.mode = .fastest
      ∧ ∀ o : StreamNo, noCandidates.timeline.candidates.getLsbD o.val = false)
    ∧ { rich with agenda := { Agenda.reset with election := true } }.timeline.mode = .localMode := by
  decide +kernel

theorem witness_NotifyMarkFires :
    lateMark.rstLow = false ∧ tblGet lateMark.agenda.marks 2 = true ∧ (lateMark.mark 2).armed = true
      ∧ (lateMark.mark 2).action = .notify := by decide +kernel

/-- `waiting` with the word `w` at its program's pointer. -/
def cueAt (w : CueWord) : State :=
  { waiting with cue := { waiting.cue with memory := tblSet waiting.cue.memory 40 w } }

theorem witness_WaitRunsOutRunsCue :
    (waiting.rstLow = false ∧ tblGet waiting.agenda.zones 0 = true ∧ waiting.agenda.swap = false
      ∧ (∀ k : MarkNo, tblGet waiting.agenda.marks k = true → (waiting.mark k).action ≠ .swap)
      ∧ (waiting.zone 0).state = .draining ∧ (waiting.zone 0).ring ≠ []
      ∧ (∀ e ∈ (waiting.zone 0).ring, waiting.timeline.block < e.block)
      ∧ (waiting.cueRun 0).status = .running ∧ (waiting.cueRun 0).wait = 1
      ∧ (waiting.cueRun 0).prescale ≤ (waiting.cueRun 0).prescaleCount
      ∧ (waiting.cueWord (waiting.cueRun 0).pointer).toNat / 2 ^ 28 = 0)
    ∧ (let s : State := { waiting with agenda := { waiting.agenda with swap := true } }
       s.rstLow = false ∧ tblGet s.agenda.zones 0 = true ∧ s.agenda.swap = true
        ∧ (∀ k : MarkNo, tblGet s.agenda.marks k = true → (s.mark k).action ≠ .swap)
        ∧ (s.zone 0).state = .draining ∧ (∃ e ∈ (s.zone 0).ring, s.timeline.block < e.block)
        ∧ (s.cueRun 0).status = .running ∧ (s.cueRun 0).wait = 1
        ∧ (s.cueRun 0).prescale ≤ (s.cueRun 0).prescaleCount)
    ∧ ((rich.cueRun 0).status ≠ .running ∧ (rich.cueRun 0).wait = 0)
    ∧ (let slow : CueRun := { CueRun.reset with status := .running, wait := 2, prescale := 1 }
       slow.status = .running ∧ 0 < slow.wait ∧ slow.prescaleCount < slow.prescale)
    ∧ (∀ kind : Fin 16,
        let s := cueAt (BitVec.ofNat 32 (kind.val * 2 ^ 28))
        (s.cueWord (s.cueRun 0).pointer).toNat / 2 ^ 28 = kind.val)
    ∧ (rich.zone 0).state = .idle ∧ (playing.zone 0).state = .playing := by decide +kernel

/-- The share of entry `e` due, the entry in state `st` after `quiet` quiet beacons. -/
def quietEntry (e : EntryNo) (st : TrackState) (quiet : Nat) : State :=
  { rich with
    agenda := { Agenda.reset with notices := tblSet Agenda.reset.notices e true }
    tracker :=
      { rich.tracker with
        entries := tblSet rich.tracker.entries e
          { TrackerEntry.reset with state := st, silence := quiet } } }

theorem witness_SilenceMovesEntry :
    (∀ e ∈ [(23 : EntryNo), 24], ∀ st ∈ [TrackState.locked, .stale, .acquiring],
      (quietEntry e st 7).rstLow = false ∧ tblGet (quietEntry e st 7).agenda.notices e = true
        ∧ ((quietEntry e st 7).entry e).state = st)
    ∧ (quietEntry 23 .locked 7).tracker.params.staleLimit
        ≤ min 255 (((quietEntry 23 .locked 7).entry 23).silence + 1)
    ∧ (quietEntry 24 .stale 63).tracker.params.lostLimit
        ≤ min 255 (((quietEntry 24 .stale 63).entry 24).silence + 1) := by decide +kernel

/-- `playing` with 25 cells free, the mark reached and reported before. -/
def scarce : State :=
  { playing with
    store := { playing.store with freeList := ascendingCells.drop 999, depletionArmed := false } }

/-- `playing` with 49 cells free, one take above the depletion mark. -/
def depleting : State :=
  { playing with store := { playing.store with freeList := ascendingCells.drop 975 } }

/-- `playing` with its LIVE queue at its quota, and as many cells free as are reserved for claims. -/
def liveFull : State :=
  (playing.modStream 0 fun x => { x with quota := 1 }).modStore fun x =>
    { x with freeList := ascendingCells.drop 1000 }

theorem witness_SourceFrameAppended :
    (playing.rstLow = false ∧ playing.source.up = true ∧ (monoFrame 0 32809 0).received = true
      ∧ (monoFrame 0 32809 0).stream = operandOf (0 : StreamNo) ∧ (playing.stream 0).present = true
      ∧ (monoFrame 0 32809 0).lanes.toNat = (playing.stream 0).lanes
      ∧ (playing.stream 0).expected = some 42 ∧ ((32809 : SerialNo) - 42).toNat < 32768
      ∧ (playing.stream 0).queue.length < (playing.stream 0).quota
      ∧ playing.store.freeList = 3 :: ascendingCells.drop 4
      ∧ playing.store.claimReserve < (ascendingCells.drop 4).length + 1)
    ∧ (scarce.source.up = true ∧ (scarce.stream 1).present = true ∧ (scarce.stream 1).expected = none
      ∧ (scarce.stream 1).lanes = 1 ∧ (scarce.stream 1).cls = .paced
      ∧ (scarce.stream 1).queue.length < (scarce.stream 1).quota
      ∧ scarce.store.freeList = 999 :: ascendingCells.drop 1000
      ∧ scarce.store.claimReserve < (ascendingCells.drop 1000).length + 1
      ∧ scarce.store.depletionArmed = false)
    ∧ (depleting.store.freeList = 975 :: ascendingCells.drop 976
      ∧ (ascendingCells.drop 976).length ≤ depleting.store.depletionMark
      ∧ depleting.store.depletionArmed = true ∧ (depleting.stream 0).cls = .live
      ∧ (64 : SerialNo).toNat % 32 = 0 ∧ ((64 : SerialNo) - 42).toNat < 32768)
    ∧ (liveFull.source.up = true ∧ (liveFull.stream 0).cls = .live
      ∧ (liveFull.stream 0).quota ≤ (liveFull.stream 0).queue.length
      ∧ (liveFull.stream 0).queue = 0 :: []
      ∧ liveFull.store.claimReserve < liveFull.store.freeList.length + 1) := by decide +kernel

/-- A PACED stream 1 whose queue is at its quota. -/
def pacedFull : State := rich.modStream 1 fun x => { x with quota := 1, queue := [5] }

/-- As many cells free as are reserved for claims. -/
def reserved : State := rich.modStore fun x => { x with freeList := ascendingCells.drop 1000 }

theorem witness_SourceFrameDropped :
    rich.rstLow = false ∧ rich.source.up = true
      ∧ { monoFrame 0 0 0 with samples := List.replicate 127 0 }.received = false
      ∧ ((monoFrame 16 0 0).received = true ∧ 16 ≤ (monoFrame 16 0 0).stream.toNat)
      ∧ ((monoFrame 15 0 0).stream = operandOf (15 : StreamNo) ∧ (rich.stream 15).present = false)
      ∧ ((rich.modStream 0 fun x => { x with lanes := 2 }).stream 0).lanes ≠ (1 : Byte).toNat
      ∧ ((playing.stream 0).expected = some 42 ∧ 32768 ≤ ((32810 : SerialNo) - 42).toNat)
      ∧ ((pacedFull.stream 1).present = true ∧ (pacedFull.stream 1).expected = none
        ∧ (pacedFull.stream 1).cls = .paced
        ∧ (pacedFull.stream 1).quota ≤ (pacedFull.stream 1).queue.length)
      ∧ ((reserved.stream 0).present = true ∧ (reserved.stream 0).expected = none
        ∧ (reserved.stream 0).queue.length < (reserved.stream 0).quota
        ∧ reserved.store.freeList.length ≤ reserved.store.claimReserve)
      ∧ (let s := liveFull.modStore fun x => { x with freeList := ascendingCells.drop 1001 }
         (s.stream 0).cls = .live ∧ (s.stream 0).quota ≤ (s.stream 0).queue.length
          ∧ (s.stream 0).queue = 0 :: [] ∧ ((42 : SerialNo) - 42).toNat < 32768
          ∧ s.store.freeList.length + 1 ≤ s.store.claimReserve) := by decide +kernel

/-- `playing` with speaker 0 LOCKED on beacon 5 and in zone 0. -/
def tracked : State :=
  (playing.modEntry 0 fun e => { e with state := .locked, rawT := 1024 }).modSpeaker 0 fun r =>
    { r with zone := some 0 }

/-- `tracked` with a raw pair older than beacon 5. -/
def locked4 : State := tracked.modEntry 0 fun e => { e with rawT := 512, anchorT := 512 }

theorem witness_EchoBeginsAcquisition :
    (rich.rstLow = false ∧ rich.air.up = true ∧ echo5.received = true ∧ echo5.gapCount = 0
      ∧ echo5.resync = false ∧ rich.AddressesDistinct ∧ (rich.activeSpeaker 0).present = true
      ∧ (rich.activeSpeaker 0).address = echo5.address ∧ rich.lookupBeacon echo5.beacon = some 8
      ∧ (rich.entry (speakerEntry 0)).state = .unlocked)
    ∧ (4 < (5 : Byte).toNat ∧ { echo5 with gapCount := 5, issues := List.replicate 5 0 }.received = true)
    ∧ (∀ sp : SpeakerNo, (rich.activeSpeaker sp).present = true → (rich.activeSpeaker sp).address ≠ 9)
    ∧ ((tracked.entry (speakerEntry 0)).state ≠ .unlocked
      ∧ 128 * 8 ≤ (tracked.entry (speakerEntry 0)).rawT)
    ∧ (let f : EchoFrame := { echo5 with gapZone := 0, gapCount := 2, issues := [7, 7] }
       f.received = true ∧ f.gapCount.toNat ≤ 4 ∧ f.resync = false
        ∧ (tracked.activeSpeaker 0).address = f.address
        ∧ (locked4.entry (speakerEntry 0)).state = .locked
        ∧ locked4.lookupBeacon f.beacon = some 8 ∧ (locked4.entry (speakerEntry 0)).rawT < 128 * 8)
    ∧ ({ echo5 with flags := 1 }.resync = true ∧ rich.lookupBeacon 6 = none)
    ∧ ((0 : Byte) = operandOf (0 : ZoneNo) ∧ (tracked.speaker 0).zone = some 0 ∧ tracked.hears 0
      ∧ ringEntry ∈ (tracked.zone 0).ring ∧ ringEntry.number = 7
      ∧ (∀ y ∈ (tracked.zone 0).ring, y.number = 7 → y = ringEntry)
      ∧ tracked.timeline.block + tracked.store.refillMargin ≤ ringEntry.block
      ∧ ∀ x ∈ (tracked.zone 0).ring, x.number ≠ 8) := by
  unfold State.AddressesDistinct State.hears
  decide +kernel

theorem witness_MalformedFrameDropped :
    rich.Listening ∧ rich.air.up = true ∧ (0x01 : Byte) ≠ 0x02
      ∧ receptionPasses .source 0x01 [] = false ∧ (List.replicate 3 (0 : Byte)).length < 4
      ∧ 134 < (List.replicate 135 (0 : Byte)).length
      ∧ receptionPasses .air 0x14 (List.replicate 10 0) = false :=
  ⟨listening_rich, by decide +kernel⟩

theorem witness_TimelineSettingsTaken : rich.Listening ∧ d0.rank = 0 ∧ 2 ≤ (2 : Byte).toNat :=
  ⟨listening_rich, by decide⟩

theorem witness_MarkSlotsWritten :
    rich.Listening ∧ d0.rank = 0 ∧ tblGet rich.agenda.marks 7 = false
      ∧ ((2 ^ 41 - 1 : BitVec 48).toNat < 2 ^ 41 ∧ (7 : Byte).toNat < 8)
      ∧ 2 ^ 41 ≤ (2 ^ 41 : BitVec 48).toNat ∧ 8 ≤ (8 : Byte).toNat ∧ 4 ≤ (4 : Byte).toNat :=
  ⟨listening_rich, by decide +kernel⟩

theorem rich_streams : rich.StreamsLegal := by
  unfold State.StreamsLegal Stream.Legal
  decide +kernel

theorem witness_StreamOpened :
    rich.Listening ∧ rich.StreamsLegal ∧ d0.rank = 0 ∧ (rich.stream 15).present = false
      ∧ ((2 : Byte) = 1 ∨ (2 : Byte) = 2) :=
  ⟨listening_rich, rich_streams, by decide +kernel⟩

theorem witness_StreamReleased :
    playing.Listening ∧ d0.rank = 0 ∧ (playing.stream 0).present = true ∧ (playing.stream 1).present = true
      ∧ ∀ z : ZoneNo, (playing.activeZone z).present = true → (playing.activeZone z).stream ≠ some 1 :=
  ⟨listening_playing, by decide +kernel⟩

theorem witness_StoreSettingsSet : rich.Listening ∧ d0.rank = 0 := ⟨listening_rich, rfl⟩

theorem witness_TakesGrantedOrRefused :
    reserved.store.freeList.length ≤ reserved.store.claimReserve
      ∧ reserved.store.freeList = 1000 :: ascendingCells.drop 1001
      ∧ 0 < (ascendingCells.drop 1001).length + 1
      ∧ scarce.store.freeList = 999 :: ascendingCells.drop 1000
      ∧ scarce.store.claimReserve < (ascendingCells.drop 1000).length + 1 := by decide +kernel

theorem witness_DescriptorsStaged :
    (rich.Listening ∧ rich.ZoneAdmits d0 5 ∧ overlayOps.zone = operandOf (5 : ZoneNo)
      ∧ overlayOps.kind = BitVec.ofNat 8 ZoneKind.overlay.code ∧ overlayOps.stream.toNat < 16
      ∧ overlayOps.cueEntry = 0xFFFF ∧ overlayOps.overlayRole.toNat < 4
      ∧ d0.rank.toNat ≤ min 3 overlayOps.rank.toNat ∧ rich.plan.swapPending = false)
    ∧ rich.SpeakerAdmits d0 23 ∧ (23 : Byte) = operandOf (23 : SpeakerNo)
      ∧ (7 : Byte).toNat < 8 ∧ (3 : Byte) = BitVec.ofNat 8 Role.low.code
      ∧ 1 ≤ (65534 : AirAddress).toNat ∧ (65534 : AirAddress).toNat ≤ 65534 := by
  refine ⟨⟨listening_rich, ?_, by decide +kernel⟩, ?_, by decide +kernel⟩
  · unfold State.ZoneAdmits; decide +kernel
  · unfold State.SpeakerAdmits; decide +kernel

theorem witness_UnstageAndSwapTaken :
    (rich.Listening ∧ d0.rank = 0)
      ∧ (∀ z : ZoneNo, rich.plan.staged.zone z ≠ rich.activeZone z → rich.ZoneAdmits d0 z)
      ∧ (∀ sp : SpeakerNo,
          rich.plan.staged.speaker sp ≠ rich.activeSpeaker sp → rich.SpeakerAdmits d0 sp)
      ∧ (rich.plan.staged.zone 0 ≠ rich.activeZone 0 ∧ ¬ rich.ZoneAdmits d3 0)
      ∧ rich.plan.staged.speaker 0 ≠ rich.activeSpeaker 0 ∧ ¬ rich.SpeakerAdmits d3 0 := by
  refine ⟨⟨listening_rich, rfl⟩, ?_⟩
  unfold State.ZoneAdmits State.SpeakerAdmits
  decide +kernel

/-- `rich` with the staged bank `b`. -/
def staging (b : Bank) : State := rich.modPlan fun p => { p with staged := b }

/-- Table 38, its first condition failing: two staged zones of one stream. -/
def SharedIn (s : State) (st : StreamNo) (z y : ZoneNo) : Prop :=
  z < y ∧ ∀ x ∈ [z, y], (s.plan.staged.zone x).present = true ∧ (s.plan.staged.zone x).stream = some st

/-- Table 38, its second condition failing: a zone in play made absent, of another kind, or rebound. -/
def BusyIn (s : State) (z : ZoneNo) : Prop :=
  (s.activeZone z).present = true ∧ (s.zone z).state ≠ .idle
    ∧ ((s.plan.staged.zone z).present = false ∨ (s.plan.staged.zone z).kind ≠ (s.activeZone z).kind
      ∨ ((s.activeZone z).kind = .overlay ∧ (s.plan.staged.zone z).stream ≠ (s.activeZone z).stream))

/-- Table 38, its third condition failing: a planned zone that is absent or an overlay. -/
def BadMemberIn (s : State) (sp : SpeakerNo) (z : ZoneNo) : Prop :=
  (s.plan.staged.speaker sp).present = true ∧ (s.plan.staged.speaker sp).plannedZone = some z
    ∧ ((s.plan.staged.zone z).present = false ∨ (s.plan.staged.zone z).kind = .overlay)

/-- Table 38, its fourth condition failing: two staged speakers of one address. -/
def DuplicateIn (s : State) (sp o : SpeakerNo) : Prop :=
  sp < o ∧ (s.plan.staged.speaker sp).present = true ∧ (s.plan.staged.speaker o).present = true
    ∧ (s.plan.staged.speaker o).address = (s.plan.staged.speaker sp).address

/-- Table 38, its fifth condition failing: an overlay's member that is absent. -/
def AbsentMemberIn (s : State) (z : ZoneNo) (sp : SpeakerNo) : Prop :=
  (s.plan.staged.zone z).present = true ∧ (s.plan.staged.zone z).kind = .overlay
    ∧ (s.plan.staged.zone z).members.getLsbD sp.val = true
    ∧ (s.plan.staged.speaker sp).present = false

/-- Zones 0 and 1 of stream 0. -/
def sharedBank : Bank :=
  let x : ZoneDesc := { ZoneDesc.reset with present := true, stream := some 0 }
  { Bank.reset with zones := tblSet (tblSet Bank.reset.zones 0 x) 1 x }

/-- Speaker 0 present in zone 0, which is absent. -/
def badMemberBank : Bank :=
  { Bank.reset with
    speakers := tblSet Bank.reset.speakers 0
      { SpeakerDesc.reset 1 with present := true, plannedZone := some 0 } }

/-- Speakers 0 and 1 present at address 1. -/
def duplicateBank : Bank :=
  let x : SpeakerDesc := { SpeakerDesc.reset 1 with present := true }
  { Bank.reset with speakers := tblSet (tblSet Bank.reset.speakers 0 x) 1 x }

/-- Overlay zone 0 with member 0, which is absent. -/
def absentMemberBank : Bank :=
  { Bank.reset with
    zones := tblSet Bank.reset.zones 0
      { ZoneDesc.reset with present := true, kind := .overlay, priority := 1, members := 1 } }

/-- `rich` with a cell in the queue of stream 0, whose zone the swap takes away. -/
def leaving : State := rich.modStream 0 fun d => { d with queue := [0] }

/-- A SWAP mark due. -/
def swapMark : State := lateMark.modMark 2 fun k => { k with action := .swap }

/-- Each condition fails at the first object that could fail it, those before it nowhere. -/
theorem witness_SwapExchangesBanks :
    SharedIn (staging sharedBank) 0 0 1
    ∧ ((∀ st z y, ¬ SharedIn playing st z y) ∧ BusyIn playing 0)
    ∧ ((∀ st z y, ¬ SharedIn (staging badMemberBank) st z y) ∧ (∀ z, ¬ BusyIn (staging badMemberBank) z)
      ∧ BadMemberIn (staging badMemberBank) 0 0)
    ∧ ((∀ st z y, ¬ SharedIn (staging duplicateBank) st z y) ∧ (∀ z, ¬ BusyIn (staging duplicateBank) z)
      ∧ (∀ sp z, ¬ BadMemberIn (staging duplicateBank) sp z) ∧ DuplicateIn (staging duplicateBank) 0 1)
    ∧ ((∀ st z y, ¬ SharedIn (staging absentMemberBank) st z y)
      ∧ (∀ z, ¬ BusyIn (staging absentMemberBank) z)
      ∧ (∀ sp z, ¬ BadMemberIn (staging absentMemberBank) sp z)
      ∧ (∀ sp o, ¬ DuplicateIn (staging absentMemberBank) sp o)
      ∧ AbsentMemberIn (staging absentMemberBank) 0 0)
    ∧ ((∀ st z y, ¬ SharedIn leaving st z y) ∧ (∀ z, ¬ BusyIn leaving z)
      ∧ (∀ sp z, ¬ BadMemberIn leaving sp z) ∧ (∀ sp o, ¬ DuplicateIn leaving sp o)
      ∧ (∀ z sp, ¬ AbsentMemberIn leaving z sp)
      ∧ (∀ sp, sp ∈ [(0 : SpeakerNo)] ↔
          (leaving.activeSpeaker sp).present = true ∧ (leaving.plan.staged.speaker sp).present = false)
      ∧ ((leaving.stream 0).present = true ∧ (leaving.stream 0).queue ≠ []
        ∧ (leaving.activeZone 0).stream = some 0))
    ∧ (swapMark.rstLow = false ∧ tblGet swapMark.agenda.marks 2 = true ∧ (swapMark.mark 2).armed = true
      ∧ (swapMark.mark 2).action = .swap ∧ swapMark.agenda.swap = false
      ∧ swapMark.agenda.swapTaken = false) := by
  unfold SharedIn BusyIn BadMemberIn DuplicateIn AbsentMemberIn
  and_intros <;> decide +kernel

theorem witness_TrimSet :
    rich.Listening ∧ (rich.activeSpeaker 0).present = true ∧ rich.SpeakerAdmits d0 0 := by
  refine ⟨listening_rich, ?_⟩
  unfold State.SpeakerAdmits
  decide +kernel

theorem witness_AccessedPolled : rich.Listening := listening_rich

theorem witness_TrackerDirectivesTaken :
    rich.Listening ∧ (rich.activeSpeaker 0).present = true ∧ rich.SpeakerAdmits d0 0 ∧ d0.rank = 0 := by
  refine ⟨listening_rich, ?_⟩
  unfold State.SpeakerAdmits
  decide +kernel

/-- A mark of zone 0 due for a block that has passed, over the state `s`. -/
def zoneMark (action : MarkAction) (s : State) : State :=
  { s with
    timeline :=
      { s.timeline with
        marks := tblSet s.timeline.marks 2
          { armed := true, block := 9, action := action, zone := some 0, late := true } }
    agenda := { Agenda.reset with marks := tblSet Agenda.reset.marks 2 true } }

/-- `playing` with zone 0 PRIMING since block 9. -/
def priming : State := playing.modZone 0 fun r => { r with state := .priming, primingBegan := 9, ring := [] }

theorem witness_ZoneStarted :
    (rich.Listening ∧ rich.ZoneAdmits d0 0 ∧ (rich.activeZone 0).present = true
      ∧ (rich.activeZone 0).stream = some 0 ∧ (rich.stream 0).present = true
      ∧ (rich.zone 0).state = .idle)
    ∧ (let s := zoneMark .start rich
       s.rstLow = false ∧ tblGet s.agenda.marks 2 = true ∧ (s.mark 2).armed = true
        ∧ (s.mark 2).action = .start ∧ (s.mark 2).zone = some 0 ∧ s.agenda.swap = false
        ∧ (∀ j : MarkNo, tblGet s.agenda.marks j = true → (s.mark j).action ≠ .swap)
        ∧ (s.zone 0).state = .idle)
    ∧ (let s : State := { zoneMark .start rich with agenda := { (zoneMark .start rich).agenda with swap := true } }
       s.rstLow = false ∧ (s.mark 2).action = .start ∧ s.agenda.swap = true
        ∧ ∀ j : MarkNo, tblGet s.agenda.marks j = true → (s.mark j).action ≠ .swap)
    ∧ ((zoneMark .start playing).zone 0).state ≠ .idle
    ∧ ((zoneMark .start upState).activeZone 0).present = false
    ∧ ((priming.zone 0).state = .priming ∧ priming.timeline.block ≠ (priming.zone 0).primingBegan
      ∧ (priming.activeZone 0).primeDepth ≤ (priming.stream 0).queue.length
      ∧ (priming.activeZone 0).kind = .program)
    ∧ (let r := (priming.modZone 0 fun r => { r with primingBegan := 10 }).zone 0
       r.state = .priming ∧ priming.timeline.block = r.primingBegan)
    ∧ ((priming.activeZone 1).kind = .overlay ∧ (priming.activeZone 1).overlayRole = some .mono) := by
  refine ⟨⟨listening_rich, ?_⟩, ?_⟩ <;> try unfold State.ZoneAdmits
  all_goals decide +kernel

theorem witness_ZoneStoppedSoftly :
    (rich.Listening ∧ rich.ZoneAdmits d0 0 ∧ (rich.zone 0).state = .idle)
    ∧ (playing.Listening ∧ playing.ZoneAdmits d0 0 ∧ (playing.zone 0).state = .playing
      ∧ (playing.zone 0).ring ≠ [])
    ∧ ((priming.zone 0).state = .priming ∧ (priming.zone 0).ring = [])
    ∧ (let s := zoneMark .stop playing
       s.rstLow = false ∧ tblGet s.agenda.marks 2 = true ∧ (s.mark 2).armed = true
        ∧ (s.mark 2).action = .stop ∧ (s.mark 2).zone = some 0 ∧ s.agenda.swap = false
        ∧ ∀ j : MarkNo, tblGet s.agenda.marks j = true → (s.mark j).action ≠ .swap)
    ∧ (let s : State := { zoneMark .stop rich with agenda := { (zoneMark .stop rich).agenda with swap := true } }
       s.rstLow = false ∧ (s.mark 2).action = .stop ∧ s.agenda.swap = true
        ∧ ∀ j : MarkNo, tblGet s.agenda.marks j = true → (s.mark j).action ≠ .swap)
    ∧ ((waiting.zone 0).state = .draining
      ∧ (waiting.zone 0).ring.filter (fun e => decide (waiting.timeline.block < e.block)) ≠ [])
    ∧ (let s := waiting.modZone 0 fun r => { r with ring := r.ring.map fun e => { e with block := 10 } }
       (s.zone 0).state = .draining
        ∧ (s.zone 0).ring.filter (fun e => decide (s.timeline.block < e.block)) = []) := by
  refine ⟨⟨listening_rich, ?_⟩, ⟨listening_playing, ?_⟩, ?_⟩ <;> try unfold State.ZoneAdmits
  all_goals decide +kernel

theorem witness_ZoneStoppedHard :
    (rich.Listening ∧ rich.ZoneAdmits d0 0 ∧ (rich.zone 0).state = .idle)
      ∧ (waiting.Listening ∧ waiting.ZoneAdmits d0 0 ∧ (waiting.zone 0).state ≠ .idle
        ∧ ((waiting.zone 0).ring.filter fun e =>
          decide (e.block < waiting.timeline.block + waiting.store.refillMargin)) ≠ [])
      ∧ playing.Listening ∧ playing.ZoneAdmits d0 0 ∧ (playing.zone 0).state ≠ .idle
      ∧ ((playing.zone 0).ring.filter fun e =>
          decide (e.block < playing.timeline.block + playing.store.refillMargin)) = [] := by
  refine ⟨⟨listening_rich, ?_⟩, ⟨listening_waiting, ?_⟩, listening_playing, ?_⟩ <;>
    unfold State.ZoneAdmits <;> decide +kernel

theorem witness_LevelAndTapTaken :
    (rich.Listening ∧ rich.ZoneAdmits d0 0 ∧ (rich.activeZone 0).present = true
      ∧ rich.playout.tap.state = .disarmed)
    ∧ (let s := rich.modTap fun x => { x with state := .active 0 }
       s.playout.tap.state = .active 0 ∧ s.playout.tap.state ≠ .armed 1
        ∧ s.playout.tap.state ≠ .active 1 ∧ s.source.up = true ∧ s.source.sending = none
        ∧ s.source.reports = [] ∧ s.playout.tap.buffer = [])
    ∧ State.reset.source.up = false := by
  refine ⟨⟨listening_rich, ?_⟩, ?_⟩
  · unfold State.ZoneAdmits; decide +kernel
  · decide +kernel

theorem witness_CellIssuedAsNormalEntry :
    ((playing.activeZone 0).stream = some 0 ∧ (playing.stream 0).cls = .live
      ∧ (playing.stream 0).queue = 0 :: [] ∧ (playing.audioCell 0).isSome = true)
    ∧ (let s := playing.modStream 0 fun d => { d with cls := .paced, demandArmed := true }
       (s.stream 0).cls = .paced ∧ (s.stream 0).demandArmed = true
        ∧ ([] : List CellNo).length ≤ (s.stream 0).demandMark)
    ∧ (let s := playing.modStream 0 fun d => { d with queue := [] }
       (s.stream 0).queue = [] ∧ (s.stream 0).cls = .live ∧ (s.zone 0).prevKind = some .normal
        ∧ (s.zone 0).ring.getLast? = some ringEntry ∧ ringEntry.cell = some 1
        ∧ (s.audioCell 1).isSome = true ∧ s.store.freeList = 3 :: ascendingCells.drop 4
        ∧ s.store.claimReserve < (ascendingCells.drop 4).length + 1)
    ∧ (reserved.store.freeList.length ≤ reserved.store.claimReserve
      ∧ (reserved.stream 0).queue = [] ∧ (reserved.stream 0).cls = .live)
    ∧ (let s := playing.modStream 0 fun d => { d with queue := [], cls := .paced }
       (s.stream 0).queue = [] ∧ (s.stream 0).cls = .paced)
    ∧ ((playing.zone 0).state = .playing ∧ (rich.zone 0).state ≠ .playing)
    ∧ (tracked.hears 0 ∧ ¬ playing.hears 0 ∧ (tracked.speaker 0).horizon < ringEntry.block
      ∧ ringEntry.block ≤ ((tracked.modSpeaker 0 fun r => { r with horizon := 14 }).speaker 0).horizon
      ∧ (tracked.speaker 0).zone = some 0 ∧ (tracked.zone 0).state = .playing) := by
  unfold State.hears
  decide +kernel

theorem witness_ClaimJudged :
    (2 ≤ playing.stackPriority 0
      ∧ (playing.stackPriority 0 < 3 ∧ playing.store.freeList = 3 :: ascendingCells.drop 4
        ∧ (playing.activeSpeaker 0).present = true)
      ∧ (playing.modStore fun x => { x with freeList := [] }).stackPriority 0 < 3
      ∧ (playing.modStore fun x => { x with freeList := [] }).store.freeList = [])
    ∧ (∀ c ∈ playing.claimStack 0, ∀ r, playing.claimCell c = some r → r.zone ≠ 2)
    ∧ (playing.claimStack 0 = [] ++ 2 :: []
      ∧ (playing.claimCell 2).map ClaimCell.zone = some 1)
    ∧ (let s := judgeClaim 2 3 .low 0 playing
       s.claimStack 0 = [3] ++ 2 :: [] ∧ (s.claimCell 2).map ClaimCell.zone = some 1
        ∧ (s.claimCell 3).map ClaimCell.zone = some 2) := by
  refine ⟨by decide +kernel, ?_, by decide +kernel⟩
  intro c hc r hr
  rw [show playing.claimStack 0 = [2] from by decide +kernel] at hc
  rw [List.mem_singleton.mp hc] at hr
  rw [show playing.claimCell 2 = some { zone := 1, priority := 2, role := .mono, claimedAt := 6 } from
    by decide +kernel] at hr
  rw [← Option.some.inj hr]
  decide

theorem witness_CuesWritten :
    rich.Listening ∧ 32 < (List.replicate 33 (0 : CueWord)).length
      ∧ ((List.replicate 32 (0 : CueWord)).length ≤ 32 ∧ 1 ≤ [(0 : CueWord)].length) ∧ d3.rank ≠ 0
      ∧ d0.rank = 0 ∧ 512 ≤ (512 : BitVec 16).toNat ∧ (511 : BitVec 16).toNat < 512 :=
  ⟨listening_rich, by decide⟩

theorem witness_CueDirectivesTaken :
    (rich.Listening ∧ rich.ZoneAdmits d0 0 ∧ (rich.activeZone 0).present = true
        ∧ (rich.cueRun 0).status = .stopped)
      ∧ waiting.Listening ∧ waiting.ZoneAdmits d0 0 ∧ (waiting.activeZone 0).present = true
      ∧ (waiting.cueRun 0).status = .running ∧ (511 : BitVec 16).toNat < 512 := by
  refine ⟨⟨listening_rich, ?_⟩, listening_waiting, ?_⟩ <;> unfold State.ZoneAdmits <;> decide +kernel

theorem witness_SourceLinkChanges :
    (rich.rstLow = false ∧ rich.source.up = true ∧ rich.source.eventDrops ≤ 4294967295
        ∧ rich.source.replyDrops ≤ 4294967295)
      ∧ State.reset.rstLow = false ∧ State.reset.source.up = false ∧ State.reset.source.sending = none
      ∧ State.reset.source.reports.length < 32 := by decide +kernel

theorem witness_AirLinkChanges :
    (rich.rstLow = false ∧ rich.air.up = true) ∧ State.reset.rstLow = false ∧ State.reset.air.up = false :=
  by decide +kernel

/-- The Air Link sends a CUT while another waits. -/
def airBusy : State :=
  rich.modAir fun a => { a with sending := some (.control (.cut 7 0)), control := [.cut 8 0] }

/-- The audio frame of an item for speaker `sp` at the block. -/
def audioAt (sp : SpeakerNo) (kind : AudioKind) (block : Nat) : AudioItem :=
  { frame :=
      { address := 7, zone := 0, role := .mono, audioKind := kind, entryKind := .silent, rampIn := false
        rampOut := false, number := 1, stamp := 0, rate := 0, samples := [] }
    speaker := sp, block := block }

/-- The Air Link sends a CUT while two audio frames wait, the first of them late. -/
def lateAudio : State :=
  rich.modAir fun a =>
    { a with
      sending := some (.control (.cut 7 0))
      audio := [audioAt 0 .firstSend 11, audioAt 0 .firstSend 12] }

theorem witness_AirSendCompletes :
    (airBusy.rstLow = false ∧ airBusy.air.up = true
        ∧ airBusy.air.sending = some (.control (.cut 7 0)) ∧ airBusy.air.control = .cut 8 0 :: [])
      ∧ (lateAudio.rstLow = false ∧ lateAudio.air.up = true
        ∧ lateAudio.air.sending = some (.control (.cut 7 0)) ∧ lateAudio.air.control = []) := by
  decide +kernel

/-- The Source Link sends a report of no payload. -/
def sourceBusy : State :=
  rich.modSource fun l =>
    { l with
      sending := some (.report { sort := .ready, count := 1, block := 0, payload := [], loss := false }) }

theorem witness_SourceSendCompletes :
    sourceBusy.rstLow = false ∧ sourceBusy.source.up = true ∧ sourceBusy.source.sending.isSome = true := by
  decide +kernel

/-- The report of a cue's note of zone 0. -/
def noteReport : Report :=
  { sort := .event .cueNote 0, count := 255, block := 3, payload := [], loss := false }

/-- A reply. -/
def plainReply : Report :=
  { sort := .reply 1 .ok 7, count := 1, block := 3, payload := [], loss := false }

theorem witness_ReportsOffered :
    (({ SourceLink.reset with reports := [plainReply, noteReport] }).reports
        = [plainReply] ++ noteReport :: [] ∧ noteReport.sort = .event .cueNote 0
        ∧ ∀ x ∈ [plainReply] ++ [], x.sort ≠ .event .cueNote 0)
      ∧ ((List.replicate 31 plainReply).length < 32
        ∧ ∀ x ∈ List.replicate 31 plainReply, x.sort ≠ .event .cueNote 0)
      ∧ ((List.replicate 32 plainReply).length = 32
        ∧ ∀ x ∈ List.replicate 32 plainReply, x.isAnyEvent = false)
      ∧ (List.replicate 30 noteReport ++ noteReport :: [plainReply]).length = 32
      ∧ noteReport.isAnyEvent = true ∧ ∀ x ∈ [plainReply], x.isAnyEvent = false := by decide +kernel

/-- The Air Link sends while the audio frames `l` wait behind a full control class, less what they take. -/
def airFull (l : List AudioItem) : State :=
  rich.modAir fun a =>
    { a with
      sending := some (.control (.cut 7 0)), audio := l
      control := List.replicate (96 - l.length) (.cut 8 0) }

theorem witness_CutPurgesQueue :
    (airBusy.air.up = true ∧ airBusy.air.sending = some (.control (.cut 7 0))
      ∧ airBusy.air.control.length
          + (airBusy.air.audio.filter fun i => !(i.frame.address == 7 && decide (12 ≤ i.block))).length
          < 96)
    ∧ State.reset.air.up = false
    ∧ (rich.air.up = true ∧ rich.air.sending = none ∧ rich.air.control = [] ∧ rich.air.audio = []
      ∧ (tblGet rich.air.counters 0).cutPurges ≤ 4294967295)
    ∧ airBusy.air.control.length + airBusy.air.audio.length < 96
    ∧ (let s := airFull []
       s.air.up = true ∧ s.air.sending.isSome = true
        ∧ 96 ≤ s.air.control.length + s.air.audio.length ∧ s.air.audio = [])
    ∧ (let s := airFull [audioAt 0 .firstSend 11]
       96 ≤ s.air.control.length + s.air.audio.length
        ∧ s.air.audio = [] ++ [audioAt 0 .firstSend 11]
        ∧ (s.air.audio.filter fun i => !(i.frame.address == 7 && decide (12 ≤ i.block)))
          = [] ++ [audioAt 0 .firstSend 11]
        ∧ (audioAt 0 .refill 11).frame.audioKind ≠ .firstSend
        ∧ ∀ x ∈ s.air.audio, x.frame.audioKind = .firstSend)
    ∧ (let s := airFull [audioAt 0 .backfill 11, audioAt 0 .firstSend 12]
       96 ≤ s.air.control.length + s.air.audio.length
        ∧ s.air.audio = [] ++ audioAt 0 .backfill 11 :: [audioAt 0 .firstSend 12]
        ∧ (audioAt 0 .backfill 11).frame.audioKind ≠ .firstSend
        ∧ ∀ x ∈ [audioAt 0 .firstSend 12], x.frame.audioKind = .firstSend) := by decide +kernel

theorem witness_RestartBringsRest :
    playing.Listening ∧ d0.rank = 0 ∧ playing.air.downDiscards ≤ 4294967295
      ∧ ∀ sp : SpeakerNo, (tblGet playing.air.counters sp).Bounded := by
  refine ⟨listening_playing, rfl, by decide +kernel, ?_⟩
  unfold AirCounters.Bounded
  decide +kernel

theorem witness_RoundTakesNearest : (0 : Int) < 2 := by decide

/-- The entry of Table 34, in state `st`. -/
def entry34 (st : TrackState) : TrackerEntry :=
  { TrackerEntry.reset with
    state := st, rho := 800, rawT := 1048576, anchorT := 1048576, rawL := 268435456
    anchorL := 268435456 }

/-- The deviation that an input of count `l` at `t` measures of that entry. -/
def deviation34 (t : Nat) (l : LocalCount) : Int :=
  (((l - 268435456).toNat - 256 * ((t : Int) - 1048576)) * 65536).tdiv ((t : Int) - 1048576)

/-- Its phase error. -/
def error34 (t : Nat) (l : LocalCount) : Int :=
  let span : Int := 256 * ((t : Int) - 1048576)
  (l - (268435456 + BitVec.ofInt 32 (span + roundDiv (span * 800) 16777216))).toInt

/-- At the bounds of each case: the input of Table 34 accepted, in phase; an outlier; a phase beyond the limit; a
gap, and the last input that is none; a repeated input. -/
theorem witness_LockedEntryTracksInput :
    (∀ st ∈ [TrackState.unlocked, .acquiring, .locked, .stale], (entry34 st).state = st)
    ∧ (|deviation34 1052672 269484084 - 800| ≤ TrackingParams.reset.outlierLimit
      ∧ |error34 1052672 269484084| ≤ TrackingParams.reset.phaseLimit
      ∧ |deviation34 1052672 269484084| ≤ 16384)
    ∧ ((TrackingParams.reset.outlierLimit : Int) < |deviation34 1052672 269484200 - 800|
      ∧ |deviation34 1052672 269485056| ≤ 16384 ∧ 16384 < |deviation34 1052672 269485057|)
    ∧ (|deviation34 2097152 536883969 - 800| ≤ TrackingParams.reset.outlierLimit
      ∧ ({ TrackingParams.reset with phaseLimit := 256 } : TrackingParams).phaseLimit
        < |error34 2097152 536883969|)
    ∧ ((1048576 : Int) < (2097153 : Nat) - 1048576 ∧ ((2097152 : Nat) : Int) - 1048576 ≤ 1048576
      ∧ ((1048576 : Nat) : Int) - 1048576 ≤ 0)
    ∧ (TrackingParams.reset.acquireCount ≤ 3 + 1 ∧ (1 : Nat) < 2 ∧ ¬ (2 : Nat) < 2) := by decide +kernel

end Sys2Proof.Tests
end

section
/-! Every operation of the part keeps the laws of the clock, the rates, the queues, the links, the streams and
the settings: one lemma per shared operation, in the order of the model, up to `step_keeps`. -/

namespace Sys2Proof.Machine

open Sys2Proof

/-! ### The laws -/

/-- The Source Link's share of the queue and link laws, with the tap blocks that wait for it. -/
def SourceLink.Lawful (l : SourceLink) (taps : List TapBlock) : Prop :=
  l.reports.length ≤ Config.reportCapacity ∧ taps.length ≤ Config.tapCapacity
    ∧ (l.up = false → l.sending = none ∧ taps = [])
    ∧ (l.up = true → l.sending = none → l.reports = [] ∧ taps = [])

/-- The Air Link's share of the queue and link laws. -/
def AirLink.Lawful (a : AirLink) : Prop :=
  a.queueCount ≤ Config.airCapacity ∧ (a.up = false → a.sending = none)
    ∧ (a.sending = none → a.control = [] ∧ a.audio = [])

/-- The ranges to which SET TRACKING clamps (Table 32). -/
def TrackingParams.InRange (p : TrackingParams) : Prop :=
  p.g ≤ 7 ∧ p.h ≤ 7 ∧ 16 ≤ p.outlierLimit ∧ p.outlierLimit ≤ 4096
    ∧ 256 ≤ p.phaseLimit ∧ p.phaseLimit ≤ 1048576 ∧ 2 ≤ p.acquireCount ∧ p.acquireCount ≤ 15
    ∧ 2 ≤ p.staleLimit ∧ p.staleLimit ≤ 63 ∧ p.staleLimit < p.lostLimit ∧ p.lostLimit ≤ 255

/-- The ranges to which SET STORE clamps. -/
def CellStore.InRange (c : CellStore) : Prop :=
  c.depletionMark ≤ 1023 ∧ c.claimReserve ≤ 64 ∧ 1 ≤ c.refillMargin ∧ c.refillMargin ≤ 8

/-- The laws of Safety.lean that the operations keep one by one. -/
inductive Law where
  | clock
  | tau
  | interval
  | log
  | rho
  | anchors
  | source
  | air
  | streams
  | store
  | params
  | trims
  | prescales
  deriving DecidableEq

/-- What a law says of a state. -/
def Law.Holds (law : Law) (s : State) : Prop :=
  match law with
  | .clock => s.ClockConsistent
  | .tau => |s.timeline.tau| ≤ Config.rateLimit
  | .interval => 8 ≤ s.timeline.beaconInterval ∧ s.timeline.beaconInterval ≤ 255
  | .log => s.timeline.beaconLog.length ≤ Config.beaconLogCapacity
  | .rho => ∀ e : EntryNo, |(s.entry e).rho| ≤ Config.rateLimit
  | .anchors => s.AnchorsPaired
  | .source => s.source.Lawful s.playout.tap.buffer
  | .air => s.air.Lawful
  | .streams => s.StreamsLegal
  | .store => s.store.InRange
  | .params => s.tracker.params.InRange
  | .trims => ∀ sp : SpeakerNo, (s.trim sp).gain ≤ 32767 ∧ (s.trim sp).delay ≤ 1048575
  | .prescales => ∀ z : ZoneNo, (s.cueRun z).prescale ≤ 255

/-- The parts of the state that a law reads. -/
def Law.reads : Law → List Part
  | .clock => [.clock]
  | .tau => [.timing]
  | .interval => [.timing]
  | .log => [.timing]
  | .rho => [.entries]
  | .anchors => [.entries]
  | .source => [.source, .tap]
  | .air => [.air]
  | .streams => [.intake]
  | .store => [.store]
  | .params => [.params]
  | .trims => [.trims]
  | .prescales => [.cueRuns]

/-- The laws, listed. -/
def Law.all : List Law :=
  [.clock, .tau, .interval, .log, .rho, .anchors, .source, .air, .streams, .store, .params, .trims,
   .prescales]

theorem Law.mem_all (law : Law) : law ∈ Law.all := by cases law <;> decide

/-- Every law that is not listed reads none of the parts of `m`. -/
def Law.apart (laws : List Law) (m : List Part) : Bool :=
  Law.all.all fun law => laws.contains law || law.reads.all fun p => !m.contains p

theorem ratesBounded_iff (s : State) : s.RatesBounded ↔ Law.tau.Holds s ∧ Law.rho.Holds s := Iff.rfl

theorem queues_and_links_iff (s : State) :
    s.QueuesBounded ∧ s.LinksConsistent ↔ Law.log.Holds s ∧ Law.source.Holds s ∧ Law.air.Holds s := by
  unfold State.QueuesBounded State.LinksConsistent Law.Holds SourceLink.Lawful AirLink.Lawful
    AirLink.queueCount
  tauto

theorem settingsInRange_iff (s : State) :
    s.SettingsInRange ↔ Law.interval.Holds s ∧ Law.store.Holds s ∧ Law.params.Holds s
      ∧ Law.trims.Holds s ∧ Law.prescales.Holds s := Iff.rfl

/-- A law that reads no part in which two states differ holds of both. -/
theorem Law.Holds.of_only {law : Law} {m : List Part} {s t : State} (h : Only m s t)
    (apart : law.reads.all (fun p => !m.contains p) = true) (hs : law.Holds s) : law.Holds t := by
  have same : ∀ p ∈ law.reads, SameIn p s t := fun p hp =>
    h.2.2 p (by simpa using List.all_eq_true.mp apart p hp)
  cases law <;>
    simp only [Law.reads, List.mem_cons, List.not_mem_nil, or_false, forall_eq, forall_eq_or_imp,
      SameIn, Law.Holds, State.ClockConsistent, State.AnchorsPaired, State.StreamsLegal, State.entry,
      State.stream, State.trim, State.cueRun] at same hs ⊢ <;>
    simpa only [same] using hs

/-- Every law that holds of `s` holds of `t`. -/
def Keeps (s t : State) : Prop := ∀ law : Law, law.Holds s → law.Holds t

theorem Keeps.refl (s : State) : Keeps s s := fun _ h => h

theorem Keeps.trans {s t u : State} (h : Keeps s t) (k : Keeps t u) : Keeps s u :=
  fun law hs => k law (h law hs)

theorem Keeps.forEach {α : Type} (f : α → State → State) (h : ∀ a s, Keeps s (f a s)) (l : List α)
    (s : State) : Keeps s (s.forEach l f) := by
  induction l generalizing s with
  | nil => exact .refl s
  | cons a l ih => exact (h a s).trans (ih (f a s))

/-- Of a change to some parts, only the laws that read one of them need an argument. -/
theorem Only.keeps {m : List Part} {s t : State} (h : Only m s t) (laws : List Law)
    (kept : ∀ law ∈ laws, law.Holds s → law.Holds t) (others : Law.apart laws m = true := by decide) :
    Keeps s t := by
  intro law hs
  have apart := List.all_eq_true.mp others law law.mem_all
  rcases Bool.or_eq_true_iff.mp apart with listed | unread
  · exact kept law (by simpa using listed) hs
  · exact hs.of_only h unread

/-- A change to parts that no law reads. -/
theorem Only.keeps_free {m : List Part} {s t : State} (h : Only m s t)
    (others : Law.apart [] m = true := by decide) : Keeps s t := h.keeps [] (by simp) others

/-! ### The updates that a law reads -/

theorem Keeps.modStore {s : State} {f : CellStore → CellStore}
    (h : s.store.InRange → (f s.store).InRange) : Keeps s (s.modStore f) :=
  (Only.modStore s f).keeps [.store] (by simpa [Law.Holds] using h)

theorem Law.Holds.modStream {law : Law} {s : State} (hs : law.Holds s) {st : StreamNo}
    {f : Stream → Stream} (h : law = .streams → s.StreamsLegal → (f (s.stream st)).Legal) :
    law.Holds (s.modStream st f) := by
  by_cases streams : law = .streams
  · subst streams
    intro o
    rw [State.stream_modStream]
    split
    · exact h rfl hs
    · exact hs o
  · refine hs.of_only (Only.modStream s st f) ?_
    cases law <;> first | exact absurd rfl streams | rfl

theorem Keeps.modStream {s : State} {st : StreamNo} {f : Stream → Stream}
    (h : s.StreamsLegal → (f (s.stream st)).Legal) : Keeps s (s.modStream st f) :=
  fun _ hs => hs.modStream fun _ => h

theorem Keeps.modEntry {s : State} {e : EntryNo} {f : TrackerEntry → TrackerEntry}
    (rho : |(s.entry e).rho| ≤ Config.rateLimit → |(f (s.entry e)).rho| ≤ Config.rateLimit)
    (anchor : (s.entry e).anchorT = (s.entry e).rawT → (f (s.entry e)).anchorT = (f (s.entry e)).rawT) :
    Keeps s (s.modEntry e f) := by
  refine (Only.modEntry s e f).keeps [.rho, .anchors] ?_
  intro law hl hs
  have : law = .rho ∨ law = .anchors := by simpa using hl
  rcases this with rfl | rfl <;> intro o <;> rw [State.entry_modEntry] <;> split
  · exact rho (hs e)
  · exact hs o
  · exact anchor (hs e)
  · exact hs o

theorem Keeps.modCueRun {s : State} {z : ZoneNo} {f : CueRun → CueRun}
    (h : (s.cueRun z).prescale ≤ 255 → (f (s.cueRun z)).prescale ≤ 255) : Keeps s (s.modCueRun z f) := by
  refine (Only.modCueRun s z f).keeps [.prescales] ?_
  intro law hl hs
  obtain rfl : law = .prescales := by simpa using hl
  intro o
  rw [State.cueRun_modCueRun]
  split
  · exact h (hs z)
  · exact hs o

theorem Keeps.modAir {s : State} {f : AirLink → AirLink} (h : s.air.Lawful → (f s.air).Lawful) :
    Keeps s (s.modAir f) :=
  (Only.modAir s f).keeps [.air] (by simpa [Law.Holds] using h)

theorem Keeps.modTap {s : State} {f : Tap → Tap}
    (h : s.source.Lawful s.playout.tap.buffer → s.source.Lawful (f s.playout.tap).buffer) :
    Keeps s (s.modTap f) :=
  (Only.modTap s f).keeps [.source] (by simpa [Law.Holds] using h)

/-! ### The Report Queue -/

/-- A selection leaves a FREE side of an UP link with nothing that waits, whatever it finds (R197). -/
theorem selectSource_lawful (s : State) (reports : s.source.reports.length ≤ Config.reportCapacity)
    (taps : s.playout.tap.buffer.length ≤ Config.tapCapacity)
    (down : s.source.up = false → s.source.sending = none ∧ s.playout.tap.buffer = []) :
    (selectSource s).source.Lawful (selectSource s).playout.tap.buffer := by
  unfold selectSource
  split
  · rename_i free
    obtain ⟨up, free⟩ := Bool.and_eq_true_iff.mp free
    split <;> rename_i waiting
    · simp_all [SourceLink.Lawful]; omega
    · simp_all [SourceLink.Lawful]; omega
    · simp_all [SourceLink.Lawful]
  · rename_i busy
    refine ⟨reports, taps, down, fun up free => ?_⟩
    simp [up, free] at busy

/-- A change of the Source Link and the tap that ends in a selection. -/
theorem Keeps.selectSource {s t : State} (h : Only [.source, .tap] s t)
    (k : s.source.Lawful s.playout.tap.buffer →
      t.source.reports.length ≤ Config.reportCapacity ∧ t.playout.tap.buffer.length ≤ Config.tapCapacity
        ∧ (t.source.up = false → t.source.sending = none ∧ t.playout.tap.buffer = [])) :
    Keeps s (selectSource t) := by
  refine (h.then (m := [.source, .tap]) (Only.selectSource t)).keeps [.source] ?_
  intro law hl hs
  obtain rfl : law = .source := by simpa using hl
  obtain ⟨reports, taps, down⟩ := k hs
  exact selectSource_lawful t reports taps down

theorem SourceLink.offerEvent_length (l : SourceLink) (code : EventCode) (subject : Nat)
    (payload : List Field) (block : Nat) (h : l.reports.length ≤ Config.reportCapacity) :
    (l.offerEvent code subject payload block).reports.length ≤ Config.reportCapacity := by
  unfold SourceLink.offerEvent
  split
  · simpa using h
  · split
    · simpa [SourceLink.enter] using ‹_›
    · exact h

theorem SourceLink.offerFirm_length (l : SourceLink) (sort : ReportSort) (payload : List Field)
    (block : Nat) (h : l.reports.length ≤ Config.reportCapacity) :
    (l.offerFirm sort payload block).reports.length ≤ Config.reportCapacity := by
  unfold SourceLink.offerFirm
  split
  · simpa [SourceLink.enter] using ‹_›
  · split
    · rename_i found
      obtain ⟨r, hr, event⟩ := List.any_eq_true.mp found
      have shorter := List.length_eraseP_of_mem (List.mem_reverse.mpr hr) event
      have nonempty := List.length_pos_of_mem hr
      simp only [SourceLink.enter, dropNewestEvent, List.length_append, List.length_reverse, shorter,
        List.length_cons, List.length_nil]
      omega
    · exact h

/-- Offering a report leaves the link state and the transmit side. -/
theorem SourceLink.offerEvent_link (l : SourceLink) (code : EventCode) (subject : Nat)
    (payload : List Field) (block : Nat) :
    (l.offerEvent code subject payload block).up = l.up
      ∧ (l.offerEvent code subject payload block).sending = l.sending := by
  unfold SourceLink.offerEvent
  split
  · exact ⟨rfl, rfl⟩
  · split <;> exact ⟨rfl, rfl⟩

theorem SourceLink.offerFirm_link (l : SourceLink) (sort : ReportSort) (payload : List Field)
    (block : Nat) :
    (l.offerFirm sort payload block).up = l.up
      ∧ (l.offerFirm sort payload block).sending = l.sending := by
  unfold SourceLink.offerFirm
  split
  · exact ⟨rfl, rfl⟩
  · split <;> exact ⟨rfl, rfl⟩

theorem Keeps.offerEvent (code : EventCode) (subject : Nat) (payload : List Field) (s : State) :
    Keeps s (offerEvent code subject payload s) := by
  refine Keeps.selectSource (Only.modSource s _).widen ?_
  rintro ⟨reports, taps, down, -⟩
  obtain ⟨up, sending⟩ := s.source.offerEvent_link code subject payload s.block
  exact ⟨s.source.offerEvent_length _ _ _ _ reports, taps, by simpa [up, sending] using down⟩

/-- A REPLY or READY is offered to a link that is UP, or whose side is FREE and tap buffer empty. -/
theorem Keeps.offerFirm_after {s u : State} (h : Only [.source] s u)
    (reports : u.source.reports.length ≤ s.source.reports.length)
    (down : s.source.Lawful s.playout.tap.buffer → u.source.up = false →
      u.source.sending = none ∧ s.playout.tap.buffer = [])
    (sort : ReportSort) (payload : List Field) : Keeps s (offerFirm sort payload u) := by
  refine Keeps.selectSource (h.then (Only.modSource u _)) ?_
  intro hs
  have length := hs.1
  have taps := hs.2.1
  have same : u.playout.tap = s.playout.tap := h.2.2 .tap (by decide)
  obtain ⟨up, sending⟩ := u.source.offerFirm_link sort payload u.block
  refine ⟨u.source.offerFirm_length _ _ _ (reports.trans length), by simpa [same] using taps, ?_⟩
  simpa [up, sending, same] using down hs

theorem Keeps.offerFirm (sort : ReportSort) (payload : List Field) (s : State) :
    Keeps s (offerFirm sort payload s) :=
  Keeps.offerFirm_after (.refl _ s) le_rfl (fun h => h.2.2.1) sort payload

theorem Keeps.reply (kind : Byte) (d : Header) (status : Status) (payload : List Field) (s : State) :
    Keeps s (reply kind d status payload s) := Keeps.offerFirm _ _ s

theorem Keeps.completeSource (s : State) : Keeps s (completeSource s) := by
  unfold Machine.completeSource
  split
  · exact .refl s
  all_goals
    refine Keeps.selectSource (Only.modSource s _).widen ?_
    rintro ⟨reports, taps, down, -⟩
    exact ⟨reports, taps, fun up => ⟨rfl, (down up).2⟩⟩

/-! ### The Cell Store -/

theorem Keeps.depletionCheck (s : State) : Keeps s (depletionCheck s) := by
  unfold Machine.depletionCheck
  split
  · exact (Keeps.modStore id).trans (Keeps.offerEvent _ _ _ _)
  · exact .refl s

theorem Keeps.takeCell {kind : TakeKind} {s t : State} {c : CellNo}
    (h : takeCell kind s = some (c, t)) : Keeps s t := by
  unfold Machine.takeCell at h
  split at h
  · cases h
  · split at h
    · cases h
      exact (Keeps.modStore id).trans (Keeps.depletionCheck _)
    · cases h

theorem CellStore.InRange.rearm {c : CellStore} (h : c.InRange) : c.rearm.InRange := by
  rw [CellStore.rearm_eq]
  exact h

theorem Keeps.setCell (c : CellNo) (x : Cell) (s : State) : Keeps s (s.setCell c x) :=
  Keeps.modStore id

theorem Keeps.releaseCell (c : CellNo) (s : State) : Keeps s (releaseCell c s) :=
  Keeps.modStore fun h => CellStore.InRange.rearm h

theorem Keeps.releaseCells (cs : List CellNo) (s : State) : Keeps s (releaseCells cs s) :=
  Keeps.forEach _ Keeps.releaseCell cs s

/-! ### The Air Link -/

/-- The frames of the audio class that are late are gone after a selection, and the first that is not is being
sent (R174, R175). -/
theorem selectAudio_air (l : List AudioItem) (s : State) :
    ∃ counters, (selectAudio l s).air = { s.air with audio := [], counters := counters }
      ∨ ∃ i rest, rest.length < l.length ∧ (selectAudio l s).air =
          { s.air with audio := rest, sending := some (.audio i), counters := counters } := by
  induction l generalizing s with
  | nil => exact ⟨_, .inl rfl⟩
  | cons i l ih =>
    unfold selectAudio
    split
    · obtain ⟨counters, h⟩ := ih (s.modAirCounters i.speaker fun c =>
        { c with lateDiscards := bump c.lateDiscards 1 })
      refine ⟨counters, h.imp id ?_⟩
      rintro ⟨j, rest, shorter, h⟩
      exact ⟨j, rest, by simp; omega, h⟩
    · exact ⟨s.air.counters, .inr ⟨i, l, by simp, rfl⟩⟩

/-- A selection leaves a FREE side of an UP link with nothing that waits, whatever it finds (R174). -/
theorem selectAir_lawful (s : State) (count : s.air.queueCount ≤ Config.airCapacity)
    (down : s.air.up = false → s.air.sending = none ∧ s.air.control = [] ∧ s.air.audio = []) :
    (selectAir s).air.Lawful := by
  unfold selectAir
  unfold AirLink.queueCount at count
  split
  · rename_i free
    obtain ⟨up, free⟩ := Bool.and_eq_true_iff.mp free
    split
    · rename_i f rest queue
      rw [queue, List.length_cons] at count
      refine ⟨?_, by simp [up], by simp⟩
      simp only [State.modAir_air, AirLink.queueCount]
      omega
    · rename_i queue
      obtain ⟨counters, h | ⟨i, rest, shorter, h⟩⟩ := selectAudio_air s.air.audio s
      · rw [h]
        exact ⟨by simp [AirLink.queueCount, queue], by simp [up], by simp [queue]⟩
      · rw [h]
        refine ⟨?_, by simp [up], by simp⟩
        simp only [AirLink.queueCount]
        omega
  · rename_i busy
    refine ⟨count, fun up => (down up).1, fun free => ?_⟩
    cases up : s.air.up
    · exact (down up).2
    · simp [up, free] at busy

/-- A change of the Air Link that ends in a selection. -/
theorem Keeps.selectAir {s t : State} (h : Only [.air] s t)
    (k : s.air.Lawful → t.air.queueCount ≤ Config.airCapacity
      ∧ (t.air.up = false → t.air.sending = none ∧ t.air.control = [] ∧ t.air.audio = [])) :
    Keeps s (selectAir t) := by
  refine (h.then (m := [.air]) (Only.selectAir t)).keeps [.air] ?_
  intro law hl hs
  obtain rfl : law = .air := by simpa using hl
  obtain ⟨count, down⟩ := k hs
  exact selectAir_lawful t count down

/-- What is handed to an UP link is placed in its queue, which stays within its capacity. -/
theorem Keeps.handed {s t : State} (up : s.air.up = true) (h : Only [.air] s t)
    (same : t.air.up = s.air.up)
    (count : s.air.queueCount ≤ Config.airCapacity → t.air.queueCount ≤ Config.airCapacity) :
    Keeps s (Machine.selectAir t) :=
  Keeps.selectAir h fun hs => ⟨count hs.1, fun down => by simp [same, up] at down⟩

theorem Keeps.countDown (k : Nat) (s : State) : Keeps s (countDown k s) := Keeps.modAir id

theorem Keeps.modAirCounters (sp : SpeakerNo) (f : AirCounters → AirCounters) (s : State) :
    Keeps s (s.modAirCounters sp f) := Keeps.modAir id

theorem placeControl_up (f : ControlFrame) (s : State) : (placeControl f s).air.up = s.air.up := by
  unfold placeControl
  split
  · rfl
  · split <;> rfl

theorem placeControl_count (f : ControlFrame) (s : State)
    (h : s.air.queueCount ≤ Config.airCapacity) :
    (placeControl f s).air.queueCount ≤ Config.airCapacity := by
  unfold placeControl
  unfold AirLink.queueCount at *
  split
  · simp only [queueControl, State.modAir_air, List.length_append, List.length_cons, List.length_nil]
    omega
  · split
    · rename_i newest
      have nonempty := List.length_pos_of_mem (List.mem_of_getLast? newest)
      simp only [queueControl, countAirDrop, State.modAir_air, State.modAirCounters_air,
        List.length_append, List.length_cons, List.length_nil, List.length_dropLast]
      omega
    · exact h

theorem Keeps.handBeacon (number : SerialNo) (block interval : Nat) (s : State) :
    Keeps s (handBeacon number block interval s) := by
  unfold Machine.handBeacon
  split
  · rename_i up
    exact Keeps.handed up (Only.placeControl _ s) (placeControl_up _ s) (placeControl_count _ s)
  · exact Keeps.countDown _ s

theorem Keeps.handCut (sp : SpeakerNo) (address : AirAddress) (stamp : LocalCount) (cutBlock : Nat)
    (s : State) : Keeps s (handCut sp address stamp cutBlock s) := by
  unfold Machine.handCut
  split
  · rename_i up
    refine Keeps.handed up ((Only.purge sp address cutBlock s).then (Only.placeControl _ _))
      (placeControl_up _ _) fun count => placeControl_count _ _ ?_
    have fewer := List.length_filter_le (fun i => !i.purgedBy address cutBlock) s.air.audio
    simp only [purge, AirLink.queueCount, State.modAir_air, State.modAirCounters_air] at *
    omega
  · exact Keeps.countDown _ s

theorem dropNewestExtra_length {l : List AudioItem} {i : AudioItem}
    (h : l.reverse.find? AudioItem.isExtra = some i) : (dropNewestExtra l).length = l.length - 1 := by
  have shorter := List.length_eraseP_of_mem (List.mem_of_find?_eq_some h) (List.find?_some h)
  rw [dropNewestExtra, List.length_reverse, shorter, List.length_reverse]

theorem placeAudio_up (i : AudioItem) (s : State) : (placeAudio i s).air.up = s.air.up := by
  unfold placeAudio
  split
  · rfl
  · split
    · rfl
    · split <;> rfl

theorem placeAudio_count (i : AudioItem) (s : State) (h : s.air.queueCount ≤ Config.airCapacity) :
    (placeAudio i s).air.queueCount ≤ Config.airCapacity := by
  unfold placeAudio
  unfold AirLink.queueCount at *
  split
  · simp only [queueAudio, State.modAir_air, List.length_append, List.length_cons, List.length_nil]
    omega
  · split
    · exact h
    · split
      · rename_i shed
        have shorter := dropNewestExtra_length shed
        have nonempty := List.length_pos_of_mem (List.mem_of_find?_eq_some shed)
        rw [List.length_reverse] at nonempty
        simp only [queueAudio, countAirDrop, State.modAir_air, State.modAirCounters_air,
          List.length_append, List.length_cons, List.length_nil]
        omega
      · exact h

theorem Keeps.handAudio (i : AudioItem) (s : State) : Keeps s (handAudio i s) := by
  unfold Machine.handAudio
  split
  · rename_i up
    exact Keeps.handed up (Only.placeAudio i s) (placeAudio_up i s) (placeAudio_count i s)
  · exact Keeps.countDown _ s

theorem Keeps.completeAir (s : State) : Keeps s (completeAir s) := by
  unfold Machine.completeAir
  split
  · exact .refl s
  all_goals
    rename_i sending
    refine Keeps.selectAir (Only.modAir s _) fun hs => ⟨hs.1, fun down => ?_⟩
    have free := hs.2.1 down
    simp [free] at sending

theorem Keeps.airDown (s : State) : Keeps s (airDown s) := by
  unfold Machine.airDown
  split
  · exact Keeps.modAir fun _ => ⟨Nat.zero_le _, fun _ => rfl, fun _ => ⟨rfl, rfl⟩⟩
  · exact .refl s

theorem Keeps.airUp (s : State) : Keeps s (airUp s) := by
  unfold Machine.airUp
  split
  · exact .refl s
  · exact Keeps.modAir fun _ => ⟨Nat.zero_le _, fun _ => rfl, fun _ => ⟨rfl, rfl⟩⟩

theorem Keeps.restartAir (s : State) : Keeps s (restartAir s) :=
  Keeps.modAir fun h => ⟨Nat.zero_le _, h.2.1, fun _ => ⟨rfl, rfl⟩⟩

end Sys2Proof.Machine
end

section
namespace Sys2Proof.Machine

open Sys2Proof

/-! ### Speakers and claims -/

theorem Keeps.sendEntry (kind : AudioKind) (z : ZoneNo) (sp : SpeakerNo) (e : IssueEntry) (s : State) :
    Keeps s (sendEntry kind z sp e s) :=
  (Only.modSpeaker s sp fun r => r.afterSend kind z e).keeps_free.trans (Keeps.handAudio _ _)

theorem Keeps.join (sp : SpeakerNo) (s : State) : Keeps s (join sp s) := by
  unfold Machine.join
  have ramp := (Only.setRampPending sp s).keeps_free
  split
  · exact ramp
  · split
    · exact ramp.trans (Keeps.forEach _ (fun _ _ => Keeps.sendEntry _ _ _ _ _) _ _)
    · exact ramp

theorem Keeps.recompute (sp : SpeakerNo) (s : State) : Keeps s (recompute sp s) :=
  (Only.recompute sp s).keeps_free

theorem Keeps.refresh (sp : SpeakerNo) (s : State) : Keeps s (refresh sp s) := by
  unfold Machine.refresh
  simp only []
  split
  · exact (Keeps.recompute sp s).trans (Keeps.join _ _)
  · exact Keeps.recompute sp s

theorem Keeps.cutAt (sp : SpeakerNo) (address : AirAddress) (s : State) :
    Keeps s (cutAt sp address s) :=
  (Keeps.handCut _ _ _ _ s).trans (Only.modSpeaker _ _ _).keeps_free

theorem Keeps.cut (sp : SpeakerNo) (s : State) : Keeps s (cut sp s) := Keeps.cutAt _ _ s

theorem Keeps.resyncNotice (sp : SpeakerNo) (s : State) : Keeps s (resyncNotice sp s) :=
  (Only.resyncNotice sp s).keeps_free

theorem Keeps.presenceNotice (sp : SpeakerNo) (s : State) : Keeps s (presenceNotice sp s) :=
  ((Keeps.resyncNotice sp s).trans (Keeps.recompute _ _)).trans (Keeps.join _ _)

theorem Keeps.firstSends (z : ZoneNo) (e : IssueEntry) (s : State) : Keeps s (firstSends z e s) := by
  refine Keeps.forEach _ (fun sp t => ?_) _ s
  unfold firstSend
  split
  · split
    · exact Keeps.sendEntry _ _ _ _ t
    · exact (Only.modSpeaker t _ _).keeps_free
  · exact .refl t

theorem Keeps.claimMade (z : ZoneNo) (q : Nat) (role : Role) (sp : SpeakerNo) (c : CellNo)
    (s : State) : Keeps s (claimMade z q role sp c s) :=
  ((((Keeps.setCell c _ s).trans (Only.setClaimStack _ _ _).keeps_free).trans
    (Only.modClaimCounters _ _ _).keeps_free).trans (Keeps.cut _ _)).trans (Keeps.refresh _ _)

theorem Keeps.judgeClaim (z : ZoneNo) (q : Nat) (role : Role) (sp : SpeakerNo) (s : State) :
    Keeps s (judgeClaim z q role sp s) := by
  unfold Machine.judgeClaim
  split
  · exact (Only.modClaimCounters s _ _).keeps_free.trans (Keeps.offerEvent _ _ _ _)
  · split
    · exact (Keeps.takeCell ‹_›).trans (Keeps.claimMade _ _ _ _ _ _)
    · exact (Only.modClaimCounters s _ _).keeps_free.trans (Keeps.offerEvent _ _ _ _)

theorem Keeps.releaseRecord (sp : SpeakerNo) (c : CellNo) (s : State) :
    Keeps s (releaseRecord sp c s) :=
  (Only.setClaimStack s _ _).keeps_free.trans (Keeps.releaseCell _ _)

theorem Keeps.endedNotice (z : ZoneNo) (s : State) : Keeps s (endedNotice z s) := by
  refine Keeps.forEach _ (fun sp t => ?_) _ s
  unfold endClaim
  split
  · exact .refl t
  · split
    · exact (Keeps.releaseRecord _ _ t).trans (Keeps.refresh _ _)
    · exact Keeps.releaseRecord _ _ t

theorem Keeps.removeClaims (sp : SpeakerNo) (s : State) : Keeps s (removeClaims sp s) :=
  (Only.setClaimStack s _ _).keeps_free.trans (Keeps.releaseCells _ _)

/-! ### Stream queues -/

/-- A change of a stream that leaves its class and bounds, clears the demand armed flag or leaves it, and makes
its queue no longer. -/
theorem Stream.Legal.shorten {d e : Stream} (h : d.Legal) (present : e.present = d.present)
    (cls : e.cls = d.cls) (quota : e.quota = d.quota) (mark : e.demandMark = d.demandMark)
    (queue : e.queue.length ≤ d.queue.length) (armed : e.demandArmed = true → d.demandArmed = true) :
    e.Legal := by
  obtain ⟨fits, least, most, demand, absent, live⟩ := h
  unfold Stream.Legal
  rw [present, cls, quota, mark]
  refine ⟨queue.trans fits, least, most, demand, fun a => ?_, fun l => ?_⟩
  · rw [absent a] at queue
    exact List.length_eq_zero_iff.mp (Nat.le_zero.mp queue)
  · by_contra on
    exact absurd (armed (by simpa using on)) (by simp [live l])

theorem Keeps.demandReport (st : StreamNo) (s : State) : Keeps s (demandReport st s) :=
  (Keeps.modStream fun h => (h st).shorten rfl rfl rfl rfl le_rfl (by simp)).trans
    (Keeps.offerEvent _ _ _ _)

theorem Keeps.demandCheck (st : StreamNo) (s : State) : Keeps s (demandCheck st s) := by
  unfold Machine.demandCheck
  simp only []
  split
  · exact Keeps.demandReport st s
  · exact .refl s

theorem Keeps.issueAnswer (st : StreamNo) (s : State) : Keeps s (issueAnswer st s).2 := by
  unfold Machine.issueAnswer
  split
  · rename_i queue
    refine (Keeps.modStream fun h => (h st).shorten rfl rfl rfl rfl ?_ id).trans
      (Keeps.demandCheck _ _)
    simp [queue]
  · refine Keeps.modStream fun h => ?_
    split <;> exact (h st).shorten rfl rfl rfl rfl le_rfl id

theorem Keeps.emptyQueue (st : StreamNo) (s : State) : Keeps s (emptyQueue st s) :=
  (Keeps.releaseCells _ s).trans
    (Keeps.modStream fun h => (h st).shorten rfl rfl rfl rfl (Nat.zero_le _) id)

theorem Keeps.flushQueue (st : StreamNo) (s : State) : Keeps s (flushQueue st s) := by
  unfold Machine.flushQueue
  simp only []
  split
  · exact (Keeps.emptyQueue st s).trans (Keeps.demandReport _ _)
  · exact Keeps.emptyQueue st s

theorem Keeps.restartStreams (s : State) : Keeps s (restartStreams s) := by
  have emptied : Keeps s (s.modIntake fun i => { i with
      streams := tblMap i.streams fun d =>
        { d with queue := [], expected := none, demandArmed := false } }) := by
    refine (Only.modIntake s _).keeps [.streams] ?_
    intro law hl hs
    obtain rfl : law = .streams := by simpa using hl
    intro st
    simpa [State.stream] using (hs st).shorten (e := { s.stream st with
      queue := [], expected := none, demandArmed := false }) rfl rfl rfl rfl (Nat.zero_le _) (by simp)
  refine emptied.trans (Keeps.forEach _ (fun st t => ?_) _ _)
  unfold restartDemand
  split
  · exact Keeps.demandReport st t
  · exact .refl t

/-! ### Zones, cues and the work of a zone -/

theorem Keeps.endTap (z : ZoneNo) (s : State) : Keeps s (endTap z s) := by
  unfold Machine.endTap
  split
  · exact (Keeps.modTap id).trans (Keeps.offerEvent _ _ _ _)
  · exact .refl s

theorem Keeps.reachIdle (z : ZoneNo) (s : State) : Keeps s (reachIdle z s) := by
  unfold Machine.reachIdle
  have h : ∀ f payload, Keeps s (Machine.endTap z
      (Machine.offerEvent .zoneEnded z.val payload (s.modZone z f))) := fun f _ =>
    ((Only.modZone s z f).keeps_free.trans (Keeps.offerEvent _ _ _ _)).trans (Keeps.endTap z _)
  simp only []
  split
  · exact (h _ _).trans (Keeps.endedNotice _ _)
  · exact h _ _

theorem Keeps.settleDraining (z : ZoneNo) (s : State) : Keeps s (settleDraining z s) := by
  unfold Machine.settleDraining
  split
  · exact Keeps.reachIdle z s
  · exact .refl s

theorem Keeps.enterDraining (z : ZoneNo) (s : State) : Keeps s (enterDraining z s) :=
  (Only.enterDraining z s).keeps_free

theorem Keeps.softStop (z : ZoneNo) (s : State) : Keeps s (softStop z s) := by
  unfold Machine.softStop
  split
  · exact (Keeps.enterDraining z s).trans (Keeps.settleDraining _ _)
  · exact (Keeps.enterDraining z s).trans (Keeps.settleDraining _ _)
  · exact .refl s
  · exact .refl s

theorem Keeps.trimRing (z : ZoneNo) (keep : IssueEntry → Bool) (s : State) :
    Keeps s (trimRing z keep s) :=
  (Only.modZone s _ _).keeps_free.trans (Keeps.releaseCells _ _)

theorem Keeps.releaseDue (z : ZoneNo) (s : State) : Keeps s (releaseDue z s) := Keeps.trimRing _ _ s

theorem Keeps.hardStop (z : ZoneNo) (s : State) : Keeps s (hardStop z s) := by
  unfold Machine.hardStop
  split
  · exact .refl s
  · exact (((Keeps.enterDraining z s).trans (Keeps.trimRing _ _ _)).trans
      (Keeps.forEach _ (fun _ _ => Keeps.cut _ _) _ _)).trans (Keeps.settleDraining _ _)

theorem Keeps.startZone (z : ZoneNo) (s : State) : Keeps s (startZone z s) :=
  (Keeps.modCueRun id).trans (Only.modZone (startNotice z s) z _).keeps_free

theorem Keeps.executeWord (z : ZoneNo) (s : State) : Keeps s (executeWord z s).1 := by
  unfold Machine.executeWord
  simp only []
  split
  · exact Keeps.modCueRun id
  · exact (Only.modZone s _ _).keeps_free.trans (Keeps.modCueRun id)
  · exact Keeps.modCueRun fun h => by split <;> exact h
  · exact Keeps.modCueRun fun h => by split <;> exact h
  · exact Keeps.modCueRun fun h => by split <;> exact h
  · exact (Keeps.offerEvent _ _ _ s).trans (Keeps.modCueRun fun h => by split <;> exact h)
  · exact Keeps.modCueRun id
  · exact (Keeps.modCueRun id).trans (Keeps.softStop _ _)
  · exact (Keeps.modCueRun id).trans (Keeps.offerEvent _ _ _ _)

theorem Keeps.executeRun (z : ZoneNo) (n : Nat) (s : State) : Keeps s (executeRun z n s) := by
  induction n generalizing s with
  | zero => exact .refl s
  | succ n ih =>
    have h := Keeps.executeWord z s
    unfold Machine.executeRun
    split <;> rename_i e <;> rw [e] at h
    · exact h
    · exact h.trans (ih _)

theorem CueRun.countIfWaiting_prescale (c : CueRun) : c.countIfWaiting.prescale = c.prescale := by
  unfold CueRun.countIfWaiting CueRun.countWait
  split
  · split <;> rfl
  · rfl

theorem Keeps.boundaryNotice (z : ZoneNo) (s : State) : Keeps s (boundaryNotice z s) := by
  unfold Machine.boundaryNotice
  have counted : Keeps s (s.modCueRun z CueRun.countIfWaiting) :=
    Keeps.modCueRun fun h => by rwa [CueRun.countIfWaiting_prescale]
  simp only []
  split
  · split
    · exact counted
    · exact counted.trans (Keeps.executeRun _ _ _)
  · exact .refl s

theorem Keeps.issueConcealed (z : ZoneNo) (gainStart : Nat) (s : State) :
    Keeps s (issueConcealed z gainStart s).2 := by
  unfold Machine.issueConcealed
  simp only []
  split
  · split
    · exact ((Keeps.takeCell ‹_›).trans (Keeps.setCell _ _ _)).trans (Only.modZone _ _ _).keeps_free
    · exact (Only.modZone s _ _).keeps_free
  · exact (Only.modZone s _ _).keeps_free

theorem Keeps.issue (z : ZoneNo) (gainStart : Nat) (s : State) : Keeps s (issue z gainStart s).2 := by
  unfold Machine.issue
  split
  · exact (Only.modZone s _ _).keeps_free
  · rename_i st _
    have answer := Keeps.issueAnswer st s
    split <;> rename_i e <;> rw [e] at answer
    · exact answer.trans (Only.modZone _ _ _).keeps_free
    · split
      · exact answer.trans (Keeps.issueConcealed _ _ _)
      · exact (answer.trans (Only.modZone _ _ _).keeps_free).trans (Keeps.offerEvent _ _ _ _)

theorem Keeps.bufferTap (b : TapBlock) (s : State) : Keeps s (bufferTap b s) := by
  unfold Machine.bufferTap
  split
  · rename_i up
    refine Keeps.selectSource (Only.modTap s _).widen fun hs => ?_
    obtain ⟨reports, taps, -, -⟩ := hs
    refine ⟨reports, ?_, by simp [up]⟩
    simp only [State.modTap_playout]
    split
    · simpa using ‹_›
    · simp only [List.length_append, List.length_drop, List.length_cons, List.length_nil]
      unfold Config.tapCapacity at *
      omega
  · exact Keeps.modTap id

theorem Keeps.tapIssue (z : ZoneNo) (e : IssueEntry) (s : State) : Keeps s (tapIssue z e s) := by
  unfold Machine.tapIssue
  split
  · exact (Keeps.modTap (f := fun t => { t with state := .active z }) id).trans (Keeps.bufferTap _ _)
  · exact .refl s

theorem Keeps.issueWork (z : ZoneNo) (s : State) : Keeps s (issueWork z s) := by
  unfold Machine.issueWork
  have issued : ∀ f g e, Keeps s (Machine.firstSends z e (Machine.tapIssue z e
      (Machine.issue z g (s.modZone z f)).2)) := fun f g e =>
    (((Only.modZone s z f).keeps_free.trans (Keeps.issue z g _)).trans (Keeps.tapIssue z e _)).trans
      (Keeps.firstSends z e _)
  simp only []
  split
  · exact ((issued _ _ _).trans (Keeps.enterDraining _ _)).trans (Keeps.settleDraining _ _)
  · exact issued _ _ _

theorem Keeps.playingSteps (z : ZoneNo) (s : State) : Keeps s (playingSteps z s) := by
  unfold Machine.playingSteps
  simp only []
  split
  · exact (Keeps.boundaryNotice z s).trans (Keeps.issueWork _ _)
  · exact Keeps.boundaryNotice z s

theorem Keeps.enterPlaying (z : ZoneNo) (s : State) : Keeps s (enterPlaying z s) := by
  unfold Machine.enterPlaying
  simp only []
  split
  · exact ((Only.modZone s z _).keeps_free.trans
      (Keeps.forEach _ (fun _ _ => Keeps.judgeClaim _ _ _ _ _) _ _)).trans (Keeps.offerEvent _ _ _ _)
  · exact (Only.modZone s z _).keeps_free.trans (Keeps.offerEvent _ _ _ _)

theorem Keeps.primingWork (z : ZoneNo) (s : State) : Keeps s (primingWork z s) := by
  unfold Machine.primingWork
  simp only []
  split
  · exact Keeps.releaseDue z s
  · split
    · exact ((Keeps.releaseDue z s).trans (Keeps.enterPlaying _ _)).trans (Keeps.playingSteps _ _)
    · exact Keeps.releaseDue z s

theorem Keeps.drainingWork (z : ZoneNo) (s : State) : Keeps s (drainingWork z s) := by
  unfold Machine.drainingWork
  have settled := (Keeps.releaseDue z s).trans (Keeps.settleDraining z _)
  simp only []
  split
  · exact settled.trans (Keeps.boundaryNotice _ _)
  · exact settled

theorem Keeps.zoneWork (z : ZoneNo) (s : State) : Keeps s (zoneWork z s) := by
  unfold Machine.zoneWork
  split
  · exact .refl s
  · exact Keeps.primingWork z s
  · exact (Keeps.releaseDue z s).trans (Keeps.playingSteps _ _)
  · exact Keeps.drainingWork z s

end Sys2Proof.Machine
end

section
namespace Sys2Proof.Machine

open Sys2Proof

/-! ### The Clock Tracker -/

/-- What an operation does to an entry keeps ρ within its range, and the anchor at the raw pair's count. -/
structure TrackerEntry.Sound (e e' : TrackerEntry) : Prop where
  rho : |e.rho| ≤ Config.rateLimit → |e'.rho| ≤ Config.rateLimit
  anchor : e.anchorT = e.rawT → e'.anchorT = e'.rawT

theorem Keeps.modEntry_sound {s : State} {e : EntryNo} {f : TrackerEntry → TrackerEntry}
    (h : (s.entry e).Sound (f (s.entry e))) : Keeps s (s.modEntry e f) :=
  Keeps.modEntry h.rho h.anchor

/-- A change of state and counters alone. -/
theorem TrackerEntry.Sound.of_same {e e' : TrackerEntry} (rho : e'.rho = e.rho)
    (raw : e'.rawT = e.rawT) (anchor : e'.anchorT = e.anchorT) : e.Sound e' :=
  ⟨by rw [rho]; exact id, by rw [raw, anchor]; exact id⟩

/-- Raw pair and anchor set to one input, ρ kept or clamped. -/
theorem TrackerEntry.Sound.of_paired {e e' : TrackerEntry} (paired : e'.anchorT = e'.rawT)
    (rho : |e.rho| ≤ Config.rateLimit → |e'.rho| ≤ Config.rateLimit) : e.Sound e' :=
  ⟨rho, fun _ => paired⟩

theorem TrackerEntry.acquire_sound (p : TrackingParams) (e : TrackerEntry) (t : Nat) (l : LocalCount) :
    e.Sound (e.acquire p t l).1 := by
  unfold TrackerEntry.acquire
  simp only []
  split
  · exact .of_paired rfl id
  · split <;> exact .of_paired rfl fun _ => abs_clampRate_le _

theorem TrackerEntry.reject_sound (e : TrackerEntry) (t : Nat) (l : LocalCount) :
    e.Sound (e.reject t l).1 := by
  unfold TrackerEntry.reject
  simp only []
  split
  · exact .of_paired rfl id
  · exact .of_same rfl rfl rfl

theorem TrackerEntry.movePhase_anchorT (p : TrackingParams) (e : TrackerEntry) (t : Nat)
    (l : LocalCount) : (e.movePhase p t l).1.anchorT = t := by
  unfold TrackerEntry.movePhase
  simp only []
  split <;> rfl

theorem TrackerEntry.accept_sound (p : TrackingParams) (e : TrackerEntry) (t : Nat) (l : LocalCount) :
    e.Sound (e.accept p t l).1 :=
  .of_paired (e.movePhase_anchorT p t l) fun _ => abs_clampRate_le _

theorem TrackerEntry.gap_sound (e : TrackerEntry) (t : Nat) (l : LocalCount) :
    e.Sound (e.gap t l).1 := .of_paired rfl id

theorem recover_sound {e : TrackerEntry} (was : TrackState) {x : TrackerEntry × List TrackEvent}
    (h : e.Sound x.1) : e.Sound (recover was x).1 := by
  unfold recover
  split
  · exact ⟨h.rho, h.anchor⟩
  · exact h

theorem TrackerEntry.follow_sound (p : TrackingParams) (e : TrackerEntry) (t : Nat) (l : LocalCount) :
    e.Sound (e.follow p t l).1 := by
  unfold TrackerEntry.follow
  split
  · exact recover_sound _ (e.gap_sound t l)
  · split
    · exact e.reject_sound t l
    · exact recover_sound _ (e.accept_sound p t l)

theorem TrackerEntry.input_sound (p : TrackingParams) (e : TrackerEntry) (t : Nat) (l : LocalCount) :
    e.Sound (e.input p t l).1 := by
  unfold TrackerEntry.input
  split
  · exact .of_paired rfl id
  · split
    · exact .of_same rfl rfl rfl
    · exact e.acquire_sound p t l
  all_goals
    split
    · exact .of_same rfl rfl rfl
    · exact e.follow_sound p t l

theorem rate_zero : |(0 : Int)| ≤ Config.rateLimit := by decide

theorem TrackerEntry.resync_sound (e : TrackerEntry) (found : Option Nat) (l : LocalCount) :
    e.Sound (e.resync found l) := by
  unfold TrackerEntry.resync
  split
  · exact .of_paired rfl fun _ => rate_zero
  · exact ⟨fun _ => rate_zero, id⟩

theorem TrackerEntry.hush_sound (p : TrackingParams) (e : TrackerEntry) : e.Sound (e.hush p).1 := by
  unfold TrackerEntry.hush
  simp only []
  split
  · exact .of_same rfl rfl rfl
  all_goals split <;> exact .of_same rfl rfl rfl

theorem Keeps.speakerEvent (sp : SpeakerNo) (ev : TrackEvent) (s : State) :
    Keeps s (speakerEvent sp ev s) := by
  unfold Machine.speakerEvent
  cases ev
  · exact (Keeps.offerEvent _ _ _ s).trans (Keeps.join _ _)
  · exact (Keeps.offerEvent _ _ _ s).trans (Only.setRampPending _ _).keeps_free
  · exact Keeps.offerEvent _ _ _ s
  · exact Keeps.offerEvent _ _ _ s

theorem Keeps.trackInput (e : EntryNo) (t : Nat) (l : LocalCount) (s : State) :
    Keeps s (trackInput e t l s) := by
  unfold Machine.trackInput
  have written : Keeps s (s.modEntry e fun _ => ((s.entry e).input s.tracker.params t l).1) :=
    Keeps.modEntry_sound ((s.entry e).input_sound _ t l)
  simp only []
  split
  · exact written.trans (Keeps.forEach _ (fun _ _ => Keeps.speakerEvent _ _ _) _ _)
  · exact written

theorem Keeps.clearSilence (e : EntryNo) (s : State) : Keeps s (clearSilence e s) :=
  Keeps.modEntry_sound (.of_same rfl rfl rfl)

theorem Keeps.observe (st : StreamNo) (sourceIndex : BitVec 32) (s : State) :
    Keeps s (observe st sourceIndex s) := (Keeps.clearSilence _ s).trans (Keeps.trackInput _ _ _ _)

theorem Keeps.resyncEcho (sp : SpeakerNo) (found : Option Nat) (l : LocalCount) (s : State) :
    Keeps s (resyncEcho sp found l s) :=
  ((Keeps.modEntry_sound (TrackerEntry.resync_sound _ found l)).trans (Keeps.offerEvent _ _ _ _)).trans
    (Keeps.resyncNotice _ _)

theorem Keeps.handEcho (sp : SpeakerNo) (f : SerialNo) (l : LocalCount) (resync : Bool) (s : State) :
    Keeps s (handEcho sp f l resync s) := by
  unfold Machine.handEcho
  have heard : Keeps s ((Machine.clearSilence (speakerEntry sp) s).setAccessed sp true) :=
    (Keeps.clearSilence _ s).trans (Only.setAccessed _ _ _).keeps_free
  simp only []
  generalize (Machine.clearSilence (speakerEntry sp) s).setAccessed sp true = u at heard ⊢
  have judged : Keeps s (if (u.lookupBeacon f).isNone = true then
      u.modEntry (speakerEntry sp) fun x => { x with staleEchoes := bump x.staleEchoes 1 } else u) := by
    split
    · exact heard.trans (Keeps.modEntry_sound (.of_same rfl rfl rfl))
    · exact heard
  split
  · exact judged.trans (Keeps.resyncEcho _ _ _ _)
  · split
    · exact judged.trans (Keeps.trackInput _ _ _ _)
    · exact judged

theorem Keeps.takeNotice (e : EntryNo) (s : State) : Keeps s (takeNotice e s) := by
  unfold Machine.takeNotice
  have hushed : Keeps s (s.modEntry e fun _ => ((s.entry e).hush s.tracker.params).1) :=
    Keeps.modEntry_sound ((s.entry e).hush_sound _)
  simp only []
  split
  · exact hushed
  · split
    · exact hushed.trans (Keeps.offerEvent _ _ _ _)
    · split
      · exact hushed.trans (Keeps.offerEvent _ _ _ _)
      · exact hushed

theorem Keeps.removeEntry (sp : SpeakerNo) (s : State) : Keeps s (removeEntry sp s) :=
  Keeps.modEntry_sound (.of_same rfl rfl rfl)

theorem Only.modTracker_entries (s : State) (f : Vector TrackerEntry 40 → Vector TrackerEntry 40) :
    Only [.entries] s (s.modTracker fun t => { t with entries := f t.entries }) :=
  ⟨rfl, rfl, fun p h => by cases p <;> simp_all [SameIn]⟩

/-- Every entry changed alike. -/
theorem Keeps.mapEntries (f : TrackerEntry → TrackerEntry) (h : ∀ e : TrackerEntry, e.Sound (f e)) (s : State) :
    Keeps s (s.modTracker fun t => { t with entries := tblMap t.entries f }) := by
  refine (Only.modTracker_entries s fun l => tblMap l f).keeps [.rho, .anchors] ?_
  intro law hl hs
  have each : ∀ e, (s.modTracker fun t => { t with entries := tblMap t.entries f }).entry e =
      f (s.entry e) := fun e => tblGet_tblMap _ _ _
  have : law = .rho ∨ law = .anchors := by simpa using hl
  rcases this with rfl | rfl <;> intro e <;> rw [each]
  · exact (h _).rho (hs e)
  · exact (h _).anchor (hs e)

theorem Keeps.rateChange (c : Int) (s : State) : Keeps s (rateChange c s) :=
  Keeps.mapEntries (fun e => e.writeRho (e.rho - c)) (fun _ => ⟨fun _ => abs_clampRate_le _, id⟩) s

theorem Keeps.restartTracker (s : State) : Keeps s (restartTracker s) :=
  Keeps.mapEntries TrackerEntry.restart (fun _ => ⟨fun _ => rate_zero, fun _ => rfl⟩) s

/-! ### Frames that arrive -/

theorem Keeps.countMalformed (s : State) : Keeps s s.countMalformed :=
  (Only.modIntake s _).keeps [.streams] (by simp [Law.Holds, State.StreamsLegal, State.stream])

theorem Keeps.countStray (s : State) : Keeps s s.countStray :=
  (Only.modIntake s _).keeps [.streams] (by simp [Law.Holds, State.StreamsLegal, State.stream])

theorem Keeps.serveGap (sp : SpeakerNo) (gapZone : Byte) (number : SerialNo) (s : State) :
    Keeps s (serveGap sp gapZone number s) := by
  unfold Machine.serveGap
  split
  · exact (Keeps.modAirCounters _ _ s).trans (Keeps.handAudio _ _)
  · exact Keeps.modAirCounters _ _ s

theorem Keeps.echoArrives (f : EchoFrame) (s : State) : Keeps s (echoArrives f s) := by
  unfold Machine.echoArrives
  split
  · exact Keeps.countMalformed s
  · split
    · exact Keeps.countMalformed s
    · split
      · exact Keeps.countStray s
      · simp only []
        split
        · exact Keeps.handEcho _ _ _ _ s
        · exact (Keeps.handEcho _ _ _ _ s).trans (Keeps.forEach _ (fun _ _ => Keeps.serveGap _ _ _ _) _ _)

/-- Room for one more cell at a present stream. -/
def State.RoomAt (s : State) (st : StreamNo) : Prop :=
  (s.stream st).present = true ∧ (s.stream st).queue.length < (s.stream st).quota

theorem Stream.Legal.append {d : Stream} (h : d.Legal) (present : d.present = true)
    (room : d.queue.length < d.quota) (c : CellNo) (f : SourceFrame) (gap : Nat) :
    (d.append c f gap).Legal := by
  obtain ⟨-, least, most, demand, -, live⟩ := h
  refine ⟨by simpa [Stream.append, Stream.count] using Nat.succ_le_of_lt room, least, most, demand, fun absent => ?_, fun l => ?_⟩
  · exact absurd absent (by simp [Stream.append, Stream.count, present])
  · have l' : d.cls = .live := l
    simp [Stream.append, l', live l']

/-- An append needs room for the law of the streams; the other laws it keeps in any case. -/
theorem Law.Holds.appendFrame {law : Law} {s : State} (hs : law.Holds s) (st : StreamNo)
    (f : SourceFrame) (gap : Nat) (discontinuity : Bool) (c : CellNo)
    (room : law = .streams → s.RoomAt st) : law.Holds (appendFrame st f gap discontinuity c s) := by
  unfold Machine.appendFrame
  have appended := (Keeps.setCell c (.audio (audioCellOf st f discontinuity)) s law hs).modStream
    (st := st) (f := fun d => d.append c f gap) fun streams h =>
      (h st).append (room streams).1 (room streams).2 c f gap
  simp only []
  split
  · exact Keeps.observe _ _ _ law appended
  · exact appended

theorem Law.Holds.storeFrame {law : Law} {s : State} (hs : law.Holds s) (st : StreamNo)
    (f : SourceFrame) (gap : Nat) (discontinuity : Bool) (room : law = .streams → s.RoomAt st) :
    law.Holds (storeFrame st f gap discontinuity s) := by
  unfold Machine.storeFrame
  split
  · rename_i c t taken
    have same : t.intake = s.intake := (Only.takeCell taken).2.2 .intake (by decide)
    refine (Keeps.takeCell taken law hs).appendFrame _ _ _ _ _ ?_
    simpa [State.RoomAt, State.stream, same] using room
  · exact ((Keeps.modStream fun h => (h st).shorten rfl rfl rfl rfl le_rfl id).trans
      (Keeps.offerEvent _ _ _ _)) law hs

theorem Keeps.markHead (st : StreamNo) (s : State) : Keeps s (markHead st s) := by
  unfold Machine.markHead
  split
  · exact .refl s
  · split
    · exact Keeps.setCell _ _ s
    · exact .refl s

theorem Keeps.overflow (st : StreamNo) (s : State) : Keeps s (overflow st s) := by
  unfold Machine.overflow
  split
  · exact .refl s
  · rename_i c rest queue
    refine ((Keeps.releaseCell c s).trans (Keeps.modStream fun h => ?_)).trans (Keeps.markHead _ _)
    refine (h st).shorten rfl rfl rfl rfl ?_ id
    have queue' : ((Machine.releaseCell c s).stream st).queue = c :: rest := queue
    simp [queue']

/-- A LIVE overflow makes room at a full queue (R45). -/
theorem overflow_room (st : StreamNo) (s : State) (h : (s.stream st).Legal)
    (present : (s.stream st).present = true) : (overflow st s).RoomAt st := by
  obtain ⟨fits, least, -⟩ := h
  unfold overflow
  split
  · rename_i queue
    exact ⟨present, by rw [queue]; exact least⟩
  · rename_i c rest queue
    have same : ∀ t, (markHead st t).intake = t.intake := fun t =>
      (Only.markHead st t).2.2 .intake (by decide)
    rw [queue, List.length_cons] at fits
    simp only [State.RoomAt, State.stream, same]
    simp only [State.modStream, State.modIntake, tblGet_tblMod_same]
    exact ⟨present, Nat.lt_of_succ_le fits⟩

theorem Keeps.admitFrame (st : StreamNo) (f : SourceFrame) (gap : Nat) (s : State)
    (present : (s.stream st).present = true) : Keeps s (admitFrame st f gap s) := by
  unfold Machine.admitFrame
  simp only []
  split
  · rename_i room
    exact fun law hs => hs.storeFrame _ _ _ _ fun _ => ⟨present, room⟩
  · split
    · refine fun law hs => (Keeps.overflow st s law hs).storeFrame _ _ _ _ fun streams => ?_
      subst streams
      exact overflow_room st s (hs st) present
    · exact (Keeps.modStream fun h => (h st).shorten rfl rfl rfl rfl le_rfl id).trans
        (Keeps.offerEvent _ _ _ _)

theorem Keeps.sourceArrives (f : SourceFrame) (s : State) : Keeps s (sourceArrives f s) := by
  unfold Machine.sourceArrives
  split
  · exact Keeps.countMalformed s
  · split
    · exact Keeps.countStray s
    · split
      · rename_i st _ present
        unfold judgeFrame
        simp only []
        split
        · exact Keeps.countMalformed s
        · split
          · exact Keeps.admitFrame st f _ s present
          · exact Keeps.modStream fun h => (h st).shorten rfl rfl rfl rfl le_rfl id
      · exact Keeps.countStray s

end Sys2Proof.Machine
end

section
namespace Sys2Proof.Machine

open Sys2Proof

/-! ### The swap -/

theorem Keeps.speakerRemoved (old : Bank) (sp : SpeakerNo) (s : State) :
    Keeps s (speakerRemoved old sp s) :=
  ((((Keeps.removeClaims sp s).trans (Keeps.cutAt _ _ _)).trans (Keeps.recompute _ _)).trans
    (Keeps.removeEntry _ _)).trans (Only.setAccessed _ _ _).keeps_free

theorem Keeps.speakerReaddressed (old : Bank) (sp : SpeakerNo) (s : State) :
    Keeps s (speakerReaddressed old sp s) :=
  ((Keeps.cutAt _ _ s).trans (Keeps.removeEntry _ _)).trans (Keeps.presenceNotice _ _)

theorem Keeps.speakerNotice (old : Bank) (sp : SpeakerNo) (s : State) :
    Keeps s (speakerNotice old sp s) := by
  unfold Machine.speakerNotice
  simp only []
  split
  · split
    · split
      · split
        · exact (Keeps.speakerReaddressed _ _ s).trans (Keeps.refresh _ _)
        · exact Keeps.refresh _ s
      · split
        · exact Keeps.speakerReaddressed _ _ s
        · exact .refl s
    · exact Keeps.speakerRemoved _ _ s
  · split
    · exact Keeps.presenceNotice _ s
    · exact .refl s

theorem Keeps.streamNotice (old : Bank) (st : StreamNo) (s : State) :
    Keeps s (streamNotice old st s) := by
  unfold Machine.streamNotice
  simp only []
  split
  · exact Keeps.flushQueue _ s
  · exact .refl s

theorem Keeps.completeSwap (s : State) : Keeps s (completeSwap s) := by
  unfold Machine.completeSwap
  exact ((((Only.activate s).keeps_free.trans (Keeps.offerEvent _ _ _ _)).trans
    (Keeps.forEach _ (fun _ t => (Only.modSpeaker t _ _).keeps_free) _ _)).trans
    (Keeps.forEach _ (fun _ t => (Only.zoneNotice _ _ t).keeps_free) _ _)).trans
    ((Keeps.forEach _ (fun _ _ => Keeps.speakerNotice _ _ _) _ _).trans
      (Keeps.forEach _ (fun _ _ => Keeps.streamNotice _ _ _) _ _))

theorem Keeps.takeSwap (s : State) : Keeps s (takeSwap s) := by
  unfold Machine.takeSwap
  have agenda := fun f => (Only.modAgenda s f).keeps_free
  simp only []
  split
  · exact ((agenda _).trans (Only.modPlan_swap _ _).keeps_free).trans (Keeps.offerEvent _ _ _ _)
  · exact (agenda _).trans (Keeps.completeSwap _)

/-! ### The Timeline's works -/

/-- A change of the Timeline that leaves the clock. -/
theorem Only.modTimeline_unclocked {s : State} {f : Timeline → Timeline}
    (clock : (f s.timeline).count = s.timeline.count ∧ (f s.timeline).block = s.timeline.block) :
    Only [.timing, .marks] s (s.modTimeline f) :=
  ⟨rfl, rfl, fun p h => by cases p <;> simp_all [SameIn]⟩

theorem Keeps.modTimeline {s : State} {f : Timeline → Timeline}
    (clock : (f s.timeline).count = s.timeline.count ∧ (f s.timeline).block = s.timeline.block)
    (tau : Law.tau.Holds s → Law.tau.Holds (s.modTimeline f))
    (interval : Law.interval.Holds s → Law.interval.Holds (s.modTimeline f))
    (log : Law.log.Holds s → Law.log.Holds (s.modTimeline f)) : Keeps s (s.modTimeline f) :=
  (Only.modTimeline_unclocked clock).keeps [.tau, .interval, .log] (by simpa using ⟨tau, interval, log⟩)

theorem Keeps.writeTau (v : Int) (s : State) : Keeps s (writeTau v s) := by
  unfold Machine.writeTau
  have written : Keeps s (s.modTimeline fun t => { t with tau := clampRate v }) :=
    Keeps.modTimeline ⟨rfl, rfl⟩ (fun _ => abs_clampRate_le v) id id
  simp only []
  split
  · exact written
  · exact written.trans (Keeps.rateChange _ _)

theorem Keeps.elect (st : StreamNo) (s : State) : Keeps s (elect st s) := by
  unfold Machine.elect
  have elected : ∀ v, Keeps s ((Machine.writeTau v s).modTimeline fun t =>
      { t with elected := some st, noCandidate := false }) := fun v =>
    (Keeps.writeTau v s).trans (Keeps.modTimeline ⟨rfl, rfl⟩ id id id)
  simp only []
  split
  · exact elected _
  · exact (elected _).trans (Keeps.offerEvent _ _ _ _)

theorem Keeps.electNone (s : State) : Keeps s (electNone s) := by
  unfold Machine.electNone
  have none : Keeps s (s.modTimeline fun t => { t with elected := none, noCandidate := true }) :=
    Keeps.modTimeline ⟨rfl, rfl⟩ id id id
  simp only []
  split
  · exact none
  · exact none.trans (Keeps.offerEvent _ _ _ _)

theorem Keeps.takeElection (s : State) : Keeps s (takeElection s) := by
  unfold Machine.takeElection
  have agenda := fun f => (Only.modAgenda s f).keeps_free
  simp only []
  split
  · split
    · split
      · exact (agenda _).trans (Keeps.elect _ _)
      · exact (agenda _).trans (Keeps.electNone _)
    · exact agenda _
  · exact .refl s

theorem Keeps.dueNotice (e : EntryNo) (s : State) : Keeps s (dueNotice e s) := by
  unfold Machine.dueNotice
  split
  · exact (Only.modAgenda s _).keeps_free.trans (Keeps.takeNotice _ _)
  · exact .refl s

theorem Keeps.dueNotices (l : List EntryNo) (s : State) : Keeps s (dueNotices l s) :=
  Keeps.forEach _ Keeps.dueNotice l s

theorem logBeacon_length {log : List (SerialNo × Nat)} (h : log.length ≤ Config.beaconLogCapacity)
    (n : SerialNo) (block : Nat) : (logBeacon log n block).length ≤ Config.beaconLogCapacity := by
  unfold logBeacon Config.beaconLogCapacity at *
  split <;> simp only [List.length_append, List.length_drop, List.length_cons, List.length_nil] <;> omega

theorem Keeps.emitBeacon (interval : Nat) (s : State) : Keeps s (emitBeacon interval s) := by
  have logged : ∀ n, Keeps s (s.modTimeline fun t =>
      { t with beaconNumber := n, beaconLog := logBeacon t.beaconLog n t.block }) := fun n =>
    Keeps.modTimeline ⟨rfl, rfl⟩ id id fun h => logBeacon_length h n _
  exact ((logged _).trans (Keeps.handBeacon _ _ _ _)).trans (Only.modAgenda _ _).keeps_free

theorem Keeps.takeBeacon (later : List EntryNo) (s : State) : Keeps s (takeBeacon later s) := by
  unfold Machine.takeBeacon
  split
  · exact .refl s
  · exact ((Keeps.dueNotices _ s).trans (Keeps.emitBeacon _ _)).trans (Keeps.dueNotices _ _)

/-! ### Marks and the boundary -/

theorem Keeps.markReport (k : MarkNo) (mk : Mark) (code : EventCode) (reason : List Field) (s : State) :
    Keeps s (markReport k mk code reason s) := Keeps.offerEvent _ _ _ s

theorem Keeps.markAction (k : MarkNo) (mk : Mark) (s : State) : Keeps s (markAction k mk s) := by
  unfold Machine.markAction
  have report := fun code reason => Keeps.markReport k mk code reason s
  split
  · exact report _ _
  · split
    · exact report _ _
    · exact (Keeps.takeSwap s).trans (Keeps.markReport _ _ _ _ _)
  · split
    · exact report _ _
    · split
      · exact report _ _
      · exact (Keeps.startZone _ s).trans (Keeps.markReport _ _ _ _ _)
  · split
    · exact report _ _
    · exact (Keeps.softStop _ s).trans (Keeps.markReport _ _ _ _ _)

theorem Keeps.fireMark (k : MarkNo) (s : State) : Keeps s (fireMark k s) := by
  unfold Machine.fireMark
  have agenda := fun f => (Only.modAgenda s f).keeps_free
  simp only []
  split
  · split
    · exact ((agenda _).trans (Only.modMark _ _ _).keeps_free).trans (Keeps.markAction _ _ _)
    · exact agenda _
  · exact .refl s

theorem Keeps.settleSwap (s : State) : Keeps s (settleSwap s) := by
  unfold Machine.settleSwap
  have marks : ∀ t, Keeps t (t.forEach allMarks fireSwapMark) := fun t => by
    refine Keeps.forEach _ (fun k u => ?_) _ t
    unfold fireSwapMark
    split
    · exact Keeps.fireMark k u
    · exact .refl u
  split
  · exact (Keeps.takeSwap s).trans (marks _)
  · exact marks s

theorem Keeps.dueZone (z : ZoneNo) (s : State) : Keeps s (dueZone z s) := by
  unfold Machine.dueZone
  split
  · exact ((Keeps.settleSwap s).trans (Only.modAgenda _ _).keeps_free).trans (Keeps.zoneWork _ _)
  · exact .refl s

theorem Keeps.dueMark (k : MarkNo) (s : State) : Keeps s (dueMark k s) := by
  unfold Machine.dueMark
  split
  · exact Keeps.fireMark k s
  · exact Keeps.fireMark k s
  · exact (Keeps.settleSwap s).trans (Keeps.fireMark _ _)
  · exact (Keeps.settleSwap s).trans (Keeps.fireMark _ _)

theorem Keeps.runTask (t : BoundaryTask) (s : State) : Keeps s (runTask t s) := by
  unfold Machine.runTask
  split
  · exact Keeps.settleSwap s
  · exact Keeps.takeBeacon _ s
  · exact Keeps.takeElection s
  · exact Keeps.dueMark _ s
  · exact Keeps.dueZone _ s

theorem Keeps.finishBoundary (s : State) : Keeps s (finishBoundary s) :=
  (Keeps.forEach _ Keeps.runTask _ s).trans (Keeps.dueNotices _ _)

theorem Keeps.boundaryWorks (order later : List BoundaryTask) (s : State) :
    Keeps s (boundaryWorks order later s) :=
  (Keeps.forEach _ Keeps.runTask _ s).trans (Keeps.settleSwap _)

theorem Only.openBoundary (s : State) : Only [.clock, .agenda] s (openBoundary s) :=
  ⟨rfl, rfl, fun p h => by cases p <;> simp_all [SameIn, Machine.openBoundary]⟩

theorem Keeps.openBoundary (s : State) (limit : s.block + 1 < Config.blockLimit) :
    Keeps s (openBoundary s) := by
  refine (Only.openBoundary s).keeps [.clock] ?_
  intro law hl _
  obtain rfl : law = .clock := by simpa using hl
  refine ⟨limit, le_rfl, ?_⟩
  show Config.blockLength * (s.block + 1) < Config.blockLength * (s.block + 1 + 1)
  unfold Config.blockLength
  omega

/-- Finishing the last boundary leaves the block. -/
theorem finishBoundary_block (s : State) : (finishBoundary s).block = s.block :=
  ((Only.finishBoundary s).2.2 .clock (by decide)).2

theorem Keeps.takeBoundary (order later : List BoundaryTask) (s : State)
    (limit : s.block + 1 < Config.blockLimit) : Keeps s (takeBoundary order later s) :=
  ((Keeps.finishBoundary s).trans (Keeps.openBoundary _ (by rwa [finishBoundary_block]))).trans
    (Keeps.boundaryWorks _ _ _)

theorem Only.tick (s : State) :
    Only [.clock] s (s.modTimeline fun t => { t with count := t.count + 1 }) :=
  ⟨rfl, rfl, fun p h => by cases p <;> simp_all [SameIn]⟩

/-- A sample within the block. -/
theorem Keeps.tick (s : State) (within : s.timeline.count + 1 < Config.blockLength * (s.block + 1)) :
    Keeps s (s.modTimeline fun t => { t with count := t.count + 1 }) := by
  refine (Only.tick s).keeps [.clock] ?_
  intro law hl hs
  obtain rfl : law = .clock := by simpa using hl
  obtain ⟨limit, low, -⟩ := hs
  exact ⟨limit, Nat.le_succ_of_le low, within⟩

/-! ### The links and RESTART -/

theorem Keeps.sourceDown (s : State) : Keeps s (sourceDown s) := by
  unfold Machine.sourceDown
  split
  · have only : Only [.source, .tap] s (abandonSend s) := by
      unfold abandonSend
      split
      · exact .refl _ s
      · exact (Only.modSource s _).widen
      · exact (Only.modSource s _).then (Only.modTap _ _)
    have sent : (abandonSend s).source.sending = none
        ∧ (abandonSend s).source.reports = s.source.reports := by
      unfold abandonSend
      split
      · exact ⟨‹_›, rfl⟩
      · simp only [State.modSource_source]
        split <;> exact ⟨rfl, rfl⟩
      · exact ⟨rfl, rfl⟩
    refine ((only.then (m := [.source, .tap]) (Only.modTap _ _)).then (m := [.source, .tap])
      (Only.modSource (discardTaps _) _)).keeps [.source] ?_
    intro law hl hs
    obtain rfl : law = .source := by simpa using hl
    obtain ⟨free, same⟩ := sent
    obtain ⟨reports, -⟩ := hs
    refine ⟨?_, Nat.zero_le _, fun _ => ⟨free, rfl⟩, fun up => by cases up⟩
    show (abandonSend s).source.reports.length ≤ _
    rwa [same]
  · exact .refl s

theorem Keeps.sourceUp (s : State) : Keeps s (sourceUp s) := by
  unfold Machine.sourceUp
  split
  · exact .refl s
  · exact Keeps.offerFirm_after (Only.modSource s _) le_rfl (fun _ up => by cases up) _ _

theorem Keeps.emptyReports (s : State) : Keeps s (emptyReports s) := by
  refine (Only.modSource s _).keeps [.source] ?_
  intro law hl hs
  obtain rfl : law = .source := by simpa using hl
  obtain ⟨-, taps, down, up⟩ := hs
  exact ⟨Nat.zero_le _, taps, down, fun u f => ⟨rfl, (up u f).2⟩⟩

theorem Keeps.restartCues (s : State) : Keeps s (restartCues s) := by
  refine (Only.restartCues s).keeps [.prescales] ?_
  intro law hl hs
  obtain rfl : law = .prescales := by simpa using hl
  intro z
  simpa [Machine.restartCues, State.cueRun] using hs z

theorem Keeps.restartZones (s : State) : Keeps s (restartZones s) := by
  refine (Only.restartZones s).keeps [.source] ?_
  intro law hl hs
  obtain rfl : law = .source := by simpa using hl
  obtain ⟨reports, -, down, up⟩ := hs
  exact ⟨reports, Nat.zero_le _, fun d => ⟨(down d).1, rfl⟩, fun u f => ⟨(up u f).1, rfl⟩⟩

theorem Keeps.restartPlayout (s : State) : Keeps s (restartPlayout s) :=
  ((Keeps.restartZones s).trans (Keeps.forEach _
    (fun _ t => (Keeps.cut _ t).trans (Keeps.resyncNotice _ _)) _ _)).trans
    (Keeps.forEach _ Keeps.recompute _ _)

theorem Keeps.rebuildStore (s : State) : Keeps s (rebuildStore s) :=
  Keeps.modStore (f := fun st => { st with freeList := ascendingCells, depletionArmed := true })
    fun ⟨mark, reserve, least, most⟩ => ⟨mark, reserve, least, most⟩

theorem Keeps.restartBlocks (s : State) : Keeps s (restartBlocks s) := by
  unfold Machine.restartBlocks
  have streams : Keeps s (Machine.restartStreams (Machine.rebuildStore (restartTimeline s))) :=
    ((Only.restartTimeline s).keeps_free.trans (Keeps.rebuildStore _)).trans (Keeps.restartStreams _)
  have claims : ∀ t, Keeps t (restartClaims t) := fun t => (Only.modOverlay t _).keeps_free
  simp only []
  exact (((((streams.trans (Keeps.restartTracker _)).trans (Only.restartPlan _).keeps_free).trans
    (claims _)).trans (Keeps.restartCues _)).trans (Keeps.restartAir _)).trans (Keeps.restartPlayout _)

theorem Keeps.restart (d : Header) (s : State) : Keeps s (restart d s) := by
  unfold Machine.restart
  split
  · exact Keeps.reply _ _ _ _ s
  · exact ((Keeps.emptyReports s).trans (Keeps.reply _ _ _ _ _)).trans (Keeps.restartBlocks _)

end Sys2Proof.Machine
end

section
namespace Sys2Proof.Machine

open Sys2Proof

/-! ### The directives -/

/-- What a directive can change: all but the clock and the active bank. -/
abbrev directiveParts : List Part :=
  [.timing, .marks, .store, .intake, .entries, .params, .staged, .swapFlag, .trims, .accessed, .zones,
   .speakers, .tap, .overlay, .memory, .cueRuns, .air, .source, .agenda]

/-- What directives do: they leave the clock and the active bank, and keep every law. -/
structure Taken (s t : State) : Prop where
  only : Only directiveParts s t
  keeps : Keeps s t

theorem Taken.refl (s : State) : Taken s s := ⟨.refl _ s, .refl s⟩

theorem Taken.trans {s t u : State} (h : Taken s t) (k : Taken t u) : Taken s u :=
  ⟨h.only.then k.only, h.keeps.trans k.keeps⟩

theorem Only.taken {m : List Part} {s t : State} (h : Only m s t) (k : Keeps s t)
    (hm : m.all directiveParts.contains = true := by decide) : Taken s t := ⟨h.widen hm, k⟩

/-- A change of parts that no law reads. -/
theorem Only.taken_free {m : List Part} {s t : State} (h : Only m s t)
    (others : Law.apart [] m = true := by decide)
    (hm : m.all directiveParts.contains = true := by decide) : Taken s t :=
  ⟨h.widen hm, h.keeps_free others⟩

theorem Taken.forEach {α : Type} (f : α → State → State) (h : ∀ a s, Taken s (f a s)) (l : List α)
    (s : State) : Taken s (s.forEach l f) :=
  ⟨Only.forEach f (fun a t => (h a t).only) l s, Keeps.forEach f (fun a t => (h a t).keeps) l s⟩

theorem Taken.reply (kind : Byte) (d : Header) (status : Status) (payload : List Field) (s : State) :
    Taken s (reply kind d status payload s) := (Only.reply _ _ _ _ s).taken (Keeps.reply _ _ _ _ s)

theorem Taken.modTimeline {s : State} {f : Timeline → Timeline}
    (clock : (f s.timeline).count = s.timeline.count ∧ (f s.timeline).block = s.timeline.block)
    (tau : Law.tau.Holds s → Law.tau.Holds (s.modTimeline f))
    (interval : Law.interval.Holds s → Law.interval.Holds (s.modTimeline f))
    (log : Law.log.Holds s → Law.log.Holds (s.modTimeline f)) : Taken s (s.modTimeline f) :=
  (Only.modTimeline_unclocked clock).taken (Keeps.modTimeline clock tau interval log)

/-! #### The Timeline -/

theorem Taken.setCandidates (candidates : BitVec 16) (s : State) :
    Taken s (setCandidates candidates s) := Taken.modTimeline ⟨rfl, rfl⟩ id id id

theorem Taken.setMode (mode : TimebaseMode) (s : State) : Taken s (setMode mode s) := by
  unfold Machine.setMode
  by_cases same : mode = .fastest ∧ s.timeline.mode = .fastest <;>
    refine Taken.modTimeline ?_ ?_ ?_ ?_ <;> simp [Law.Holds, same]

theorem Taken.setTimebase (d : Header) (mode : Byte) (tau candidates : BitVec 16) (s : State) :
    Taken s (setTimebase d mode tau candidates s) := by
  unfold Machine.setTimebase
  have replied := fun status => Taken.reply 0x10 d status [] s
  split
  · exact replied _
  · split
    · exact replied _
    · exact (((replied _).trans (Taken.setCandidates _ _)).trans
        ((Only.writeTau _ _).taken (Keeps.writeTau _ _))).trans (Taken.setMode _ _)
    · exact ((replied _).trans (Taken.setCandidates _ _)).trans (Taken.setMode _ _)

theorem Taken.setBeacon (d : Header) (interval : Byte) (s : State) :
    Taken s (setBeacon d interval s) := by
  unfold Machine.setBeacon
  simp only []
  split
  · exact Taken.reply _ _ _ _ s
  · refine (Taken.reply _ _ _ _ s).trans (Taken.modTimeline ⟨rfl, rfl⟩ id (fun _ => ?_) id)
    simp only [Law.Holds, State.modTimeline_timeline]
    rw [clampNat_eq (by decide)]
    omega

/-- ARM MARK refuses by a REPLY, or settles its slot, replies and writes it (R13). -/
theorem armMark_cases (d : Header) (slot : Byte) (block : BitVec 48) (action zone : Byte) (s : State) :
    (∃ status, armMark d slot block action zone s = reply 0x12 d status [] s)
      ∨ ∃ k act z, armMark d slot block action zone s =
          writeMark k block.toNat act z (reply 0x12 d .ok [] (settleMark k s)) := by
  unfold armMark
  split
  · exact .inl ⟨_, rfl⟩
  · split
    · exact .inl ⟨_, rfl⟩
    · split
      · exact .inl ⟨_, rfl⟩
      · split
        · exact .inl ⟨_, rfl⟩
        · split
          · exact .inl ⟨_, rfl⟩
          · exact .inr ⟨_, _, _, rfl⟩

/-- DISARM MARK refuses by a REPLY, or settles its slot, replies and disarms it (R14). -/
theorem disarmMark_cases (d : Header) (slot : Byte) (s : State) :
    (∃ status, disarmMark d slot s = reply 0x13 d status [] s)
      ∨ ∃ k, disarmMark d slot s =
          (reply 0x13 d .ok [] (settleMark k s)).modMark k fun m => { m with armed := false } := by
  unfold disarmMark
  split
  · exact .inl ⟨_, rfl⟩
  · split
    · exact .inl ⟨_, rfl⟩
    · exact .inr ⟨_, rfl⟩

/-- A slot whose firing is not put off is settled. -/
theorem settleMark_none {k : MarkNo} {s : State} (h : tblGet s.agenda.marks k = false) :
    settleMark k s = s := by simp [settleMark, h]

theorem Keeps.settleMark (k : MarkNo) (s : State) : Keeps s (settleMark k s) := by
  unfold Machine.settleMark
  split
  · exact Keeps.dueMark k s
  · exact .refl s

theorem Taken.modMark (k : MarkNo) (f : Mark → Mark) (s : State) : Taken s (s.modMark k f) :=
  (Only.modMark s k f).taken_free

/-! #### Stream Intake and the Cell Store -/

theorem Stream.Legal.opened {d : Stream} (h : d.Legal) (absent : d.present = false)
    (cls : StreamClass) (lanes quota mark : Nat) :
    (d.opened cls lanes (clampNat 1 256 quota) (clampNat 0 (clampNat 1 256 quota) mark)).Legal := by
  obtain ⟨-, -, -, -, empty, -⟩ := h
  have queue : d.queue = [] := empty absent
  rw [clampNat_zero, clampNat_eq (by decide)]
  refine ⟨by simp [Stream.opened, queue], ?_, ?_, ?_, fun _ => queue, fun _ => rfl⟩ <;>
    simp only [Stream.opened] <;> omega

theorem Taken.demandReport (st : StreamNo) (s : State) : Taken s (demandReport st s) :=
  (Only.demandReport st s).taken (Keeps.demandReport st s)

theorem Taken.modStream {s : State} {st : StreamNo} {f : Stream → Stream}
    (h : s.StreamsLegal → (f (s.stream st)).Legal) : Taken s (s.modStream st f) :=
  (Only.modStream s st f).taken (Keeps.modStream h)

theorem Taken.openTaken (d : Header) (st : StreamNo) (cls : StreamClass) (lanes quota mark : Nat)
    (s : State) (absent : (s.stream st).present = false) :
    Taken s (openTaken d st cls lanes quota mark s) := by
  unfold Machine.openTaken openReport
  have opened : ∀ status, Taken s ((Machine.reply 0x20 d status [] s).modStream st fun x =>
      x.opened cls lanes (clampNat 1 256 quota) (clampNat 0 (clampNat 1 256 quota) mark)) := by
    intro status
    refine (Taken.reply 0x20 d status [] s).trans (Taken.modStream fun h => (h st).opened ?_ _ _ _ _)
    have same : (Machine.reply 0x20 d status [] s).intake = s.intake :=
      (Only.reply _ _ _ _ s).2.2 .intake (by decide)
    unfold State.stream at absent ⊢
    rwa [same]
  simp only []
  split
  · exact (opened _).trans (Taken.demandReport _ _)
  · exact opened _

theorem Taken.openStream (d : Header) (stream cls lanes : Byte) (quota mark : BitVec 16) (s : State) :
    Taken s (openStream d stream cls lanes quota mark s) := by
  unfold Machine.openStream
  have refused := fun status => Taken.reply 0x20 d status [] s
  split
  · exact refused _
  · split
    · exact refused _
    · split
      · exact refused _
      · rename_i absent
        split
        · exact refused _
        · split
          · exact Taken.openTaken _ _ _ _ _ _ s (by simpa using absent)
          · exact refused _

theorem Taken.closeStream (d : Header) (stream : Byte) (s : State) :
    Taken s (closeStream d stream s) := by
  unfold Machine.closeStream
  have replied := fun status => Taken.reply 0x21 d status [] s
  split
  · exact replied _
  · split
    · exact replied _
    · split
      · exact replied _
      · split
        · exact replied _
        · rename_i st _ _ _
          refine ((replied _).trans ((Only.emptyQueue st _).taken (Keeps.emptyQueue _ _))).trans
            (Taken.modStream fun h => ?_)
          obtain ⟨fits, least, most, demand, -, -⟩ := h st
          refine ⟨fits, least, most, demand, fun _ => ?_, fun _ => rfl⟩
          simp [Machine.emptyQueue]

theorem Taken.flushStream (d : Header) (stream : Byte) (s : State) :
    Taken s (flushStream d stream s) := by
  unfold Machine.flushStream
  have replied := fun status => Taken.reply 0x22 d status [] s
  split
  · exact replied _
  · split
    · exact replied _
    · split
      · exact replied _
      · exact (replied _).trans ((Only.flushQueue _ _).taken (Keeps.flushQueue _ _))

theorem Taken.setStore (d : Header) (mark : BitVec 16) (reserve margin : Byte) (s : State) :
    Taken s (setStore d mark reserve margin s) := by
  unfold Machine.setStore
  simp only []
  split
  · exact Taken.reply _ _ _ _ s
  · refine (Taken.reply _ _ _ _ s).trans ((Only.modStore _ _).taken (Keeps.modStore fun _ => ?_))
    refine CellStore.InRange.rearm ?_
    rw [clampNat_zero, clampNat_zero, clampNat_eq (by decide)]
    dsimp only [CellStore.InRange]
    omega

/-! #### The Plan and the Clock Tracker -/

theorem Only.modPlan_staged (s : State) (f : Plan → Bank) :
    Only [.staged] s (s.modPlan fun p => { p with staged := f p }) :=
  ⟨rfl, rfl, fun p h => by cases p <;> simp_all [SameIn]⟩

theorem Only.modPlan_trims (s : State) (f : Vector Trim 24 → Vector Trim 24) :
    Only [.trims] s (s.modPlan fun p => { p with trims := f p.trims }) :=
  ⟨rfl, rfl, fun p h => by cases p <;> simp_all [SameIn]⟩

theorem Taken.stageZone (d : Header) (o : ZoneOperands) (s : State) : Taken s (stageZone d o s) := by
  unfold Machine.stageZone stageZoneChecked
  have replied := fun status => Taken.reply 0x30 d status [] s
  split
  · split
    · split
      · exact replied _
      · split
        · exact replied _
        · split
          · exact replied _
          · exact (replied _).trans (Only.modPlan_staged _ _).taken_free
    · exact replied _
  · exact replied _

theorem Taken.stageSpeaker (d : Header) (o : SpeakerOperands) (s : State) :
    Taken s (stageSpeaker d o s) := by
  unfold Machine.stageSpeaker stageSpeakerChecked
  have replied := fun status => Taken.reply 0x31 d status [] s
  split
  · split
    · split
      · exact replied _
      · split
        · exact replied _
        · split
          · exact replied _
          · exact (replied _).trans (Only.modPlan_staged _ _).taken_free
    · exact replied _
  · exact replied _

theorem Taken.unstage (d : Header) (s : State) : Taken s (unstage d s) := by
  unfold Machine.unstage
  have replied := fun status => Taken.reply 0x32 d status [] s
  split
  · exact replied _
  · split
    · exact replied _
    · exact (replied _).trans (Only.modPlan_staged _ _).taken_free

theorem Taken.requestSwap (d : Header) (s : State) : Taken s (requestSwap d s) := by
  unfold Machine.requestSwap
  have replied := fun status => Taken.reply 0x33 d status [] s
  split
  · exact replied _
  · split
    · exact replied _
    · exact (replied _).trans (Only.modPlan_swap _ _).taken_free

theorem Taken.writeTrim (sp : SpeakerNo) (t : Trim) (s : State)
    (h : t.gain ≤ 32767 ∧ t.delay ≤ 1048575) : Taken s (writeTrim sp t s) := by
  have written : Taken s (s.modPlan fun p => { p with trims := tblSet p.trims sp t }) := by
    have only := Only.modPlan_trims s fun l => tblSet l sp t
    refine only.taken (only.keeps [.trims] ?_)
    intro law hl hs
    obtain rfl : law = .trims := by simpa using hl
    intro o
    simp only [State.trim, State.modPlan_plan, tblGet_tblSet]
    split
    · exact h
    · exact hs o
  unfold Machine.writeTrim
  simp only []
  split
  · exact written.trans (Only.setRampPending _ _).taken_free
  · exact written

theorem Taken.setTrim (d : Header) (speaker : Byte) (gain : BitVec 16) (delay : BitVec 24) (s : State) :
    Taken s (setTrim d speaker gain delay s) := by
  unfold Machine.setTrim
  have replied := fun status => Taken.reply 0x43 d status [] s
  split
  · exact replied _
  · split
    · exact replied _
    · split
      · exact replied _
      · refine (replied _).trans (Taken.writeTrim _ _ _ ?_)
        simp only [clampNat_zero]
        omega

theorem Taken.pollAccessed (d : Header) (s : State) : Taken s (pollAccessed d s) :=
  (Taken.reply _ _ _ _ s).trans (Taken.forEach _ (fun _ _ => (Only.setAccessed _ _ _).taken_free) _ _)

theorem Taken.resyncSpeaker (d : Header) (speaker : Byte) (s : State) :
    Taken s (resyncSpeaker d speaker s) := by
  unfold Machine.resyncSpeaker
  have replied := fun status => Taken.reply 0x45 d status [] s
  split
  · exact replied _
  · split
    · exact replied _
    · split
      · exact replied _
      · exact (replied _).trans
          ((Only.modEntry _ _ _).taken (Keeps.modEntry_sound ⟨fun _ => rate_zero, id⟩))

theorem trackingWritten_inRange (o : TrackingOperands) : (trackingWritten o).InRange := by
  have stale := clampNat_eq (lo := 2) (hi := 63) (v := o.staleLimit.toNat) (by decide)
  unfold trackingWritten TrackingParams.InRange
  simp only [stale, clampNat_zero]
  rw [clampNat_eq (by decide), clampNat_eq (by decide), clampNat_eq (by decide), clampNat_eq (by omega)]
  omega

theorem Only.modTracker_params (s : State) (p : TrackingParams) :
    Only [.params] s (s.modTracker fun t => { t with params := p }) :=
  ⟨rfl, rfl, fun p h => by cases p <;> simp_all [SameIn]⟩

theorem Taken.setTracking (d : Header) (o : TrackingOperands) (s : State) :
    Taken s (setTracking d o s) := by
  unfold Machine.setTracking
  simp only []
  split
  · exact Taken.reply _ _ _ _ s
  · refine (Taken.reply _ _ _ _ s).trans ((Only.modTracker_params _ _).taken
      ((Only.modTracker_params _ _).keeps [.params] ?_))
    intro law hl _
    obtain rfl : law = .params := by simpa using hl
    exact trackingWritten_inRange o

/-! #### Zone Playout and the Cue Engine -/

theorem Taken.startDirective (d : Header) (zone : Byte) (s : State) :
    Taken s (startDirective d zone s) := by
  unfold Machine.startDirective
  have replied := fun status => Taken.reply 0x40 d status [] s
  split
  · exact replied _
  · split
    · exact replied _
    · split
      · exact replied _
      · exact (replied _).trans ((Only.startZone _ _).taken (Keeps.startZone _ _))

theorem Taken.stopZone (d : Header) (zone mode : Byte) (s : State) :
    Taken s (stopZone d zone mode s) := by
  unfold Machine.stopZone
  have replied := fun status => Taken.reply 0x41 d status [] s
  split
  · exact replied _
  · split
    · exact replied _
    · split
      · exact replied _
      · split
        · exact (replied _).trans ((Only.hardStop _ _).taken (Keeps.hardStop _ _))
        · exact (replied _).trans ((Only.softStop _ _).taken (Keeps.softStop _ _))

theorem Taken.onPresentZone (kind : Byte) (d : Header) (zone : Option ZoneNo) (s : State)
    (work : ZoneNo → State) (h : ∀ z, Taken s (work z)) : Taken s (onPresentZone kind d zone s work) := by
  unfold Machine.onPresentZone
  split
  · exact Taken.reply _ _ _ _ s
  · split
    · exact Taken.reply _ _ _ _ s
    · split
      · exact Taken.reply _ _ _ _ s
      · exact h _

theorem Taken.setLevel (d : Header) (zone : Byte) (target gainStep : BitVec 16) (s : State) :
    Taken s (setLevel d zone target gainStep s) :=
  Taken.onPresentZone _ _ _ _ _ fun _ =>
    (Taken.reply _ _ _ _ s).trans (Only.modZone _ _ _).taken_free

theorem Taken.modTap_state (state : TapState) (s : State) :
    Taken s (s.modTap fun t => { t with state := state }) :=
  (Only.modTap s _).taken (Keeps.modTap id)

theorem Taken.armTap (d : Header) (zone : Byte) (s : State) : Taken s (armTap d zone s) := by
  refine Taken.onPresentZone _ _ _ _ _ fun z => ?_
  split
  · exact (Taken.reply _ _ _ _ s).trans (Taken.modTap_state _ _)
  · exact Taken.reply _ _ _ _ s

theorem Taken.disarmTap (d : Header) (zone : Byte) (s : State) : Taken s (disarmTap d zone s) := by
  unfold Machine.disarmTap
  have replied := fun status => Taken.reply 0x71 d status [] s
  split
  · exact replied _
  · split
    · exact replied _
    · split
      · exact replied _
      · split
        · exact (replied _).trans ((Only.endTap _ _).taken (Keeps.endTap _ _))
        · exact replied _

theorem Taken.countMalformed (s : State) : Taken s s.countMalformed :=
  (Only.modIntake s _).taken (Keeps.countMalformed s)

theorem Only.modCueEngine_memory (s : State) (f : Vector CueWord 512 → Vector CueWord 512) :
    Only [.memory] s (s.modCueEngine fun c => { c with memory := f c.memory }) :=
  ⟨rfl, rfl, fun p h => by cases p <;> simp_all [SameIn]⟩

theorem Taken.writeCues (d : Header) (start : BitVec 16) (words : List CueWord) (s : State) :
    Taken s (writeCues d start words s) := by
  unfold Machine.writeCues
  have replied := fun status => Taken.reply 0x60 d status [] s
  split
  · exact (Taken.countMalformed s).trans (Taken.reply _ _ _ _ _)
  · split
    · exact replied _
    · split
      · exact replied _
      · split
        · exact replied _
        · exact (replied _).trans (Only.modCueEngine_memory _ _).taken_free

theorem Taken.modCueRun {s : State} {z : ZoneNo} {f : CueRun → CueRun}
    (h : (s.cueRun z).prescale ≤ 255 → (f (s.cueRun z)).prescale ≤ 255) : Taken s (s.modCueRun z f) :=
  (Only.modCueRun s z f).taken (Keeps.modCueRun h)

theorem Taken.cueGo (d : Header) (zone : Byte) (index : BitVec 16) (s : State) :
    Taken s (cueGo d zone index s) := by
  unfold Machine.cueGo
  split
  · exact Taken.reply _ _ _ _ s
  · exact Taken.onPresentZone _ _ _ _ _ fun _ => (Taken.reply _ _ _ _ s).trans (Taken.modCueRun id)

theorem Taken.haltOrResume (kind : Byte) (d : Header) (zone : Byte) (status : CueStatus) (s : State) :
    Taken s (haltOrResume kind d zone status s) := by
  refine Taken.onPresentZone _ _ _ _ _ fun z => ?_
  have taken : Taken s ((Machine.reply kind d .ok [] s).modCueRun z fun c => { c with status := status }) :=
    (Taken.reply _ _ _ _ s).trans (Taken.modCueRun id)
  simp only []
  split
  · exact taken
  · exact taken
  · exact Taken.reply _ _ _ _ s
  · exact Taken.reply _ _ _ _ s

theorem Taken.setPrescale (d : Header) (zone : Byte) (prescale : BitVec 16) (s : State) :
    Taken s (setPrescale d zone prescale s) := by
  refine Taken.onPresentZone _ _ _ _ _ fun z => (Taken.reply _ _ _ _ s).trans (Taken.modCueRun fun _ => ?_)
  rw [clampNat_zero]
  exact Nat.min_le_left _ _

theorem Taken.queryStream (d : Header) (stream : Byte) (s : State) :
    Taken s (queryStream d stream s) := by
  unfold Machine.queryStream
  split <;> exact Taken.reply _ _ _ _ s

theorem Taken.queryZone (d : Header) (zone : Byte) (s : State) : Taken s (queryZone d zone s) := by
  unfold Machine.queryZone
  split <;> exact Taken.reply _ _ _ _ s

theorem Taken.querySpeaker (d : Header) (speaker : Byte) (s : State) :
    Taken s (querySpeaker d speaker s) := by
  unfold Machine.querySpeaker
  split <;> exact Taken.reply _ _ _ _ s

theorem Taken.restart (d : Header) (s : State) : Taken s (restart d s) :=
  (Only.restart d s).taken (Keeps.restart d s)

/-! #### Dispatch -/

/-- No firing of a mark is put off (log entry 2). -/
def State.NoMarkPutOff (s : State) : Prop := ∀ k : MarkNo, tblGet s.agenda.marks k = false

/-- Of the directives, ARM MARK and DISARM MARK alone may find a firing put off; the others do what directives
do in any state. -/
theorem dispatch_cases (i : Instr) (s : State) :
    Taken s (dispatch i s)
      ∨ (∃ d slot block action zone, dispatch i s = armMark d slot block action zone s)
      ∨ ∃ d slot, dispatch i s = disarmMark d slot s := by
  cases i
  case armMark d slot block action zone => exact .inr (.inl ⟨d, slot, block, action, zone, rfl⟩)
  case disarmMark d slot => exact .inr (.inr ⟨d, slot, rfl⟩)
  case identify d => exact .inl (Taken.reply _ _ _ _ s)
  case queryDevice d => exact .inl (Taken.reply _ _ _ _ s)
  case restart d => exact .inl (Taken.restart d s)
  case setTimebaseLocal d mode tau candidates => exact .inl (Taken.setTimebase _ _ _ _ s)
  case setTimebaseFastest d tau candidates => exact .inl (Taken.setTimebase d 1 tau candidates s)
  case setBeacon d interval => exact .inl (Taken.setBeacon _ _ s)
  case openStream => exact .inl (Taken.openStream _ _ _ _ _ _ s)
  case closeStream => exact .inl (Taken.closeStream _ _ s)
  case flushStream => exact .inl (Taken.flushStream _ _ s)
  case queryStream => exact .inl (Taken.queryStream _ _ s)
  case stageZone => exact .inl (Taken.stageZone _ _ s)
  case stageSpeaker => exact .inl (Taken.stageSpeaker _ _ s)
  case unstage => exact .inl (Taken.unstage _ s)
  case swap => exact .inl (Taken.requestSwap _ s)
  case queryZone => exact .inl (Taken.queryZone _ _ s)
  case querySpeaker => exact .inl (Taken.querySpeaker _ _ s)
  case startZone => exact .inl (Taken.startDirective _ _ s)
  case stopZoneSoft => exact .inl (Taken.stopZone _ _ _ s)
  case stopZoneHard d zone => exact .inl (Taken.stopZone d zone 1 s)
  case setLevel => exact .inl (Taken.setLevel _ _ _ _ s)
  case setTrim => exact .inl (Taken.setTrim _ _ _ _ s)
  case pollAccessed => exact .inl (Taken.pollAccessed _ s)
  case resyncSpeaker => exact .inl (Taken.resyncSpeaker _ _ s)
  case setTracking => exact .inl (Taken.setTracking _ _ s)
  case setStore => exact .inl (Taken.setStore _ _ _ _ s)
  case queryStore => exact .inl (Taken.reply _ _ _ _ s)
  case writeCues => exact .inl (Taken.writeCues _ _ _ s)
  case cueGo => exact .inl (Taken.cueGo _ _ _ s)
  case cueHalt => exact .inl (Taken.haltOrResume _ _ _ _ s)
  case cueResume => exact .inl (Taken.haltOrResume _ _ _ _ s)
  case setPrescale => exact .inl (Taken.setPrescale _ _ _ s)
  case armTap => exact .inl (Taken.armTap _ _ s)
  case disarmTap => exact .inl (Taken.disarmTap _ _ s)
  all_goals exact .inl (.refl s)

theorem Keeps.dispatch (i : Instr) (s : State) : Keeps s (dispatch i s) := by
  have marked : ∀ k kind d f, Keeps s ((Machine.reply kind d .ok [] (Machine.settleMark k s)).modMark k f) :=
    fun k _ _ f => ((Keeps.settleMark k s).trans (Keeps.reply _ _ _ _ _)).trans (Taken.modMark k f _).keeps
  rcases dispatch_cases i s with h | ⟨d, slot, block, action, zone, h⟩ | ⟨d, slot, h⟩
  · exact h.keeps
  · rw [h]
    rcases armMark_cases d slot block action zone s with ⟨status, h⟩ | ⟨k, act, z, h⟩ <;> rw [h]
    · exact Keeps.reply _ _ _ _ s
    · exact marked k _ _ _
  · rw [h]
    rcases disarmMark_cases d slot s with ⟨status, h⟩ | ⟨k, h⟩ <;> rw [h]
    · exact Keeps.reply _ _ _ _ s
    · exact marked k _ _ _

theorem Taken.dispatch (i : Instr) (s : State) (none : s.NoMarkPutOff) : Taken s (dispatch i s) := by
  have marked : ∀ k kind d f, Taken s ((Machine.reply kind d .ok [] (Machine.settleMark k s)).modMark k f) := by
    intro k kind d f
    rw [settleMark_none (none k)]
    exact (Taken.reply _ _ _ _ s).trans (Taken.modMark k f _)
  rcases dispatch_cases i s with h | ⟨d, slot, block, action, zone, h⟩ | ⟨d, slot, h⟩
  · exact h
  · rw [h]
    rcases armMark_cases d slot block action zone s with ⟨status, h⟩ | ⟨k, act, z, h⟩ <;> rw [h]
    · exact Taken.reply _ _ _ _ s
    · exact marked k _ _ _
  · rw [h]
    rcases disarmMark_cases d slot s with ⟨status, h⟩ | ⟨k, h⟩ <;> rw [h]
    · exact Taken.reply _ _ _ _ s
    · exact marked k _ _ _

end Sys2Proof.Machine
end

section
namespace Sys2Proof.Machine

open Sys2Proof

/-! ### Frames, commands and the step -/

theorem Keeps.directiveFrame (kind : Byte) (d : Header) (operands : List Byte) (s : State) :
    Keeps s (directiveFrame kind d operands s) := by
  unfold Machine.directiveFrame directiveArrives
  split
  · exact (Keeps.countMalformed s).trans (Keeps.reply _ _ _ _ _)
  · split
    · exact Keeps.dispatch _ s
    · exact Keeps.reply _ _ _ _ s

theorem Keeps.sourceLinkFrame (cls : Byte) (body : List Byte) (s : State) :
    Keeps s (sourceLinkFrame cls body s) := by
  unfold Machine.sourceLinkFrame directiveBody
  split
  · split
    · exact Keeps.countMalformed s
    · exact Keeps.directiveFrame _ _ _ s
  · split
    · exact Keeps.sourceArrives _ s
    · exact Keeps.countMalformed s

theorem Keeps.airLinkFrame (cls : Byte) (body : List Byte) (s : State) :
    Keeps s (airLinkFrame cls body s) := by
  unfold Machine.airLinkFrame
  split
  · exact Keeps.echoArrives _ s
  · exact Keeps.countMalformed s

theorem awake_next {s t : State} {f : State → State} (h : s.awake f = .next t) :
    t = if s.rstLow then s else f s := by
  unfold State.awake at h
  injection h with h
  exact h.symm

theorem onSource_next {s t : State} {f : State → State} (h : s.onSource f = .next t) :
    t = if s.rstLow || !s.source.up then s else f s := by
  unfold State.onSource at h
  injection h with h
  exact h.symm

theorem onAir_next {s t : State} {f : State → State} (h : s.onAir f = .next t) :
    t = if s.rstLow || !s.air.up then s else f s := by
  unfold State.onAir at h
  injection h with h
  exact h.symm

theorem Keeps.awake {s t : State} {f : State → State} (h : s.awake f = .next t)
    (k : Keeps s (f s)) : Keeps s t := by
  rw [awake_next h]
  split
  · exact .refl s
  · exact k

theorem Keeps.onSource {s t : State} {f : State → State} (h : s.onSource f = .next t)
    (k : Keeps s (f s)) : Keeps s t := by
  rw [onSource_next h]
  split
  · exact .refl s
  · exact k

theorem Keeps.onAir {s t : State} {f : State → State} (h : s.onAir f = .next t)
    (k : Keeps s (f s)) : Keeps s t := by
  rw [onAir_next h]
  split
  · exact .refl s
  · exact k

/-- A directive of Table 72 reaches dispatch where the Source Link takes it; the only other command that has the
bytes of a directive is the raw frame. -/
theorem exec_directive {i : Instr} (h : (directiveBytes i).isSome = true) (s : State) :
    exec i s = s.onSource (dispatch i) ∨ ∃ kind d ops, i = .unknownDirectiveKind kind d ops := by
  cases i
  case unknownDirectiveKind kind d ops => exact .inr ⟨kind, d, ops, rfl⟩
  all_goals first | exact absurd h Bool.false_ne_true | exact .inl rfl

/-- Every law holds after reset. -/
theorem Law.holds_reset (law : Law) : law.Holds State.reset := by
  cases law
  case clock => exact ⟨by decide, by decide, by decide⟩
  case tau => exact rate_zero
  case interval => exact ⟨by decide, by decide⟩
  case log => exact Nat.zero_le _
  case rho =>
    intro e
    rw [show State.reset.entry e = TrackerEntry.reset from tblGet_replicate _ e]
    exact rate_zero
  case anchors =>
    intro e
    rw [show State.reset.entry e = TrackerEntry.reset from tblGet_replicate _ e]
    rfl
  case source => exact ⟨Nat.zero_le _, Nat.zero_le _, fun _ => ⟨rfl, rfl⟩, fun _ _ => ⟨rfl, rfl⟩⟩
  case air => exact ⟨Nat.zero_le _, fun _ => rfl, fun _ => ⟨rfl, rfl⟩⟩
  case streams =>
    intro st
    rw [show State.reset.stream st = Stream.reset from tblGet_replicate _ st]
    unfold Stream.Legal
    decide
  case store => exact ⟨by decide, by decide, by decide, by decide⟩
  case params =>
    unfold Law.Holds TrackingParams.InRange
    decide
  case trims =>
    intro sp
    rw [show State.reset.trim sp = { gain := 16384, delay := 0 } from tblGet_replicate _ sp]
    decide
  case prescales =>
    intro z
    rw [show State.reset.cueRun z = CueRun.reset from tblGet_replicate _ z]
    decide

/-- No law reads the level of RST_N or the queue of waiting commands. -/
theorem Law.Holds.outside {law : Law} {s : State} (h : law.Holds s) (rstLow : Bool)
    (pending : List Instr) : law.Holds { s with rstLow := rstLow, pending := pending } := by
  cases law <;> exact h

theorem Keeps.boundaryOutcome {order later : List BoundaryTask} {s t : State}
    (h : boundaryOutcome order later s = .next t) : Keeps s t := by
  unfold Machine.boundaryOutcome at h
  split at h
  · cases h; exact .refl s
  · split at h
    · rw [← Host.Outcome.next.inj h]; exact Keeps.takeBoundary _ _ s ‹_›
    · cases h

/-- Every command keeps every law. -/
theorem Keeps.exec {i : Instr} {s t : State} (h : exec i s = .next t) : Keeps s t := by
  by_cases directive : (directiveBytes i).isSome = true
  · rcases exec_directive directive s with e | ⟨kind, d, ops, rfl⟩
    · rw [e] at h; exact Keeps.onSource h (Keeps.dispatch i s)
    · exact Keeps.onSource h (Keeps.directiveFrame kind d ops s)
  cases i
  case rstNRelease => cases h; exact fun law _ => law.holds_reset.outside _ _
  case rstNAssertion => cases h; exact fun law _ => law.holds_reset.outside _ _
  case blockBoundary => exact Keeps.boundaryOutcome h
  case beacon => exact Keeps.awake h (Keeps.takeBeacon _ s)
  case election => exact Keeps.awake h (Keeps.takeElection s)
  case markFiring => exact Keeps.awake h (Keeps.dueMark _ s)
  case waitRunsOut =>
    refine Keeps.awake h ?_
    unfold waitEvent
    split
    · exact Keeps.dueZone _ s
    · exact .refl s
  case silenceStale =>
    refine Keeps.awake h ?_
    unfold staleEvent
    split
    · exact Keeps.dueNotice _ s
    · exact .refl s
  case silenceLost =>
    refine Keeps.awake h ?_
    unfold lostEvent
    split
    · exact Keeps.dueNotice _ s
    · exact .refl s
  case sourceFrame => exact Keeps.onSource h (Keeps.sourceArrives _ s)
  case echo => exact Keeps.onAir h (Keeps.echoArrives _ s)
  case malformedFrame link cls body =>
    cases link
    · exact Keeps.onSource h (Keeps.sourceLinkFrame _ _ s)
    · exact Keeps.onAir h (Keeps.airLinkFrame _ _ s)
  case sourceLinkDown => exact Keeps.awake h (Keeps.sourceDown s)
  case sourceLinkUp => exact Keeps.awake h (Keeps.sourceUp s)
  case airLinkDown => exact Keeps.awake h (Keeps.airDown s)
  case airLinkUp => exact Keeps.awake h (Keeps.airUp s)
  case airSendComplete => exact Keeps.awake h (Keeps.completeAir s)
  case sourceSendComplete => exact Keeps.awake h (Keeps.completeSource s)
  all_goals simp [directiveBytes] at directive

theorem Keeps.idle {s t : State} (h : idle s = .next t) : Keeps s t := by
  unfold Machine.idle at h
  split at h
  · cases h; exact .refl s
  · split at h
    · rw [← Host.Outcome.next.inj h]; exact Keeps.finishBoundary s
    · split at h
      · rw [← Host.Outcome.next.inj h]; exact Keeps.tick s ‹_›
      · exact Keeps.boundaryOutcome h

/-- Every step keeps every law. -/
theorem Keeps.step {s t : State} (h : step s = .next t) : Keeps s t := by
  unfold Machine.step at h
  split at h
  · exact Keeps.idle h
  · exact fun law hs => Keeps.exec h law (hs.outside s.rstLow _)

end Sys2Proof.Machine

open Sys2Proof Sys2Proof.Machine

/-- Settles O5: T, τ, ρ and the anchors are laws that every step keeps. -/
theorem stepKeepsClockAndRates : Obligations.StepKeepsClockAndRates := by
  refine ⟨fun s t clock rates h => ?_, fun s t anchors h => Keeps.step h .anchors anchors⟩
  obtain ⟨tau, rho⟩ := (ratesBounded_iff s).mp rates
  exact ⟨Keeps.step h .clock clock, (ratesBounded_iff t).mpr ⟨Keeps.step h .tau tau, Keeps.step h .rho rho⟩⟩

/-- Settles O6: the queues and transmit sides are laws that every step keeps, link by link. -/
theorem stepKeepsQueues : Obligations.StepKeepsQueues := by
  intro s t queues links h
  obtain ⟨log, source, air⟩ := (queues_and_links_iff s).mp ⟨queues, links⟩
  exact (queues_and_links_iff t).mpr
    ⟨Keeps.step h .log log, Keeps.step h .source source, Keeps.step h .air air⟩

/-- Settles O10: stream descriptors and settings are laws that every step keeps. -/
theorem stepKeepsStreamsAndSettings : Obligations.StepKeepsStreamsAndSettings := by
  intro s t streams settings h
  obtain ⟨interval, store, params, trims, prescales⟩ := (settingsInRange_iff s).mp settings
  exact ⟨Keeps.step h .streams streams, (settingsInRange_iff t).mpr
    ⟨Keeps.step h .interval interval, Keeps.step h .store store, Keeps.step h .params params,
      Keeps.step h .trims trims, Keeps.step h .prescales prescales⟩⟩

/-- Settles O13: a directive of Table 72, or the one that a raw frame spells, leaves the clock and the active
bank, no firing being put off. -/
theorem directivesKeepActivePlanAndTime : Obligations.DirectivesKeepActivePlanAndTime := by
  intro i kind d ops s t bytes none h
  have framed : ∀ kind d ops, Taken s (directiveFrame kind d ops s) := fun kind d ops => by
    unfold directiveFrame directiveArrives
    split
    · exact (Taken.countMalformed s).trans (Taken.reply _ _ _ _ _)
    · split
      · exact Taken.dispatch _ s none
      · exact Taken.reply _ _ _ _ s
  have taken : ∀ f, s.onSource f = .next t → Taken s (f s) → Taken s t := fun f h k => by
    rw [onSource_next h]
    split
    · exact .refl s
    · exact k
  have only : Only directiveParts s t := by
    rcases exec_directive (by rw [bytes]; rfl) s with e | ⟨kind, d, ops, rfl⟩
    · exact (taken _ (e ▸ h) (Taken.dispatch i s none)).only
    · exact (taken _ h (framed kind d ops)).only
  exact ⟨only.2.2 .active (by decide), only.2.2 .clock (by decide)⟩
end

section
/-! The part at reset and out of reach: RST_N, the laws of the state after it, and what comes about while RST_N is
low or a link is DOWN. -/

namespace Sys2Proof.Machine

open Sys2Proof

/-! ### The state after reset -/

@[simp] theorem reset_zone (z : ZoneNo) : State.reset.zone z = ZoneRun.reset := tblGet_replicate _ z

@[simp] theorem reset_stream (st : StreamNo) : State.reset.stream st = Stream.reset :=
  tblGet_replicate _ st

@[simp] theorem reset_claimStack (sp : SpeakerNo) : State.reset.claimStack sp = [] :=
  tblGet_replicate _ sp

@[simp] theorem reset_activeZone (z : ZoneNo) : State.reset.activeZone z = ZoneDesc.reset :=
  tblGet_replicate _ z

theorem Bank.reset_zone (z : ZoneNo) : Bank.reset.zone z = ZoneDesc.reset := tblGet_replicate _ z

theorem Bank.reset_speaker : ∀ sp : SpeakerNo, Bank.reset.speaker sp = SpeakerDesc.reset (sp.val + 1) := by
  decide

@[simp] theorem reset_activeSpeaker (sp : SpeakerNo) :
    State.reset.activeSpeaker sp = SpeakerDesc.reset (sp.val + 1) := Bank.reset_speaker sp

/-- The free list after reset names each cell below the bound once (R35). -/
theorem count_cellsBelow (c : CellNo) (k : Nat) (hk : k ≤ 1024) (rest : List CellNo) :
    (cellsBelow k rest).count c = (if c.val < k then 1 else 0) + rest.count c := by
  induction k generalizing rest with
  | zero => simp [cellsBelow]
  | succ k ih =>
    have value : (Fin.ofNat 1024 k).val = k := Nat.mod_eq_of_lt (by omega)
    have same : Fin.ofNat 1024 k = c ↔ c.val = k := by rw [Fin.ext_iff, value, eq_comm]
    rw [cellsBelow, ih (by omega), List.count_cons]
    simp only [beq_iff_eq, same]
    split <;> split <;> split <;> omega

theorem count_cellsBelow_all (c : CellNo) (k : Nat) (all : k = 1024) :
    (cellsBelow k []).count c = 1 := by
  rw [count_cellsBelow c k all.le [], if_pos (by omega), List.count_nil]

theorem count_ascendingCells (c : CellNo) : ascendingCells.count c = 1 :=
  count_cellsBelow_all c 1024 rfl

theorem reset_queueOwned : State.reset.queueOwned = [] := by simp [State.queueOwned, Stream.reset]

theorem reset_ringOwned : State.reset.ringOwned = [] := by
  simp [State.ringOwned, ZoneRun.reset, ringCells]

theorem reset_stackOwned : State.reset.stackOwned = [] := by simp [State.stackOwned]

theorem reset_freeList : State.reset.store.freeList = ascendingCells := by
  rw [State.reset, CellStore.reset]

theorem reset_cellsPartitioned : State.reset.CellsPartitioned := by
  intro c
  rw [State.cellPlaces, reset_queueOwned, reset_ringOwned, reset_stackOwned, List.append_nil,
    List.append_nil, List.append_nil, reset_freeList, count_ascendingCells c]

theorem ZoneDesc.reset_legal : ZoneDesc.reset.Legal := by
  unfold ZoneDesc.Legal
  decide

theorem SpeakerDesc.reset_legal : ∀ sp : SpeakerNo, (SpeakerDesc.reset (sp.val + 1)).Legal := by
  unfold SpeakerDesc.Legal
  decide

theorem Bank.reset_legal : Bank.reset.Legal :=
  ⟨fun z => Bank.reset_zone z ▸ ZoneDesc.reset_legal,
    fun sp => Bank.reset_speaker sp ▸ SpeakerDesc.reset_legal sp⟩

theorem reset_planValid : State.reset.PlanValid := by
  refine ⟨fun st => ?_, fun a b present => ?_, fun a z present => ?_, fun z present => ?_⟩
  · have : State.reset.plan.active.zonesOn st = [] :=
      List.filter_eq_nil_iff.mpr fun z _ => by
        rw [show tblGet State.reset.plan.active.zones z = ZoneDesc.reset from reset_activeZone z]
        simp [ZoneDesc.reset]
    rw [this]
    exact Nat.zero_le _
  · simp [SpeakerDesc.reset] at present
  · simp [SpeakerDesc.reset] at present
  · simp [ZoneDesc.reset] at present

theorem reset_rings (z : ZoneNo) : (State.reset.zone z).ring = [] ∧ (State.reset.zone z).state = .idle := by
  rw [reset_zone]
  exact ⟨rfl, rfl⟩

theorem reset_ringsLawful : State.reset.RingsLawful := by
  intro z
  simp only [reset_zone]
  exact ⟨Nat.zero_le _, .nil, fun e he => (List.not_mem_nil he).elim, fun h => (by cases h),
    fun h => (by cases h)⟩

theorem reset_recordsLawful : State.reset.RecordsLawful := by
  refine ⟨fun z moving => absurd (reset_rings z).2 moving, fun sp => ?_⟩
  simp [State.recordZones]

/-! ### What does not come about -/

theorem State.awake_low {s : State} (h : s.rstLow = true) (f : State → State) :
    s.awake f = .next s := by simp [State.awake, h]

theorem State.awake_high {s : State} (h : s.rstLow = false) (f : State → State) :
    s.awake f = .next (f s) := by simp [State.awake, h]

theorem State.onSource_unreceived {s : State} (h : s.rstLow = true ∨ s.source.up = false)
    (f : State → State) : s.onSource f = .next s := by
  rcases h with h | h <;> simp [State.onSource, h]

theorem State.onAir_unreceived {s : State} (h : s.rstLow = true ∨ s.air.up = false)
    (f : State → State) : s.onAir f = .next s := by
  rcases h with h | h <;> simp [State.onAir, h]

end Sys2Proof.Machine

open Sys2Proof Sys2Proof.Machine

/-- Settles O3: both commands are defined as State.reset. -/
theorem resetLineSetsState : Obligations.ResetLineSetsState := fun _ => ⟨rfl, rfl⟩

/-- Settles O4: what `Law.holds_reset` says of the state after reset, and the laws of cells, plan and zones. -/
theorem resetIsSound : Obligations.ResetIsSound := by
  have queues := (queues_and_links_iff State.reset).mpr
    ⟨Law.holds_reset .log, Law.holds_reset .source, Law.holds_reset .air⟩
  refine ⟨Law.holds_reset .clock, ⟨Law.holds_reset .tau, Law.holds_reset .rho⟩, queues.1, queues.2,
    reset_cellsPartitioned, ?claims, ?entries, Law.holds_reset .streams,
    ⟨Bank.reset_legal, Bank.reset_legal⟩, reset_planValid, ?settings, ?gains, ?leads, ?rings, ?ordered,
    reset_ringsLawful, ?audio, Law.holds_reset .anchors, reset_recordsLawful⟩
  case claims => simp [State.ClaimsTyped, reset_stackOwned]
  case entries => simp [State.EntriesTyped, ZoneRun.reset]
  case settings =>
    exact (settingsInRange_iff _).mpr ⟨Law.holds_reset .interval, Law.holds_reset .store,
      Law.holds_reset .params, Law.holds_reset .trims, Law.holds_reset .prescales⟩
  case gains => simp [State.GainsBounded, ZoneRun.reset]
  case leads => simp [State.LeadsBounded, ZoneRun.reset]
  case rings => exact fun z => ⟨fun _ => (reset_rings z).1, fun h => by simp [ZoneRun.reset] at h⟩
  case ordered => simp [State.StacksOrdered, State.stackPriorities]
  case audio => simp [State.AudioTyped, reset_queueOwned, reset_ringOwned]

/-- Settles O19: a frame passes through `State.onSource` or `State.onAir`, an event of the part's own through
`State.awake`, which leave the state. -/
theorem downLinksReceiveNothing : Obligations.DownLinksReceiveNothing := by
  refine fun s => ⟨fun down => ⟨?directives, fun _ => State.onSource_unreceived down _,
    fun _ _ => State.onSource_unreceived down _⟩, fun down =>
    ⟨fun _ => State.onAir_unreceived down _, fun _ _ => State.onAir_unreceived down _⟩, ?own⟩
  case directives =>
    intro i kind d ops bytes
    rcases exec_directive (by rw [bytes]; rfl) s with e | ⟨_, _, _, rfl⟩
    · rw [e, State.onSource_unreceived down]
    · exact State.onSource_unreceived down _
  case own =>
    intro low order later entries k z e i hi
    simp only [List.mem_cons, List.not_mem_nil, or_false] at hi
    rcases hi with rfl | hi
    · exact if_pos low
    · rcases hi with rfl | rfl | rfl | rfl | rfl | rfl | rfl | rfl | rfl | rfl | rfl | rfl <;>
        exact State.awake_low low _
end

section
/-! The Timeline's rows: what each work of a boundary leaves due, the boundary itself, the beacon, the election, the
firing of a NOTIFY mark, and the Timeline's directives. -/

namespace Sys2Proof.Machine

open Sys2Proof

/-! ### Fields of payloads -/

theorem fFlag_eq (b : Bool) : fFlag b = flagByte b := by cases b <;> rfl

theorem fIndex_eq {n : Nat} (i : Option (Fin n)) : fIndex i = numberByte i := by cases i <;> rfl

theorem fOptional_eq (width : Nat) (v : Option Nat) : fOptional width v = presence width v := by
  cases v <;> rfl

/-! ### What is left due -/

/-- Of the works of a boundary (the shares of a notice aside) `t` has none due that `s` has not; and a pending swap
stays on the agenda. -/
structure Progress (s t : State) : Prop where
  beacon : s.agenda.beacon = none → t.agenda.beacon = none
  election : s.agenda.election = false → t.agenda.election = false
  swap : s.agenda.swap = false → t.agenda.swap = false
  marks : ∀ k : MarkNo, tblGet s.agenda.marks k = false → tblGet t.agenda.marks k = false
  zones : ∀ z : ZoneNo, tblGet s.agenda.zones z = false → tblGet t.agenda.zones z = false
  pending : (s.plan.swapPending = true → s.agenda.swap = true) →
    t.plan.swapPending = true → t.agenda.swap = true

theorem Progress.refl (s : State) : Progress s s := ⟨id, id, id, fun _ => id, fun _ => id, id⟩

theorem Progress.trans {s t u : State} (h : Progress s t) (k : Progress t u) : Progress s u :=
  ⟨fun x => k.beacon (h.beacon x), fun x => k.election (h.election x), fun x => k.swap (h.swap x),
    fun m x => k.marks m (h.marks m x), fun z x => k.zones z (h.zones z x),
    fun x => k.pending (h.pending x)⟩

theorem Progress.forEach {α : Type} (f : α → State → State) (h : ∀ a s, Progress s (f a s)) (l : List α)
    (s : State) : Progress s (s.forEach l f) := by
  induction l generalizing s with
  | nil => exact .refl s
  | cons a l ih => exact (h a s).trans (ih (f a s))

/-- What leaves the agenda and the swap-pending flag. -/
theorem Only.progress {m : List Part} {s t : State} (h : Only m s t)
    (agenda : m.contains .agenda = false := by decide)
    (flag : m.contains .swapFlag = false := by decide) : Progress s t := by
  have a : t.agenda = s.agenda := h.agenda_eq agenda
  have f : t.plan.swapPending = s.plan.swapPending := h.2.2 .swapFlag (by simpa using flag)
  refine ⟨?_, ?_, ?_, fun k => ?_, fun z => ?_, ?_⟩ <;> simp only [a, f] <;> exact id

/-- The exchange of the banks (R99), the pending swap being taken with it. -/
def exchangeBanks (s : State) : State :=
  s.modPlan fun p => { p with active := p.staged, swapPending := false }

/-- What a swap does on the exchanged banks, `old` being the bank that was active: SWAP DONE, and the notices in their
order (R100 to R103). -/
def noticeSwap (old : Bank) (s : State) : State :=
  ((((offerEvent .swapDone 0 [f6 s.block] s).forEach allSpeakers followRole).forEach allZones
    (zoneNotice old)).forEach allSpeakers (speakerNotice old)).forEach allStreams (streamNotice old)

theorem completeSwap_eq (s : State) : completeSwap s = noticeSwap s.plan.active (exchangeBanks s) := rfl

/-- What the notices of a swap can change. -/
abbrev swapNoticeParts : List Part := [.source, .tap, .zones, .intake] ++ noticeParts

theorem Only.noticeSwap (old : Bank) (s : State) : Only swapNoticeParts s (noticeSwap old s) :=
  (((Only.offerEvent _ _ _ s).then (m := swapNoticeParts) (k := [.speakers])
    (Only.forEach followRole (fun _ _ => Only.modSpeaker _ _ _) allSpeakers _)).then
    (m := swapNoticeParts) (k := [.zones])
    (Only.forEach _ (fun _ _ => Only.zoneNotice old _ _) allZones _)).then
    (m := swapNoticeParts) (k := swapNoticeParts)
    (Only.then (m := swapNoticeParts) (k := [.store, .intake, .source, .tap])
      (Only.forEach (m := noticeParts) _ (fun _ _ => Only.speakerNotice old _ _) allSpeakers _)
      (Only.forEach _ (fun _ _ => Only.streamNotice old _ _) allStreams _))

theorem takeSwap_swapPending (s : State) : (takeSwap s).plan.swapPending = false := by
  unfold takeSwap
  simp only []
  split
  · exact (Only.offerEvent _ _ _ _).2.2 .swapFlag (by decide)
  · rw [completeSwap_eq]
    exact (Only.noticeSwap _ _).2.2 .swapFlag (by decide)

theorem Progress.takeSwap (s : State) : Progress s (takeSwap s) := by
  have a := takeSwap_agenda s
  refine ⟨?_, ?_, ?_, fun k => ?_, fun z => ?_, ?_⟩ <;> rw [a]
  · exact id
  · exact id
  · exact fun _ => rfl
  · exact id
  · exact id
  · rw [takeSwap_swapPending]; exact fun _ h => by cases h

theorem Progress.takeElection (s : State) : Progress s (takeElection s) := by
  have a := takeElection_agenda s
  have f : (Machine.takeElection s).plan.swapPending = s.plan.swapPending :=
    (Only.takeElection s).2.2 .swapFlag (by decide)
  refine ⟨?_, ?_, ?_, fun k => ?_, fun z => ?_, ?_⟩ <;> simp only [a, f]
  · exact id
  · exact fun _ => trivial
  · exact id
  · exact id
  · exact id
  · exact id

theorem dueNotice_agenda (e : EntryNo) (s : State) :
    (dueNotice e s).agenda = { s.agenda with notices := tblSet s.agenda.notices e false } := by
  unfold dueNotice
  split
  · exact (Only.takeNotice _ _).agenda_eq
  · rename_i h
    have same : tblSet s.agenda.notices e false = s.agenda.notices := by
      refine tbl_ext fun o => ?_
      rw [tblGet_tblSet]
      split
      · subst o; simpa using h
      · rfl
    rw [same]

theorem Progress.dueNotice (e : EntryNo) (s : State) : Progress s (dueNotice e s) := by
  have a := dueNotice_agenda e s
  have f : (Machine.dueNotice e s).plan.swapPending = s.plan.swapPending :=
    (Only.dueNotice e s).2.2 .swapFlag (by decide)
  refine ⟨?_, ?_, ?_, fun k => ?_, fun z => ?_, ?_⟩ <;> simp only [a, f] <;> exact id

theorem Progress.dueNotices (l : List EntryNo) (s : State) : Progress s (dueNotices l s) :=
  Progress.forEach _ Progress.dueNotice l s

theorem emitBeacon_agenda (interval : Nat) (s : State) :
    (emitBeacon interval s).agenda =
      { s.agenda with beacon := none, notices := Vector.replicate 40 true } := by
  have handed := (Only.handBeacon (s.timeline.beaconNumber + 1) s.timeline.block interval
    (s.modTimeline fun t => { t with
      beaconNumber := s.timeline.beaconNumber + 1
      beaconLog := logBeacon t.beaconLog (s.timeline.beaconNumber + 1) t.block })).agenda_eq
  exact congrArg (fun a : Agenda => { a with beacon := none, notices := Vector.replicate 40 true }) handed

theorem Progress.emitBeacon (interval : Nat) (s : State) : Progress s (emitBeacon interval s) := by
  have a := emitBeacon_agenda interval s
  have f : (Machine.emitBeacon interval s).plan.swapPending = s.plan.swapPending :=
    (Only.emitBeacon interval s).2.2 .swapFlag (by decide)
  refine ⟨?_, ?_, ?_, fun k => ?_, fun z => ?_, ?_⟩ <;> simp only [a, f]
  · exact fun _ => trivial
  all_goals exact id

theorem Progress.takeBeacon (later : List EntryNo) (s : State) : Progress s (takeBeacon later s) := by
  unfold Machine.takeBeacon
  split
  · exact .refl s
  · exact ((Progress.dueNotices _ s).trans (Progress.emitBeacon _ _)).trans (Progress.dueNotices _ _)

theorem Progress.markAction (k : MarkNo) (mk : Mark) (s : State) : Progress s (markAction k mk s) := by
  unfold Machine.markAction
  have report : ∀ code reason t, Progress t (Machine.markReport k mk code reason t) :=
    fun _ _ _ => (Only.markReport _ _ _ _ _).progress
  split
  · exact report _ _ s
  · split
    · exact report _ _ s
    · exact (Progress.takeSwap s).trans (report _ _ _)
  · split
    · exact report _ _ s
    · split
      · exact report _ _ s
      · exact (Only.startZone _ s).progress.trans (report _ _ _)
  · split
    · exact report _ _ s
    · exact (Only.softStop _ s).progress.trans (report _ _ _)

theorem Progress.unmark (k : MarkNo) (s : State) :
    Progress s (s.modAgenda fun a => { a with marks := tblSet a.marks k false }) := by
  refine ⟨id, id, id, fun o h => ?_, fun _ => id, id⟩
  simp only [State.modAgenda_agenda, tblGet_tblSet]
  split
  · rfl
  · exact h

theorem Progress.unzone (z : ZoneNo) (s : State) :
    Progress s (s.modAgenda fun a => { a with zones := tblSet a.zones z false }) := by
  refine ⟨id, id, id, fun _ => id, fun o h => ?_, id⟩
  simp only [State.modAgenda_agenda, tblGet_tblSet]
  split
  · rfl
  · exact h

/-- A mark fires where it is due: the slot is taken from the agenda, and an armed one disarmed and carried out. -/
theorem Progress.fired (k : MarkNo) (s : State) :
    Progress (s.modAgenda fun a => { a with marks := tblSet a.marks k false })
      (if (s.mark k).armed then
        Machine.markAction k (s.mark k)
          ((s.modAgenda fun a => { a with marks := tblSet a.marks k false }).modMark k fun m =>
            { m with armed := false })
      else s.modAgenda fun a => { a with marks := tblSet a.marks k false }) := by
  split
  · exact (Only.modMark _ _ _).progress.trans (Progress.markAction _ _ _)
  · exact .refl _

theorem Progress.fireMark (k : MarkNo) (s : State) : Progress s (fireMark k s) := by
  unfold Machine.fireMark
  split
  · exact (Progress.unmark k s).trans (Progress.fired k s)
  · exact .refl s

theorem fireMark_taken (k : MarkNo) (s : State) : tblGet (fireMark k s).agenda.marks k = false := by
  unfold fireMark
  split
  · exact (Progress.fired k s).marks k (by simp)
  · exact Bool.eq_false_of_not_eq_true ‹_›

theorem Progress.fireSwapMarks (s : State) : Progress s (s.forEach allMarks fireSwapMark) := by
  refine Progress.forEach _ (fun k t => ?_) _ s
  unfold fireSwapMark
  split
  · exact Progress.fireMark k t
  · exact .refl t

theorem Progress.settleSwap (s : State) : Progress s (settleSwap s) := by
  unfold Machine.settleSwap
  split
  · exact (Progress.takeSwap s).trans (Progress.fireSwapMarks _)
  · exact Progress.fireSwapMarks s

theorem settleSwap_taken (s : State) : (settleSwap s).agenda.swap = false := by
  unfold settleSwap
  refine (Progress.fireSwapMarks _).swap ?_
  split
  · rw [takeSwap_agenda]
  · exact Bool.eq_false_of_not_eq_true ‹_›

theorem Progress.dueZone (z : ZoneNo) (s : State) : Progress s (dueZone z s) := by
  unfold Machine.dueZone
  split
  · exact ((Progress.settleSwap s).trans (Progress.unzone z _)).trans (Only.zoneWork _ _).progress
  · exact .refl s

theorem dueZone_taken (z : ZoneNo) (s : State) : tblGet (dueZone z s).agenda.zones z = false := by
  unfold dueZone
  split
  · rw [zoneWork_agenda]; simp
  · exact Bool.eq_false_of_not_eq_true ‹_›

theorem Progress.dueMark (k : MarkNo) (s : State) : Progress s (dueMark k s) := by
  unfold Machine.dueMark
  split
  · exact Progress.fireMark k s
  · exact Progress.fireMark k s
  · exact (Progress.settleSwap s).trans (Progress.fireMark _ _)
  · exact (Progress.settleSwap s).trans (Progress.fireMark _ _)

theorem dueMark_taken (k : MarkNo) (s : State) : tblGet (dueMark k s).agenda.marks k = false := by
  unfold dueMark
  split <;> exact fireMark_taken k _

theorem Progress.runTask (t : BoundaryTask) (s : State) : Progress s (runTask t s) := by
  unfold Machine.runTask
  split
  · exact Progress.settleSwap s
  · exact Progress.takeBeacon _ s
  · exact Progress.takeElection s
  · exact Progress.dueMark _ s
  · exact Progress.dueZone _ s

theorem takeBeacon_taken (later : List EntryNo) (s : State) :
    (takeBeacon later s).agenda.beacon = none := by
  unfold takeBeacon
  split
  · exact ‹_›
  · exact (Progress.dueNotices _ _).beacon (by rw [emitBeacon_agenda])

/-- Whether a work is off the agenda. -/
def Agenda.Without (a : Agenda) : BoundaryTask → Prop
  | .swap => a.swap = false
  | .beacon => a.beacon = none
  | .election => a.election = false
  | .mark k => tblGet a.marks k = false
  | .zone z => tblGet a.zones z = false

/-- A work that has been taken is off the agenda. -/
theorem runTask_taken (t : BoundaryTask) (s : State) : (runTask t s).agenda.Without t := by
  cases t <;> simp only [runTask, Agenda.Without]
  case swap => exact settleSwap_taken s
  case beacon => exact takeBeacon_taken [] s
  case election => rw [takeElection_agenda]
  case mark k => exact dueMark_taken k s
  case zone z => exact dueZone_taken z s

theorem Progress.without {s t : State} (h : Progress s t) (task : BoundaryTask)
    (gone : s.agenda.Without task) : t.agenda.Without task := by
  cases task
  · exact h.swap gone
  · exact h.beacon gone
  · exact h.election gone
  · exact h.marks _ gone
  · exact h.zones _ gone

/-- Of works taken one after another, each is then off the agenda. -/
theorem forEach_runTask_taken (l : List BoundaryTask) (s : State) (t : BoundaryTask) (ht : t ∈ l) :
    (s.forEach l runTask).agenda.Without t := by
  induction l generalizing s with
  | nil => cases ht
  | cons a l ih =>
    rw [State.forEach_cons]
    by_cases here : t = a
    · subst here
      exact (Progress.forEach _ Progress.runTask l _).without _ (runTask_taken t s)
    · exact ih _ (by simpa [here] using ht)

theorem mem_allTasks (t : BoundaryTask) : t ∈ allTasks := by
  cases t
  case mark k => revert k; decide
  case zone z => revert z; decide
  all_goals decide

/-- A share of a notice that has been taken is not due again. -/
theorem dueNotices_taken (l : List EntryNo) (s : State) (e : EntryNo)
    (h : e ∈ l ∨ tblGet s.agenda.notices e = false) :
    tblGet (dueNotices l s).agenda.notices e = false := by
  induction l generalizing s with
  | nil => exact h.resolve_left List.not_mem_nil
  | cons a l ih =>
    refine ih (dueNotice a s) ?_
    rw [dueNotice_agenda, tblGet_tblSet]
    by_cases same : a = e
    · exact .inr (if_pos same)
    · rw [if_neg same]
      exact h.imp (fun m => (List.mem_cons.mp m).resolve_left fun x => same x.symm) id

theorem mem_allEntries : ∀ e : EntryNo, e ∈ allEntries := by decide

theorem any_id_eq_false {n : Nat} {v : Vector Bool n} : v.toList.any id = false ↔ ∀ i, tblGet v i = false := by
  rw [List.any_eq_false]
  constructor
  · intro h i
    simpa using h (tblGet v i) (by simp [tblGet])
  · intro h x hx
    obtain ⟨i, hi, rfl⟩ := List.getElem_of_mem hx
    simpa [tblGet] using h ⟨i, by simpa using hi⟩

/-- Nothing of the boundary is left where every item of the agenda is gone. -/
theorem busy_eq_false {a : Agenda} :
    a.busy = false ↔ (∀ t, a.Without t) ∧ ∀ e, tblGet a.notices e = false := by
  unfold Agenda.busy
  simp only [Bool.or_eq_false_iff, any_id_eq_false, Option.isSome_eq_false_iff, Option.isNone_iff_eq_none]
  constructor
  · rintro ⟨⟨⟨⟨⟨beacon, election⟩, swap⟩, marks⟩, zones⟩, notices⟩
    exact ⟨fun t => by cases t <;> simp_all [Agenda.Without], notices⟩
  · rintro ⟨tasks, notices⟩
    exact ⟨⟨⟨⟨⟨tasks .beacon, tasks .election⟩, tasks .swap⟩, fun k => tasks (.mark k)⟩,
      fun z => tasks (.zone z)⟩, notices⟩

/-- What a boundary left is finished whole. -/
theorem finishBoundary_busy (s : State) : (finishBoundary s).agenda.busy = false := by
  rw [finishBoundary]
  exact busy_eq_false.mpr
    ⟨fun t => (Progress.dueNotices _ _).without t (forEach_runTask_taken _ s t (mem_allTasks t)),
      fun e => dueNotices_taken _ _ e (.inl (mem_allEntries e))⟩

end Sys2Proof.Machine
end

section
/-! A boundary: the clock it sets, the swap it takes before its zones and marks, and what passes when no command
waits. -/

namespace Sys2Proof.Machine

open Sys2Proof

/-! ### The clock and the pending swap -/

theorem Only.clock_eq {l : List Part} {s t : State} (h : Only l s t) (hl : l.contains .clock = false) :
    t.timeline.count = s.timeline.count ∧ t.timeline.block = s.timeline.block :=
  h.2.2 .clock (by simpa using hl)

theorem openBoundary_clock (s : State) :
    (openBoundary s).timeline.count = 128 * (s.timeline.block + 1)
      ∧ (openBoundary s).timeline.block = s.timeline.block + 1 := ⟨rfl, rfl⟩

theorem takeBoundary_clock (order later : List BoundaryTask) (s : State) :
    (takeBoundary order later s).timeline.count = 128 * (s.timeline.block + 1)
      ∧ (takeBoundary order later s).timeline.block = s.timeline.block + 1 := by
  obtain ⟨worksCount, worksBlock⟩ :=
    (Only.boundaryWorks order later (openBoundary (finishBoundary s))).clock_eq (by decide)
  obtain ⟨count, block⟩ := openBoundary_clock (finishBoundary s)
  obtain ⟨-, finished⟩ := (Only.finishBoundary s).clock_eq (by decide)
  rw [takeBoundary, worksCount, worksBlock, count, block, finished]
  exact ⟨rfl, rfl⟩

theorem boundaryWorks_progress (order later : List BoundaryTask) (s : State) :
    Progress s (boundaryWorks order later s) :=
  (Progress.forEach _ Progress.runTask _ _).trans (Progress.settleSwap _)

theorem boundaryWorks_taken (order later : List BoundaryTask) (s : State) :
    (boundaryWorks order later s).agenda.swap = false := by
  rw [boundaryWorks]
  exact settleSwap_taken _

theorem takeBoundary_swapPending (order later : List BoundaryTask) (s : State) :
    (takeBoundary order later s).plan.swapPending = false := by
  have opened : (openBoundary (finishBoundary s)).plan.swapPending = true →
      (openBoundary (finishBoundary s)).agenda.swap = true := by
    generalize finishBoundary s = u
    exact id
  rw [takeBoundary]
  by_contra pending
  have left := (boundaryWorks_progress order later _).pending opened (Bool.eq_true_of_not_eq_false pending)
  rw [boundaryWorks_taken] at left
  cases left

/-! ### A boundary that finds nothing left of the last one -/

theorem dueNotices_none (l : List EntryNo) (s : State)
    (none : ∀ e, tblGet s.agenda.notices e = false) : dueNotices l s = s := by
  induction l with
  | nil => rfl
  | cons e l ih =>
    have here : dueNotice e s = s := if_neg (by simp [none e])
    exact (congrArg (dueNotices l) here).trans ih

theorem fireMark_notDue {k : MarkNo} {s : State} (h : tblGet s.agenda.marks k = false) :
    fireMark k s = s := if_neg (by simp [h])

theorem runTask_idle {s : State} (idle : s.agenda.busy = false) (t : BoundaryTask) : runTask t s = s := by
  obtain ⟨gone, -⟩ := busy_eq_false.mp idle
  have settled : settleSwap s = s :=
    settleSwap_none s (fun k due => absurd due (by simp [show tblGet s.agenda.marks k = false from gone (.mark k)]))
      (gone .swap)
  have unmarked (k : MarkNo) : fireMark k s = s := fireMark_notDue (gone (.mark k))
  cases t
  case swap => exact settled
  case beacon =>
    show takeBeacon [] s = s
    rw [takeBeacon, show s.agenda.beacon = none from gone .beacon]
  case election => exact if_neg (by simp [show s.agenda.election = false from gone .election])
  case mark k =>
    show dueMark k s = s
    unfold dueMark
    rw [settled, unmarked]
    split <;> rfl
  case zone z => exact if_neg (by simp [show tblGet s.agenda.zones z = false from gone (.zone z)])

theorem finishBoundary_idle {s : State} (idle : s.agenda.busy = false) : finishBoundary s = s := by
  have works : ∀ l : List BoundaryTask, s.forEach l runTask = s := by
    intro l
    induction l with
    | nil => rfl
    | cons t l ih => rw [State.forEach_cons, runTask_idle idle, ih]
  rw [finishBoundary, works]
  exact dueNotices_none _ s (busy_eq_false.mp idle).2

theorem exec_blockBoundary (order later : List BoundaryTask) {s : State} (high : s.rstLow = false)
    (limit : s.timeline.block + 1 < 2 ^ 41) :
    exec (.blockBoundary order later) s = .next (takeBoundary order later s) := by
  show boundaryOutcome order later s = _
  unfold boundaryOutcome
  rw [if_neg (by simp [high])]
  exact if_pos limit

theorem takeBoundary_idle (order later : List BoundaryTask) {s : State} (idle : s.agenda.busy = false) :
    takeBoundary order later s = boundaryWorks order later (openBoundary s) := by
  rw [takeBoundary, finishBoundary_idle idle]

/-! ### The swap is taken once -/

/-- No swap of the boundary is left, requested or by a mark. -/
structure State.Settled (s : State) : Prop where
  marks : s.NoSwapMarkDue
  swap : s.agenda.swap = false

theorem State.Settled.settleSwap {s : State} (h : s.Settled) : settleSwap s = s :=
  settleSwap_none s h.marks h.swap

theorem State.NoSwapMarkDue.settled {s : State} (h : s.NoSwapMarkDue) : (Machine.settleSwap s).Settled := by
  refine ⟨?_, settleSwap_taken s⟩
  rw [settleSwap_eq s h]
  split
  · exact h.takeSwap
  · exact h

theorem State.Settled.zoneWork {s : State} (h : s.Settled) (z : ZoneNo) : (zoneWork z s).Settled := by
  refine ⟨fun k due => ?_, ?_⟩
  · rw [(Only.zoneWork z s).marks_eq (by decide) k]
    exact h.marks k (by rwa [zoneWork_agenda] at due)
  · rw [zoneWork_agenda]
    exact h.swap

theorem State.Settled.unzone {s : State} (h : s.Settled) (z : ZoneNo) :
    State.Settled (s.modAgenda fun a => { a with zones := tblSet a.zones z false }) := ⟨h.marks, h.swap⟩

/-- A START, STOP or NOTIFY mark's action leaves the marks. -/
theorem markAction_mark (k : MarkNo) (mk : Mark) (s : State) (other : mk.action ≠ .swap) (j : MarkNo) :
    (markAction k mk s).mark j = s.mark j := by
  have reported (reason : List Field) (code : EventCode) (t : State) :
      (markReport k mk code reason t).mark j = t.mark j :=
    (Only.markReport k mk code reason t).marks_eq (by decide) j
  unfold markAction
  split
  · exact reported _ _ _
  · exact absurd ‹_› other
  · split
    · exact reported _ _ _
    · split
      · exact reported _ _ _
      · exact (reported _ _ _).trans ((Only.startZone _ s).marks_eq (by decide) j)
  · split
    · exact reported _ _ _
    · exact (reported _ _ _).trans ((Only.softStop _ s).marks_eq (by decide) j)

theorem fireMark_agenda (k : MarkNo) (s : State) (other : (s.mark k).action ≠ .swap) :
    (fireMark k s).agenda = { s.agenda with marks := tblSet s.agenda.marks k false } := by
  unfold fireMark
  simp only []
  split
  · split
    · rw [markAction_agenda _ _ _ other]
      rfl
    · rfl
  · have same : tblSet s.agenda.marks k false = s.agenda.marks := by
      refine tbl_ext fun o => ?_
      rw [tblGet_tblSet]
      split
      · subst o
        exact (Bool.eq_false_of_not_eq_true ‹_›).symm
      · rfl
    rw [same]

theorem fireMark_action (k : MarkNo) (s : State) (other : (s.mark k).action ≠ .swap) (j : MarkNo) :
    ((fireMark k s).mark j).action = (s.mark j).action := by
  unfold fireMark
  simp only []
  split
  · split
    · rw [markAction_mark _ _ _ other, State.mark_modMark]
      split
      · subst j
        rfl
      · rfl
    · rfl
  · rfl

theorem State.Settled.fireMark {s : State} (h : s.Settled) (k : MarkNo) (other : (s.mark k).action ≠ .swap) :
    (fireMark k s).Settled := by
  refine ⟨fun j due => ?_, ?_⟩
  · rw [fireMark_agenda k s other, tblGet_tblSet] at due
    rw [fireMark_action k s other]
    split at due
    · cases due
    · exact h.marks j due
  · rw [fireMark_agenda k s other]
    exact h.swap

/-! ### One work that is not put off -/

/-- Every work but one put off. -/
abbrev allBut (t : BoundaryTask) : List BoundaryTask := allTasks.filter fun u => decide (u ≠ t)

/-- The works of a boundary that are not put off, in their order. -/
abbrev worksLeft (order later : List BoundaryTask) : List BoundaryTask :=
  (order ++ allTasks).filter fun t => t == .swap || !later.contains t

theorem worksLeft_allBut_zone : ∀ z : ZoneNo,
    worksLeft [] (allBut (.zone z)) = [.swap, .zone z]
      ∧ worksLeft [.zone z] (allBut (.zone z)) = [.zone z, .swap, .zone z] := by decide

theorem worksLeft_allBut_mark : ∀ k : MarkNo,
    worksLeft [] (allBut (.mark k)) = [.swap, .mark k]
      ∧ worksLeft [.mark k] (allBut (.mark k)) = [.mark k, .swap, .mark k] := by decide

theorem runTask_swap (s : State) : runTask .swap s = settleSwap s := rfl

theorem runTask_mark (k : MarkNo) (s : State) : runTask (.mark k) s = dueMark k s := rfl

theorem runTask_zone (z : ZoneNo) (s : State) : runTask (.zone z) s = dueZone z s := rfl

theorem dueZone_due {z : ZoneNo} {s : State} (due : tblGet s.agenda.zones z = true) :
    dueZone z s = zoneWork z ((settleSwap s).modAgenda fun a => { a with zones := tblSet a.zones z false }) :=
  if_pos due

theorem dueZone_notDue {z : ZoneNo} {s : State} (h : tblGet s.agenda.zones z = false) : dueZone z s = s :=
  if_neg (by simp [h])

theorem boundaryWorks_swap {s : State} (h : s.NoSwapMarkDue) :
    boundaryWorks [] allTasks s = settleSwap s := by
  have works : worksLeft [] allTasks = [.swap] := by decide
  show settleSwap (s.forEach (worksLeft [] allTasks) runTask) = _
  rw [works, State.forEach_cons, State.forEach_nil, runTask_swap, settleSwap_settled s h]

/-- A work that settles the swap first, keeps it settled and is then done may as well be taken after the swap. -/
theorem boundaryWorks_one {s t : State} {work : BoundaryTask} {order : List BoundaryTask}
    (works : worksLeft [] (allBut work) = [.swap, work]
      ∧ worksLeft [work] (allBut work) = [work, .swap, work])
    (first : order = [] ∨ order = [work])
    (before : runTask work s = t) (after : runTask work (settleSwap s) = t)
    (again : runTask work t = t) (settled : t.Settled) : boundaryWorks order (allBut work) s = t := by
  obtain ⟨plain, named⟩ := works
  show settleSwap (s.forEach (worksLeft order (allBut work)) runTask) = t
  rcases first with rfl | rfl
  · rw [plain, State.forEach_cons, State.forEach_cons, State.forEach_nil, runTask_swap, after, settled.settleSwap]
  · rw [named, State.forEach_cons, State.forEach_cons, State.forEach_cons, State.forEach_nil, runTask_swap,
      before, settled.settleSwap, again, settled.settleSwap]

theorem boundaryWorks_zone {s : State} (h : s.NoSwapMarkDue) {z : ZoneNo}
    (due : tblGet s.agenda.zones z = true) {order : List BoundaryTask} (first : order = [] ∨ order = [.zone z]) :
    boundaryWorks order (allBut (.zone z)) s =
      zoneWork z ((settleSwap s).modAgenda fun a => { a with zones := tblSet a.zones z false }) := by
  have dueAfter : tblGet (settleSwap s).agenda.zones z = true := by
    rw [settleSwap_eq s h]
    split
    · rwa [takeSwap_agenda]
    · exact due
  have done := zoneWork_agenda z ((settleSwap s).modAgenda fun a => { a with zones := tblSet a.zones z false })
  refine boundaryWorks_one (worksLeft_allBut_zone z) first ?_ ?_ ?_ ((h.settled.unzone z).zoneWork z)
  · rw [runTask_zone, dueZone_due due]
  · rw [runTask_zone, dueZone_due dueAfter, settleSwap_settled s h]
  · rw [runTask_zone, dueZone_notDue]
    rw [done]
    exact tblGet_tblSet_same _ _ _

theorem dueMark_eq {k : MarkNo} {s : State} (h : (s.mark k).action = .start ∨ (s.mark k).action = .stop) :
    dueMark k s = fireMark k (settleSwap s) := by
  unfold dueMark
  rcases h with h | h <;> rw [h]

theorem boundaryWorks_mark {s : State} (h : s.NoSwapMarkDue) {k : MarkNo}
    (action : (s.mark k).action = .start ∨ (s.mark k).action = .stop)
    {order : List BoundaryTask} (first : order = [] ∨ order = [.mark k]) :
    boundaryWorks order (allBut (.mark k)) s = dueMark k (settleSwap s) := by
  have keeps : ((settleSwap s).mark k).action = (s.mark k).action := by
    rw [settleSwap_eq s h]
    split
    · rw [takeSwap_marks]
    · rfl
  have actionAfter : ((settleSwap s).mark k).action = .start ∨ ((settleSwap s).mark k).action = .stop := by
    rwa [keeps]
  have other : ((settleSwap s).mark k).action ≠ .swap := by rcases actionAfter with e | e <;> rw [e] <;> decide
  have fired : dueMark k (settleSwap s) = fireMark k (settleSwap s) := by
    rw [dueMark_eq actionAfter, h.settled.settleSwap]
  have settled : (fireMark k (settleSwap s)).Settled := h.settled.fireMark k other
  have actionFired : ((fireMark k (settleSwap s)).mark k).action = .start
      ∨ ((fireMark k (settleSwap s)).mark k).action = .stop := by
    rwa [fireMark_action k _ other]
  rw [fired]
  refine boundaryWorks_one (worksLeft_allBut_mark k) first ?_ ?_ ?_ settled
  · rw [runTask_mark, dueMark_eq action]
  · rw [runTask_mark, fired]
  · rw [runTask_mark, dueMark_eq actionFired, settled.settleSwap, fireMark_notDue (fireMark_taken k _)]

end Sys2Proof.Machine

open Sys2Proof Sys2Proof.Machine

/-- Settles O1. -/
theorem stepRunsFrontCommand : Obligations.StepRunsFrontCommand := by
  refine ⟨fun s c rest front => ?_, fun s empty => ?_⟩
  · unfold step
    rw [front]
    rfl
  have stepped : step s = idle s := by rw [step, empty]
  rw [stepped]
  unfold idle
  refine ⟨fun low => if_pos low, fun high busy => ?_, fun high free => ⟨fun within => ?_, fun ends => ?_⟩⟩
  · obtain ⟨count, block⟩ := (Only.finishBoundary s).clock_eq (by decide)
    rw [if_neg (by simp [high]), if_pos busy]
    exact ⟨_, rfl, count, block, finishBoundary_busy s⟩
  · rw [if_neg (by simp [high]), if_neg (by simp [free])]
    exact if_pos within
  · rw [if_neg (by simp [high]), if_neg (by simp [free]),
      if_neg (c := s.timeline.count + 1 < Config.blockLength * (s.block + 1)) ends.not_lt]
    obtain ⟨count, block⟩ := takeBoundary_clock [] [] s
    exact ⟨rfl, fun limit => ⟨_, exec_blockBoundary [] [] high limit, count.trans ends.symm, block⟩⟩

/-- Settles O22. -/
theorem boundaryAdvancesBlock : Obligations.BoundaryAdvancesBlock := by
  refine ⟨fun s order later high limit => ?_, fun s high limit free => ?_⟩
  · obtain ⟨count, block⟩ := takeBoundary_clock order later s
    exact ⟨_, exec_blockBoundary order later high limit, block, count, takeBoundary_swapPending order later s⟩
  intro n unswapped
  refine ⟨tblMap s.timeline.marks fun m => m.armed && (decide (m.block = n) || m.late), fun k => ?_, ?_⟩
  · rw [tblGet_tblMap]
    rfl
  intro opened swapped
  have quiet : opened.NoSwapMarkDue := by
    intro k due action
    have due : ((s.mark k).armed && (decide ((s.mark k).block = n) || (s.mark k).late)) = true :=
      (tblGet_tblMap _ _ _).symm.trans due
    obtain ⟨block, late⟩ := unswapped k (by simp_all) action
    simp [block, late] at due
  have settled : settleSwap opened = swapped := settleSwap_eq opened quiet
  have taken (order later : List BoundaryTask) :
      exec (.blockBoundary order later) s = .next (boundaryWorks order later opened) := by
    rw [exec_blockBoundary order later high limit, takeBoundary_idle order later free]
    rfl
  have swappedHigh : swapped.rstLow = false := by
    rw [← settled, (Only.settleSwap opened).1]
    exact high
  refine ⟨?_, fun z order first => ?_, fun k order first action => ?_⟩
  · rw [taken, boundaryWorks_swap quiet, settled]
  · have due : tblGet opened.agenda.zones z = true := by simp [opened, tblGet]
    rw [taken, boundaryWorks_zone quiet due first, settled]
    rfl
  · rw [taken, boundaryWorks_mark quiet action first, settled]
    exact (State.awake_high swappedHigh (dueMark k)).symm
end

section
/-! The beacon, the election and the firing of a NOTIFY mark; SET BEACON, SET TIMEBASE, ARM MARK and DISARM MARK. -/

namespace Sys2Proof.Machine

open Sys2Proof

/-! ### Whole blocks that an operation leaves -/

section
variable {l : List Part} {s t : State} (h : Only l s t)
include h

theorem Only.same (p : Part) (hl : l.contains p = false) : SameIn p s t := h.2.2 p (by simpa using hl)

theorem Only.timeline_eq (clock : l.contains .clock = false := by decide)
    (timing : l.contains .timing = false := by decide) (marks : l.contains .marks = false := by decide) :
    t.timeline = s.timeline := by
  obtain ⟨count, block⟩ := h.same .clock clock
  obtain ⟨tau, mode, candidates, elected, noCandidate, interval, number, log⟩ := h.same .timing timing
  have marks : t.timeline.marks = s.timeline.marks := h.same .marks marks
  cases t' : t.timeline
  cases s' : s.timeline
  simp_all

theorem Only.plan_eq (active : l.contains .active = false := by decide)
    (staged : l.contains .staged = false := by decide) (flag : l.contains .swapFlag = false := by decide)
    (trims : l.contains .trims = false := by decide) (accessed : l.contains .accessed = false := by decide) :
    t.plan = s.plan := by
  have active : t.plan.active = s.plan.active := h.same .active active
  have staged : t.plan.staged = s.plan.staged := h.same .staged staged
  have flag : t.plan.swapPending = s.plan.swapPending := h.same .swapFlag flag
  have trims : t.plan.trims = s.plan.trims := h.same .trims trims
  have accessed : t.plan.accessed = s.plan.accessed := h.same .accessed accessed
  cases t' : t.plan
  cases s' : s.plan
  simp_all

theorem Only.cue_eq (memory : l.contains .memory = false := by decide)
    (runs : l.contains .cueRuns = false := by decide) : t.cue = s.cue := by
  have memory : t.cue.memory = s.cue.memory := h.same .memory memory
  have runs : t.cue.runs = s.cue.runs := h.same .cueRuns runs
  cases t' : t.cue
  cases s' : s.cue
  simp_all

theorem Only.store_eq (hl : l.contains .store = false := by decide) : t.store = s.store := h.same .store hl

theorem Only.intake_eq (hl : l.contains .intake = false := by decide) : t.intake = s.intake := h.same .intake hl

theorem Only.overlay_eq (hl : l.contains .overlay = false := by decide) : t.overlay = s.overlay :=
  h.same .overlay hl

theorem Only.air_eq (hl : l.contains .air = false := by decide) : t.air = s.air := h.same .air hl

theorem Only.source_eq (hl : l.contains .source = false := by decide) : t.source = s.source := h.same .source hl

theorem Only.tap_eq (hl : l.contains .tap = false := by decide) : t.playout.tap = s.playout.tap := h.same .tap hl

theorem Only.params_eq (hl : l.contains .params = false := by decide) : t.tracker.params = s.tracker.params :=
  h.same .params hl

theorem Only.entry_eq (hl : l.contains .entries = false := by decide) (e : EntryNo) : t.entry e = s.entry e :=
  congrArg (tblGet · e) (h.same .entries hl : t.tracker.entries = s.tracker.entries)

end

/-! ### The beacon -/

/-- A BEACON, like every frame, is handed over by what the Air Link, the block and the refill margin say. -/
theorem handBeacon_reads (number : SerialNo) (block interval : Nat) (u s : State) (h : SameAir u s) :
    handBeacon number block interval u = { u with air := (handBeacon number block interval s).air } := by
  unfold handBeacon
  rw [h.air]
  split
  · rw [placeControl_reads _ u s h, placeControl_reads _ s s (.refl s),
      selectAir_reads _ _ (h.withAir _)]
  · simp only [countDown, State.modAir, h.air]

theorem emitBeacon_air (interval : Nat) (s : State) :
    (emitBeacon interval s).air =
      (handBeacon (s.timeline.beaconNumber + 1) s.timeline.block interval s).air := by
  have handed := handBeacon_reads (s.timeline.beaconNumber + 1) s.timeline.block interval
    (s.modTimeline fun t => { t with
      beaconNumber := s.timeline.beaconNumber + 1
      beaconLog := logBeacon t.beaconLog (s.timeline.beaconNumber + 1) t.block }) s ⟨rfl, rfl, rfl⟩
  exact (congrArg State.air handed :)

theorem hush_eq_silenced (p : TrackingParams) (e : TrackerEntry) :
    (e.hush p).1 = e.silenced p.staleLimit p.lostLimit := by
  unfold TrackerEntry.hush TrackerEntry.silenced
  cases state : e.state <;> simp only [] <;> split <;> simp_all

theorem takeNotice_entry (e o : EntryNo) (s : State) :
    (takeNotice e s).entry o =
      if e = o then (s.entry e).silenced s.tracker.params.staleLimit s.tracker.params.lostLimit
      else s.entry o := by
  have written : (s.modEntry e fun _ => ((s.entry e).hush s.tracker.params).1).entry o =
      if e = o then (s.entry e).silenced s.tracker.params.staleLimit s.tracker.params.lostLimit
      else s.entry o := by rw [State.entry_modEntry, hush_eq_silenced]
  have reported (code : EventCode) (subject : Nat) (payload : List Field) (u : State) :
      (offerEvent code subject payload u).entry o = u.entry o :=
    (Only.offerEvent code subject payload u).entry_eq (by decide) o
  rw [← written]
  unfold takeNotice
  simp only []
  split
  · rfl
  · split
    · exact reported _ _ _ _
    · split
      · exact reported _ _ _ _
      · rfl

theorem dueNotice_entry {e : EntryNo} {s : State} (due : tblGet s.agenda.notices e = true) (o : EntryNo) :
    (dueNotice e s).entry o =
      if e = o then (s.entry e).silenced s.tracker.params.staleLimit s.tracker.params.lostLimit
      else s.entry o := by
  rw [dueNotice, if_pos due, takeNotice_entry]
  rfl

/-- Shares that are due, taken one after another: each entry of the list is silenced once (R71). -/
theorem dueNotices_entry (l : List EntryNo) (once : l.Nodup) (s : State)
    (due : ∀ e ∈ l, tblGet s.agenda.notices e = true) (o : EntryNo) :
    (dueNotices l s).entry o =
      if o ∈ l then (s.entry o).silenced s.tracker.params.staleLimit s.tracker.params.lostLimit
      else s.entry o := by
  induction l generalizing s with
  | nil => rfl
  | cons e l ih =>
    obtain ⟨fresh, once⟩ := List.nodup_cons.mp once
    have rest : ∀ x ∈ l, tblGet (dueNotice e s).agenda.notices x = true := fun x hx => by
      have other : e ≠ x := fun same => fresh (same ▸ hx)
      rw [dueNotice_agenda]
      exact (tblGet_tblSet_other _ _ other).trans (due x (List.mem_cons_of_mem e hx))
    have params : (dueNotice e s).tracker.params = s.tracker.params := (Only.dueNotice e s).params_eq
    have here := dueNotice_entry (due e List.mem_cons_self) o
    rw [show dueNotices (e :: l) s = dueNotices l (dueNotice e s) from rfl, ih once _ rest, params, here]
    by_cases same : e = o
    · subst same
      simp [fresh]
    · simp [same, Ne.symm same]

theorem nodup_allEntries : allEntries.Nodup := by decide

/-! ### The election -/

theorem compensated_eq (e : TrackerEntry) (c : Int) : e.writeRho (e.rho - c) = e.compensated c := by
  unfold TrackerEntry.writeRho TrackerEntry.compensated
  rw [clampRate_eq]
  rfl

/-- Writing τ: the clamped value, and every entry compensated by the change that applied (R3, R75). -/
theorem writeTau_eq (v : Int) (s : State) :
    writeTau v s =
      { s with
        timeline := { s.timeline with tau := clampRate v }
        tracker := { s.tracker with
          entries := tblMap s.tracker.entries fun e =>
            if clampRate v = s.timeline.tau then e else e.compensated (clampRate v - s.timeline.tau) } } := by
  unfold writeTau
  by_cases same : clampRate v = s.timeline.tau
  · have entries : (tblMap s.tracker.entries fun e => e) = s.tracker.entries :=
      tbl_ext fun e => tblGet_tblMap _ _ _
    rw [if_pos (by omega)]
    simp only [if_pos same, entries]
    rfl
  · rw [if_neg (by omega)]
    simp only [if_neg same, ← compensated_eq]
    rfl

/-- τ written, the elected stream set, every entry compensated: an election before its report (R7, R8). -/
def State.electing (s : State) (st : StreamNo) (tau : Int) : State :=
  { s with
    timeline := { s.timeline with tau := tau, elected := some st, noCandidate := false }
    tracker := { s.tracker with
      entries := tblMap s.tracker.entries fun e =>
        if tau = s.timeline.tau then e else e.compensated (tau - s.timeline.tau) } }

/-- τ after an election of a stream: slewed by at most 64, and clamped (R7). -/
def State.slewedTo (s : State) (st : StreamNo) : Int :=
  max (-8192) (min 8192 (s.timeline.tau + max (-64) (min 64 ((s.entry (streamEntry st)).rho + 16))))

theorem elect_eq (st : StreamNo) (s : State) :
    elect st s =
      if s.timeline.elected = some st then s.electing st (s.slewedTo st)
      else offerEvent .timebaseElected st.val
        [⟨2, (s.entry (streamEntry st)).rho⟩, ⟨2, s.slewedTo st - s.timeline.tau⟩, ⟨2, s.slewedTo st⟩]
        (s.electing st (s.slewedTo st)) := by
  have slew : clampInt (-Config.slewLimit) Config.slewLimit (s.streamRho st + Config.electionBias) =
      max (-64) (min 64 ((s.entry (streamEntry st)).rho + 16)) := clampInt_eq (by decide)
  unfold elect
  simp only [writeTau_eq, slew, clampRate_eq]
  rfl

theorem mem_allStreams : ∀ st : StreamNo, st ∈ allStreams := by decide

theorem greatestRho_mem (rho : StreamNo → Int) {l : List StreamNo} {st : StreamNo}
    (found : greatestRho rho l = some st) : st ∈ l := by
  induction l with
  | nil => cases found
  | cons a l ih =>
    unfold greatestRho at found
    split at found
    · exact Option.some.inj found ▸ List.mem_cons_self
    · rename_i other rest
      split at found
      · exact List.mem_cons_of_mem _ (ih (rest.trans found))
      · exact Option.some.inj found ▸ List.mem_cons_self

/-- In an ascending list, the one that none exceeds and no earlier one equals is found (R7). -/
theorem greatestRho_eq (rho : StreamNo → Int) {l : List StreamNo} (ascending : l.Pairwise (· < ·))
    {st : StreamNo} (member : st ∈ l)
    (greatest : ∀ o ∈ l, rho o ≤ rho st ∧ (rho o = rho st → st ≤ o)) : greatestRho rho l = some st := by
  induction l with
  | nil => cases member
  | cons a l ih =>
    obtain ⟨above, ascending⟩ := List.pairwise_cons.mp ascending
    unfold greatestRho
    rcases List.mem_cons.mp member with rfl | later
    · split
      · rfl
      · rename_i other found
        have le := (greatest other (List.mem_cons_of_mem _ (greatestRho_mem rho found))).1
        rw [if_neg (not_lt.mpr le)]
    · rw [ih ascending later fun o ho => greatest o (List.mem_cons_of_mem _ ho)]
      obtain ⟨le, tie⟩ := greatest a List.mem_cons_self
      have lt : rho a < rho st := by
        rcases lt_or_eq_of_le le with lt | eq
        · exact lt
        · exact absurd (above st later) (not_lt.mpr (tie eq))
      exact if_pos lt

theorem allStreams_ascending : allStreams.Pairwise (· < ·) := by decide

theorem State.isCandidate_iff (s : State) (st : StreamNo) :
    s.isCandidate st = true ↔ s.timeline.candidates.getLsbD st.val = true ∧ (s.stream st).present = true
      ∧ (s.stream st).cls = .live ∧ (s.entry (streamEntry st)).state = .locked := by
  simp [State.isCandidate, and_assoc]

theorem takeElection_due {s : State} (due : s.agenda.election = true) :
    takeElection s =
      if s.timeline.mode = .fastest then
        match s.electee with
        | some st => elect st (s.modAgenda fun a => { a with election := false })
        | none => electNone (s.modAgenda fun a => { a with election := false })
      else s.modAgenda fun a => { a with election := false } := if_pos due

/-! ### Marks -/

/-- A slot disarmed and off the agenda, before its action (R15). -/
def State.disarmed (s : State) (k : MarkNo) : State :=
  { s with
    timeline := { s.timeline with marks := tblSet s.timeline.marks k { s.mark k with armed := false } }
    agenda := { s.agenda with marks := tblSet s.agenda.marks k false } }

theorem fireMark_armed {k : MarkNo} {s : State} (due : tblGet s.agenda.marks k = true)
    (armed : (s.mark k).armed = true) : fireMark k s = markAction k (s.mark k) (s.disarmed k) := by
  unfold fireMark
  rw [if_pos due]
  exact if_pos armed

theorem markReport_eq (k : MarkNo) (mk : Mark) (code : EventCode) (reason : List Field) (s : State) :
    markReport k mk code reason s =
      offerEvent code k.val
        ([⟨1, mk.action.code⟩, fIndex mk.zone, ⟨6, mk.block⟩, ⟨6, s.timeline.block⟩, flagByte mk.late] ++ reason)
        s := by
  rw [markReport, fFlag_eq]
  rfl

theorem markAction_notify {k : MarkNo} {mk : Mark} {s : State} (notify : mk.action = .notify) :
    markAction k mk s = markReport k mk mk.carriedOut [] s := by
  unfold markAction
  rw [notify]

theorem exec_markFiring (k : MarkNo) {s : State} (high : s.rstLow = false) :
    exec (.markFiring k) s = .next (dueMark k s) := State.awake_high high _

theorem rankZero_iff (d : Header) : Header.rankZero d = true ↔ d.rank = 0 := by simp [Header.rankZero]

theorem markZone_read {action : MarkAction} {zone : Byte}
    (h : action = .start ∨ action = .stop → zone.toNat < 8) :
    markZone action zone =
      some (if action = .start ∨ action = .stop then some (Fin.ofNat 8 zone.toNat) else none) := by
  cases action <;> simp_all [markZone, zoneIndex_read]

theorem markZone_outside {action : MarkAction} {zone : Byte} (moves : action = .start ∨ action = .stop)
    (h : 8 ≤ zone.toNat) : markZone action zone = none := by
  rcases moves with rfl | rfl <;> simp [markZone, zoneIndex, h]

theorem markIndex_outside {slot : Byte} (h : 8 ≤ slot.toNat) : markIndex slot = none := by
  simp [markIndex, h]

theorem markActionOf_outside {code : Byte} (h : 4 ≤ code.toNat) : markActionOf code = none := by
  unfold markActionOf
  split <;> first | omega | rfl

theorem timebaseModeOf_outside {mode : Byte} (h : 2 ≤ mode.toNat) : timebaseModeOf mode = none := by
  unfold timebaseModeOf
  split <;> first | omega | rfl

end Sys2Proof.Machine

open Sys2Proof Sys2Proof.Machine

/-- Settles O23. -/
theorem beaconEmitted : Obligations.BeaconEmitted := by
  intro s later interval high due open_
  have taken : takeBeacon later s =
      dueNotices (allEntries.filter fun e => !later.contains e) (emitBeacon interval s) := by
    rw [takeBeacon, due]
    simp only []
    rw [dueNotices_none _ s open_]
  have emitted := Only.emitBeacon interval s
  have silenced := Only.dueNotices (allEntries.filter fun e => !later.contains e) (emitBeacon interval s)
  refine ⟨_, State.awake_high high (takeBeacon later), ?_, ?_, fun e => ?_, ?_, ?_, ?_, ?_, ?_, ?_⟩ <;> rw [taken]
  · rw [silenced.timeline_eq]
    unfold emitBeacon
    simp only []
    exact (Only.handBeacon _ _ _ _).timeline_eq
  · rw [silenced.air_eq]
    exact emitBeacon_air interval s
  · rw [dueNotices_entry _ (nodup_allEntries.filter _) _ fun e _ => by simp [emitBeacon_agenda],
      emitted.params_eq, emitted.entry_eq (by decide)]
    by_cases late : e ∈ later <;> simp [late, mem_allEntries e]
  · exact (Progress.dueNotices _ _).beacon (by rw [emitBeacon_agenda])
  · exact silenced.plan_eq.trans emitted.plan_eq
  · exact silenced.store_eq.trans emitted.store_eq
  · exact silenced.intake_eq.trans emitted.intake_eq
  · exact silenced.overlay_eq.trans emitted.overlay_eq
  · exact silenced.cue_eq.trans emitted.cue_eq

/-- Settles O24. -/
theorem electionTaken : Obligations.ElectionTaken := by
  intro s high due candidate rho
  have exec_eq : exec .election s = .next (takeElection s) := State.awake_high high _
  have mem_filter (st : StreamNo) : st ∈ allStreams.filter s.isCandidate ↔ candidate st := by
    rw [List.mem_filter, s.isCandidate_iff]
    exact and_iff_right (mem_allStreams st)
  refine ⟨fun fastest => ⟨fun st member greatest => ?_, fun none_ => ?_⟩, fun locally_ => ?_⟩
  · have found : s.electee = some st :=
      greatestRho_eq rho (allStreams_ascending.filter _) ((mem_filter st).mpr member)
        fun o ho => greatest o ((mem_filter o).mp ho)
    refine ⟨takeElection s, exec_eq, ?_⟩
    have elected : takeElection s = elect st (s.modAgenda fun a => { a with election := false }) := by
      rw [takeElection_due due, if_pos fastest, found]
    generalize tauEq : max (-8192) (min 8192 (s.timeline.tau + max (-64) (min 64 (rho st + 16)))) = tau
    have reported := offerEvent_reads
      ((s.modAgenda fun a => { a with election := false }).electing st tau) s .timebaseElected st.val
      [⟨2, rho st⟩, ⟨2, tau - s.timeline.tau⟩, ⟨2, tau⟩] rfl rfl rfl
    have elected : takeElection s =
        if s.timeline.elected = some st then (s.modAgenda fun a => { a with election := false }).electing st tau
        else offerEvent .timebaseElected st.val [⟨2, rho st⟩, ⟨2, tau - s.timeline.tau⟩, ⟨2, tau⟩]
          ((s.modAgenda fun a => { a with election := false }).electing st tau) := by
      rw [elected, elect_eq, ← tauEq]
      rfl
    have entries (e : EntryNo) :
        ((s.modAgenda fun a => { a with election := false }).electing st tau).entry e =
          if tau = s.timeline.tau then s.entry e else (s.entry e).compensated (tau - s.timeline.tau) :=
      tblGet_tblMap _ _ _
    rw [elected]
    by_cases held : s.timeline.elected = some st
    · simp only [if_pos held]
      exact ⟨rfl, entries, rfl, rfl, rfl, rfl, rfl, rfl, rfl⟩
    · simp only [if_neg held]
      rw [reported]
      exact ⟨rfl, entries, rfl, rfl, rfl, rfl, rfl, rfl, rfl⟩
  · have empty : allStreams.filter s.isCandidate = [] :=
      List.eq_nil_iff_forall_not_mem.mpr fun o ho => none_ o ((mem_filter o).mp ho)
    have found : s.electee = none := by
      rw [State.electee, empty]
      rfl
    rw [exec_eq, takeElection_due due, if_pos fastest, found]
    rfl
  · rw [exec_eq, takeElection_due due, if_neg (by simp [locally_])]
    rfl

/-- Settles O25. -/
theorem notifyMarkFires : Obligations.NotifyMarkFires := by
  intro s k high due armed notify
  have fired : dueMark k s = fireMark k s := by
    unfold dueMark
    rw [notify]
  have code : (s.mark k).action.code = 0 := by
    rw [notify]
    rfl
  rw [exec_markFiring k high, fired, fireMark_armed due armed, markAction_notify notify, markReport_eq, code]
  rfl
end

section
/-! SET BEACON, SET TIMEBASE, ARM MARK and DISARM MARK on a part that listens. -/

namespace Sys2Proof.Machine

open Sys2Proof

theorem not_rankRefused {d : Header} (rank : d.rank = 0) : ¬ (!Header.rankZero d) = true := by
  simp [(rankZero_iff d).mpr rank]

theorem setBeacon_eq {d : Header} (rank : d.rank = 0) (interval : Byte) {s : State} (h : s.Listening) :
    setBeacon d interval s =
      (s.answered 0x11 d (if interval.toNat < 8 then .clamped else .ok) []).modTimeline fun t =>
        { t with beaconInterval := max 8 interval.toNat } := by
  have clamped : clampNat 8 255 interval.toNat = max 8 interval.toNat := by
    rw [clampNat_eq (by decide)]
    omega
  have status : takenStatus (decide (max 8 interval.toNat ≠ interval.toNat)) =
      if interval.toNat < 8 then .clamped else .ok := by
    unfold takenStatus
    simp only [decide_eq_true_eq]
    split <;> split <;> first | rfl | omega
  unfold setBeacon
  rw [if_neg (not_rankRefused rank)]
  simp only [clamped, status, h.reply]

theorem setTimebase_local {d : Header} (rank : d.rank = 0) (tau candidates : BitVec 16) {s : State}
    (h : s.Listening) :
    setTimebase d 0 tau candidates s =
      setMode .localMode (writeTau tau.toInt (setCandidates candidates
        (s.answered 0x10 d (takenStatus (decide (clampRate tau.toInt ≠ tau.toInt))) []))) := by
  unfold setTimebase
  rw [if_neg (not_rankRefused rank)]
  show timebaseLocal d tau.toInt candidates s = _
  unfold timebaseLocal
  simp only [h.reply]

theorem setTimebase_fastest {d : Header} (rank : d.rank = 0) (tau candidates : BitVec 16) {s : State}
    (h : s.Listening) :
    setTimebase d 1 tau candidates s =
      setMode .fastest (setCandidates candidates (s.answered 0x10 d .ok [])) := by
  unfold setTimebase
  rw [if_neg (not_rankRefused rank)]
  show timebaseFastest d candidates s = _
  unfold timebaseFastest
  simp only [h.reply]

theorem setTimebase_neither {d : Header} (rank : d.rank = 0) {mode : Byte} (neither : 2 ≤ mode.toNat)
    (tau candidates : BitVec 16) {s : State} (h : s.Listening) :
    setTimebase d mode tau candidates s = s.answered 0x10 d .value [] := by
  unfold setTimebase
  rw [if_neg (not_rankRefused rank), timebaseModeOf_outside neither]
  exact h.reply _ _ _ _

section
variable {d : Header} {s : State} (rank : d.rank = 0) (h : s.Listening)
include rank h

theorem armMark_written {k : MarkNo} {action : MarkAction} {block : BitVec 48} {zone : Byte}
    (none : tblGet s.agenda.marks k = false) (limit : block.toNat < 2 ^ 41)
    (within : action = .start ∨ action = .stop → zone.toNat < 8) :
    armMark d (operandOf k) block (BitVec.ofNat 8 action.code) zone s =
      writeMark k block.toNat action
        (if action = .start ∨ action = .stop then some (Fin.ofNat 8 zone.toNat) else Option.none)
        (s.answered 0x12 d .ok []) := by
  unfold armMark
  rw [if_neg (not_rankRefused rank), markIndex_operandOf, markActionOf_code]
  simp only [markZone_read within, settleMark_none none, h.reply]
  exact if_neg limit.not_ge

theorem armMark_late {k : MarkNo} {action : MarkAction} {block : BitVec 48} {zone : Byte}
    (limit : 2 ^ 41 ≤ block.toNat) (within : action = .start ∨ action = .stop → zone.toNat < 8) :
    armMark d (operandOf k) block (BitVec.ofNat 8 action.code) zone s = s.answered 0x12 d .value [] := by
  unfold armMark
  rw [if_neg (not_rankRefused rank), markIndex_operandOf, markActionOf_code, h.reply 0x12 d .value]
  simp only [markZone_read within]
  exact if_pos limit

theorem armMark_zone {k : MarkNo} {action : MarkAction} (block : BitVec 48) {zone : Byte}
    (moves : action = .start ∨ action = .stop) (outside : 8 ≤ zone.toNat) :
    armMark d (operandOf k) block (BitVec.ofNat 8 action.code) zone s = s.answered 0x12 d .index [] := by
  unfold armMark
  rw [if_neg (not_rankRefused rank), markIndex_operandOf, markActionOf_code, h.reply 0x12 d .index]
  simp only [markZone_outside moves outside]

theorem armMark_action {k : MarkNo} (block : BitVec 48) {code : Byte} (zone : Byte)
    (outside : 4 ≤ code.toNat) :
    armMark d (operandOf k) block code zone s = s.answered 0x12 d .value [] := by
  unfold armMark
  rw [if_neg (not_rankRefused rank), markIndex_operandOf, markActionOf_outside outside]
  exact h.reply _ _ _ _

theorem armMark_slot {slot : Byte} (block : BitVec 48) (code zone : Byte) (outside : 8 ≤ slot.toNat) :
    armMark d slot block code zone s = s.answered 0x12 d .index [] := by
  unfold armMark
  rw [if_neg (not_rankRefused rank), markIndex_outside outside]
  exact h.reply _ _ _ _

theorem disarmMark_written {k : MarkNo} (none : tblGet s.agenda.marks k = false) :
    disarmMark d (operandOf k) s =
      (s.answered 0x13 d .ok []).modMark k fun m => { m with armed := false } := by
  unfold disarmMark
  rw [if_neg (not_rankRefused rank), markIndex_operandOf]
  simp only [settleMark_none none, h.reply]

theorem disarmMark_slot {slot : Byte} (outside : 8 ≤ slot.toNat) :
    disarmMark d slot s = s.answered 0x13 d .index [] := by
  unfold disarmMark
  rw [if_neg (not_rankRefused rank), markIndex_outside outside]
  exact h.reply _ _ _ _

end

end Sys2Proof.Machine

open Sys2Proof Sys2Proof.Machine

/-- Settles O32. -/
theorem timelineSettingsTaken : Obligations.TimelineSettingsTaken := by
  intro s d h rank
  refine ⟨fun interval => ?_, fun tau candidates => ?_, fun tau candidates => ?_,
    fun mode tau candidates neither => ?_⟩
  · exact (h.onSource (setBeacon d interval)).trans (congrArg _ (setBeacon_eq rank interval h))
  · have status : takenStatus (decide (max (-8192) (min 8192 tau.toInt) ≠ tau.toInt)) =
        if max (-8192) (min 8192 tau.toInt) = tau.toInt then .ok else .clamped := by
      unfold takenStatus
      by_cases same : max (-8192) (min 8192 tau.toInt) = tau.toInt <;> simp [same]
    refine ⟨_, (h.onSource (setTimebase d 0 tau candidates)).trans
      (congrArg _ (setTimebase_local rank tau candidates h)), ?_, fun e => ?_⟩
    · rw [writeTau_eq, clampRate_eq, status]
      rfl
    · rw [writeTau_eq, clampRate_eq]
      exact tblGet_tblMap _ _ _
  · refine (h.onSource (setTimebase d 1 tau candidates)).trans
      (congrArg _ ((setTimebase_fastest rank tau candidates h).trans ?_))
    unfold setMode setCandidates State.modTimeline
    cases mode : s.timeline.mode <;> simp [mode, State.answered]
  · exact (h.onSource (setTimebase d mode tau candidates)).trans
      (congrArg _ (setTimebase_neither rank neither tau candidates h))

/-- Settles O33. -/
theorem markSlotsWritten : Obligations.MarkSlotsWritten := by
  intro s d k action block zone h rank none
  have armed (slot code) : exec (.armMark d slot block code zone) s = .next (armMark d slot block code zone s) :=
    h.onSource _
  have disarmed (slot) : exec (.disarmMark d slot) s = .next (disarmMark d slot s) := h.onSource _
  refine ⟨fun limit within => ?_, ?_, fun limit within => ?_, fun moves outside => ?_, fun code outside => ?_,
    fun slot code outside => ⟨?_, ?_⟩⟩
  · rw [armed, armMark_written rank h none limit within]
    rfl
  · rw [disarmed, disarmMark_written rank h none]
    rfl
  · rw [armed, armMark_late rank h limit within]
  · rw [armed, armMark_zone rank h block moves outside]
  · rw [armed, armMark_action rank h block zone outside]
  · rw [armed, armMark_slot rank h block code zone outside]
  · rw [disarmed, disarmMark_slot rank h outside]
end

section
/-! The payloads of the five queries. -/

namespace Sys2Proof.Machine

open Sys2Proof

/-! ### Codes as the bytes of R204 -/

theorem Role.code_byte (r : Role) :
    (r.code : Int) = match r with | .left => 0 | .right => 1 | .mono => 2 | .low => 3 := by cases r <;> rfl

theorem ZoneKind.code_byte (k : ZoneKind) :
    (k.code : Int) = match k with | .program => 0 | .overlay => 1 := by cases k <;> rfl

theorem StreamClass.code_byte (c : StreamClass) :
    (c.code : Int) = match c with | .live => 0 | .paced => 1 := by cases c <;> rfl

theorem TimebaseMode.code_byte (m : TimebaseMode) :
    (m.code : Int) = match m with | .localMode => 0 | .fastest => 1 := by cases m <;> rfl

theorem ZoneState.code_byte (z : ZoneState) :
    (z.code : Int) = match z with | .idle => 0 | .priming => 1 | .playing => 2 | .draining => 3 := by
  cases z <;> rfl

theorem TrackState.code_byte (e : TrackState) :
    (e.code : Int) = match e with | .unlocked => 0 | .acquiring => 1 | .locked => 2 | .stale => 3 := by
  cases e <;> rfl

theorem CueStatus.code_byte (c : CueStatus) :
    (c.code : Int) = match c with | .running => 0 | .halted => 1 | .stopped => 2 | .faulted => 3 := by
  cases c <;> rfl

theorem TapState.code_byte (t : TapState) :
    (t.code : Int) = match t with | .disarmed => 0 | .armed _ => 1 | .active _ => 2 := by cases t <;> rfl

theorem TapState.zone_eq (t : TapState) :
    t.zone = match t with | .disarmed => none | .armed y => some y | .active y => some y := by cases t <;> rfl

theorem entryKindCode_byte (k : Option EntryKind) :
    (entryKindCode k : Int) =
      match k with | some .normal => 0 | some .repeated => 1 | some .silent => 2 | none => 3 := by
  rcases k with _ | _ | _ | _ <;> rfl

theorem fCueIndex_eq (i : Option CueIndex) :
    fCueIndex i = ⟨2, match i with | some i => i.toNat | none => 65535⟩ := by cases i <;> rfl

theorem fOverlayRole_eq (r : Option Role) :
    fOverlayRole r =
      ⟨1, match r with
        | some r => (match r with | .left => 0 | .right => 1 | .mono => 2 | .low => 3)
        | none => Config.noOverlayRoleByte.toNat⟩ := by
  rcases r with _ | _ | _ | _ | _ <;> rfl

theorem ClaimCell.fields_eq :
    ClaimCell.fields = fun x =>
      [⟨1, x.zone.val⟩, ⟨1, x.priority⟩, ⟨1, match x.role with | .left => 0 | .right => 1 | .mono => 2 | .low => 3⟩,
        ⟨6, x.claimedAt⟩] := by
  funext x
  rw [ClaimCell.fields, f1, f1, f1, Role.code_byte]
  rfl

/-! ### What a query reads of the state -/

theorem State.queueHasEnd_eq (s : State) (st : StreamNo) :
    s.queueHasEnd st = (s.stream st).queue.any fun c => (s.audioCell c).any AudioCell.endFlag := by
  unfold State.queueHasEnd
  congr 1
  funext c
  cases s.audioCell c <;> rfl

theorem newestCell_eq (ring : List IssueEntry) :
    newestCell ring = (ring.filterMap IssueEntry.cell).getLast? := by
  rw [newestCell, ← List.head?_filterMap, List.filterMap_reverse, List.head?_reverse]

theorem State.namesZone_eq (s : State) (z : ZoneNo) (c : CellNo) :
    s.namesZone z c = ((s.claimCell c).map ClaimCell.zone == some z) := by
  unfold State.namesZone
  cases s.claimCell c <;> rfl

/-- A set of speakers is the sum of its bits. -/
theorem foldl_filter_bits (p : SpeakerNo → Bool) (l : List SpeakerNo) (n : Nat) :
    (l.filter p).foldl (fun acc sp => acc + 2 ^ sp.val) n =
      n + (l.map fun sp => if p sp then 2 ^ sp.val else 0).sum := by
  induction l generalizing n with
  | nil => rfl
  | cons a l ih =>
    by_cases member : p a = true
    · rw [List.filter_cons_of_pos member, List.foldl_cons, ih, List.map_cons, List.sum_cons, if_pos member,
        Nat.add_assoc]
    · rw [List.filter_cons_of_neg member, ih, List.map_cons, List.sum_cons, if_neg member, Nat.zero_add]

theorem speakerSet_eq_speakerBits (p : SpeakerNo → Bool) :
    f3 (speakerSet (allSpeakers.filter p)) = speakerBits p := by
  rw [speakerSet, foldl_filter_bits, Nat.zero_add]
  rfl

theorem State.claimedBy_bits (s : State) (z : ZoneNo) :
    f3 (speakerSet (s.claimedBy z)) =
      speakerBits fun o => (s.claimStack o).any fun c => (s.claimCell c).map ClaimCell.zone == some z := by
  have names : s.namesZone z = fun c => (s.claimCell c).map ClaimCell.zone == some z :=
    funext (s.namesZone_eq z)
  rw [State.claimedBy, speakerSet_eq_speakerBits, names]

end Sys2Proof.Machine

open Sys2Proof Sys2Proof.Machine

/-- Settles O17. -/
theorem queriesChangeNothing : Obligations.QueriesChangeNothing := by
  intro s d z sp st h
  refine ⟨⟨?_, ?_, ?_, ?_, ?_⟩, ?_, ⟨?_, ?_, ?_⟩, ?_⟩
  · exact (h.onSource (queryDevice d)).trans (congrArg _ (h.reply _ _ _ _))
  · refine (h.onSource (queryStream d (operandOf st))).trans (congrArg _ ?_)
    rw [queryStream, streamIndex_operandOf]
    exact h.reply _ _ _ _
  · refine (h.onSource (queryZone d (operandOf z))).trans (congrArg _ ?_)
    rw [queryZone, zoneIndex_operandOf]
    exact h.reply _ _ _ _
  · refine (h.onSource (querySpeaker d (operandOf sp))).trans (congrArg _ ?_)
    rw [querySpeaker, speakerIndex_operandOf]
    exact h.reply _ _ _ _
  · exact (h.onSource (queryStore d)).trans (congrArg _ (h.reply _ _ _ _))
  · simp only [devicePayload, timelineFields, tapFields, airFields, sourceFields, fFlag_eq, fIndex_eq, f1,
      TimebaseMode.code_byte, TapState.code_byte, TapState.zone_eq]
    rfl
  · simp only [streamPayload, StreamCounters.fields, TrackerEntry.counterFields, fFlag_eq, fIndex_eq, fOptional_eq,
      f1, StreamClass.code_byte, TrackState.code_byte, State.queueHasEnd_eq]
    rfl
  · simp only [zonePayload, ZoneDesc.fields, zoneRunFields, headerFields, claimFields, CueRun.fields, fFlag_eq,
      fIndex_eq, fOptional_eq, fCueIndex_eq, fOverlayRole_eq, f1, ZoneKind.code_byte, ZoneState.code_byte,
      CueStatus.code_byte, entryKindCode_byte, newestCell_eq, State.claimedBy_bits]
    rfl
  · simp only [speakerPayload, planFields, SpeakerDesc.fields, TrackerEntry.fields, TrackerEntry.counterFields,
      SpeakerRun.fields, stackFields, ClaimCell.fields_eq, airSpeakerFields, fFlag_eq, fIndex_eq, f1,
      Role.code_byte, TrackState.code_byte, List.append_assoc, List.cons_append, List.nil_append]
    generalize (s.speaker sp).rampMarker = marker
    rcases marker with _ | ⟨y, n⟩ <;> rfl
  · simp only [storePayload, fFlag_eq]
    rfl
end

section
/-! START and soft STOP, by directive and by mark, and the work of a zone that is PRIMING or DRAINING. -/

namespace Sys2Proof.Machine

open Sys2Proof

/-! ### Marks of a START and of a STOP -/

section
variable {s : State} {k : MarkNo} (high : s.rstLow = false)
  (moves : (s.mark k).action = .start ∨ (s.mark k).action = .stop) (noSwap : s.NoSwapMarkDue)
include high moves noSwap

/-- Where no swap of the boundary is left, a START or STOP mark acts on the plan as it stands (R17). -/
theorem exec_markFiring_now (due : tblGet s.agenda.marks k = true) (armed : (s.mark k).armed = true)
    (none : s.agenda.swap = false) :
    exec (.markFiring k) s = .next (markAction k (s.mark k) (s.disarmed k)) := by
  rw [exec_markFiring k high, dueMark_eq moves, settleSwap_none s noSwap none, fireMark_armed due armed]

/-- Where the pending swap is left, it is taken first (R17, R95). -/
theorem exec_markFiring_swap (pending : s.agenda.swap = true) :
    exec (.markFiring k) s = exec (.markFiring k) (takeSwap s) := by
  have swapHigh : (takeSwap s).rstLow = false := (Only.takeSwap s).1.trans high
  have settled : settleSwap s = takeSwap s := by rw [settleSwap_eq s noSwap, if_pos pending]
  have again : settleSwap (takeSwap s) = takeSwap s :=
    settleSwap_none _ noSwap.takeSwap (by rw [takeSwap_agenda])
  have movesAfter : ((takeSwap s).mark k).action = .start ∨ ((takeSwap s).mark k).action = .stop := by
    rwa [takeSwap_marks]
  rw [exec_markFiring k high, exec_markFiring k swapHigh, dueMark_eq moves, dueMark_eq movesAfter, settled, again]

end

theorem markReport_moved {k : MarkNo} {mk : Mark} {z : ZoneNo} (zone : mk.zone = some z) (code : EventCode)
    (reason : List Field) (s : State) :
    markReport k mk code reason s =
      offerEvent code k.val
        ([⟨1, mk.action.code⟩, ⟨1, z.val⟩, ⟨6, mk.block⟩, ⟨6, s.timeline.block⟩, flagByte mk.late] ++ reason) s := by
  rw [markReport_eq, zone]
  rfl

/-! ### START (R108) -/

/-- A stream bound to the zone and open. -/
def State.Bound (s : State) (z : ZoneNo) : Prop :=
  ∃ st : StreamNo, (s.activeZone z).stream = some st ∧ (s.stream st).present = true

theorem startRefusal_absent {z : ZoneNo} {s : State}
    (h : ¬ ((s.activeZone z).present = true ∧ s.Bound z)) : startRefusal z s = some .absent := by
  unfold startRefusal
  refine if_pos ?_
  by_contra kept
  simp only [Bool.or_eq_true, Bool.not_eq_true', not_or, Bool.not_eq_false] at kept
  obtain ⟨present, bound⟩ := kept
  refine h ⟨present, ?_⟩
  split at bound
  · exact ⟨_, ‹_›, bound⟩
  · cases bound

theorem startRefusal_bound {z : ZoneNo} {s : State} (present : (s.activeZone z).present = true)
    (bound : s.Bound z) :
    startRefusal z s = if (s.zone z).state ≠ .idle then some .busy else none := by
  obtain ⟨st, stream, open_⟩ := bound
  unfold startRefusal
  simp only [present, stream, open_]
  rfl

/-- The zone and the cue program of a START that is taken (R108, R156). -/
theorem startZone_eq (z : ZoneNo) (s : State) :
    startZone z s =
      { s with
        playout := { s.playout with
          zones := tblSet s.playout.zones z { s.zone z with
            state := .priming, gain := (s.activeZone z).startLevel, target := (s.activeZone z).startLevel
            gainStep := 0, prevKind := none, primingBegan := s.timeline.block } }
        cue := { s.cue with
          runs := tblSet s.cue.runs z { s.cueRun z with
            pointer := (s.activeZone z).cueEntry.getD (s.cueRun z).pointer
            status := if (s.activeZone z).cueEntry.isSome then .running else .stopped
            wait := 0, prescaleCount := 0, loopCount := 0 } } } := rfl

theorem zoneRank_of_admits {s : State} {d : Header} {z : ZoneNo} (h : s.ZoneAdmits d z) :
    s.zoneRank d z = true := by
  unfold State.zoneRank Header.within
  rcases present : (s.activeZone z).present
  · rfl
  · simpa using h present

theorem startDirective_taken {s : State} {d : Header} {z : ZoneNo} (h : s.Listening) (admits : s.ZoneAdmits d z)
    (present : (s.activeZone z).present = true) (bound : s.Bound z) (idle : (s.zone z).state = .idle) :
    startDirective d (operandOf z) s = startZone z (s.answered 0x40 d .ok []) := by
  have taken : startRefusal z s = none := by
    rw [startRefusal_bound present bound, if_neg (by simp [idle])]
  unfold startDirective
  rw [zoneIndex_operandOf]
  simp only [zoneRank_of_admits admits, taken, h.reply]
  rfl

/-! ### The ring cut down at a boundary (R111) -/

/-- A zone written whole. -/
def State.putZone (s : State) (z : ZoneNo) (r : ZoneRun) : State :=
  { s with playout := { s.playout with zones := tblSet s.playout.zones z r } }

@[simp] theorem State.putZone_zone (s : State) (z : ZoneNo) (r : ZoneRun) : (s.putZone z r).zone z = r :=
  tblGet_tblSet_same _ _ _

/-- The entries of a zone's ring not yet due, and those due, at the current block. -/
def State.ringLeft (s : State) (z : ZoneNo) : List IssueEntry :=
  (s.zone z).ring.filter fun e => decide (s.timeline.block < e.block)

def State.ringDue (s : State) (z : ZoneNo) : List IssueEntry :=
  (s.zone z).ring.filter fun e => decide (e.block ≤ s.timeline.block)

/-- The entries due released, and the zone then written as `r`. -/
def State.releasedTo (s : State) (z : ZoneNo) (r : ZoneRun) : State :=
  { s.putZone z r with store := s.store.released ((s.ringDue z).filterMap IssueEntry.cell) }

@[simp] theorem State.releasedTo_zone (s : State) (z : ZoneNo) (r : ZoneRun) :
    (s.releasedTo z r).zone z = r := tblGet_tblSet_same _ _ _

theorem State.releasedTo_putZone (s : State) (z : ZoneNo) (r r' : ZoneRun) :
    (s.releasedTo z r).putZone z r' = s.releasedTo z r' := by
  unfold State.releasedTo State.putZone
  simp only [tblSet_tblSet]

theorem releaseDue_eq (z : ZoneNo) (s : State) :
    releaseDue z s = s.releasedTo z { s.zone z with ring := s.ringLeft z } := by
  have due : (s.zone z).ring.filter (fun e => !decide (s.block < e.block)) = s.ringDue z := by
    refine List.filter_congr fun e _ => ?_
    rw [← decide_not]
    exact decide_eq_decide.mpr not_lt
  rw [releaseDue, trimRing, releaseCells_eq, due]
  rfl

/-! ### Priming (R111) -/

/-- What is queued on the stream that a zone names. -/
def State.boundQueue (s : State) (z : ZoneNo) : List CellNo :=
  match (s.activeZone z).stream with
  | none => []
  | some st => (s.stream st).queue

/-- Step 3 of the work of a PRIMING zone, of a ring of which `left` is left (R52, R111). -/
def State.Primed (s : State) (z : ZoneNo) (left : List IssueEntry) : Prop :=
  ((s.activeZone z).primeDepth ≤ (s.boundQueue z).length
      ∨ ∃ c ∈ s.boundQueue z, ∃ a, s.audioCell c = some a ∧ a.endFlag = true)
    ∧ ∀ e, left.getLast? = some e → e.block < s.timeline.block + (s.activeZone z).lead

theorem primingAnswer_eq (z : ZoneNo) (s : State) :
    primingAnswer (s.activeZone z).stream s =
      ((s.boundQueue z).length, (s.boundQueue z).any fun c => (s.audioCell c).any AudioCell.endFlag) := by
  unfold primingAnswer State.boundQueue
  cases (s.activeZone z).stream with
  | none => rfl
  | some st => exact congrArg _ (s.queueHasEnd_eq st)

theorem primed_iff (s : State) (z : ZoneNo) : s.primed z = true ↔ s.Primed z (s.zone z).ring := by
  unfold State.primed State.Primed
  simp only [primingAnswer_eq, Bool.and_eq_true, Bool.or_eq_true, decide_eq_true_eq, List.any_eq_true, Option.any_eq_true]
  refine and_congr Iff.rfl ?_
  cases (s.zone z).ring.getLast? with
  | none => simp
  | some e =>
    simp only [Option.some.injEq, forall_eq']
    exact decide_eq_true_iff

/-- The answer is the same once the entries due are released. -/
theorem releasedTo_primed (s : State) (z : ZoneNo) (r : ZoneRun) :
    (s.releasedTo z r).primed z = true ↔ s.Primed z r.ring := by
  rw [primed_iff, State.releasedTo_zone]
  rfl

/-- Lead and depth taken, an overlay's claims made, the report (R111, R141). -/
theorem enterPlaying_eq (z : ZoneNo) (s : State) (role : Role)
    (overlay : (s.activeZone z).kind = .overlay → (s.activeZone z).overlayRole = some role) :
    enterPlaying z s =
      offerEvent .zonePlaying z.val [⟨1, (s.activeZone z).lead⟩, ⟨1, (s.activeZone z).primeDepth⟩,
          ⟨6, s.timeline.block⟩]
        (if (s.activeZone z).kind = .overlay then
          (membersOf (s.activeZone z).members).foldl
            (fun u sp => judgeClaim z (s.activeZone z).priority role sp u)
            (s.putZone z { s.zone z with
              state := .playing, runningLead := (s.activeZone z).lead, runningPrime := (s.activeZone z).primeDepth })
        else s.putZone z { s.zone z with
          state := .playing, runningLead := (s.activeZone z).lead, runningPrime := (s.activeZone z).primeDepth }) := by
  set playing := s.putZone z { s.zone z with
    state := .playing, runningLead := (s.activeZone z).lead, runningPrime := (s.activeZone z).primeDepth }
  have claims (h : (s.activeZone z).kind = .overlay) : entryNotice z playing =
      (membersOf (s.activeZone z).members).foldl
        (fun u sp => judgeClaim z (s.activeZone z).priority role sp u) playing := by
    have given : ((playing.activeZone z).overlayRole.getD .mono) = role := by
      rw [show playing.activeZone z = s.activeZone z from rfl, overlay h]
      rfl
    rw [entryNotice, given]
    rfl
  unfold enterPlaying
  by_cases h : (s.activeZone z).kind = .overlay
  · have clock := ((Only.entryNotice z playing).clock_eq (by decide)).2
    simp only [if_pos h]
    show offerEvent .zonePlaying z.val [_, _, f6 (entryNotice z playing).timeline.block] (entryNotice z playing) = _
    rw [clock, claims h]
    rfl
  · simp only [if_neg h]
    rfl

/-- The zone's ring with the entries due gone (R111 step 1). -/
def State.ringed (s : State) (z : ZoneNo) : ZoneRun := { s.zone z with ring := s.ringLeft z }

theorem primingWork_stays {s : State} {z : ZoneNo}
    (h : s.timeline.block = (s.zone z).primingBegan ∨ ¬ s.Primed z (s.ringLeft z)) :
    primingWork z s = s.releasedTo z (s.ringed z) := by
  unfold primingWork
  simp only [releaseDue_eq, State.releasedTo_zone]
  by_cases began : s.timeline.block = (s.zone z).primingBegan
  · exact if_pos began
  · refine (if_neg began).trans (if_neg ?_)
    rw [releasedTo_primed]
    exact h.resolve_left began

theorem primingWork_plays {s : State} {z : ZoneNo} (later : s.timeline.block ≠ (s.zone z).primingBegan)
    (primed : s.Primed z (s.ringLeft z)) :
    primingWork z s = playingSteps z (enterPlaying z (s.releasedTo z (s.ringed z))) := by
  unfold primingWork
  simp only [releaseDue_eq, State.releasedTo_zone]
  refine (if_neg later).trans (if_pos ?_)
  rw [releasedTo_primed]
  exact primed

end Sys2Proof.Machine

open Sys2Proof Sys2Proof.Machine

/-- Settles O44. -/
theorem zoneStarted : Obligations.ZoneStarted := by
  intro s z m plan r put started bound
  refine ⟨fun d h admits present bound idle => ?_, ?_, fun k high action pending noSwap => ?_, fun priming => ?_⟩
  · refine (h.onSource (startDirective d (operandOf z))).trans (congrArg _ ?_)
    rw [startDirective_taken h admits present bound idle, startZone_eq]
    rfl
  · intro k high due armed action zone none noSwap late u payload refused
    have code : (s.mark k).action.code = 2 := by
      rw [action]
      rfl
    have acted : exec (.markFiring k) s = .next (markAction k (s.mark k) u) :=
      exec_markFiring_now high (.inl action) noSwap due armed none
    have refusedWith (status : Status) (h : startRefusal z s = some status) :
        markAction k (s.mark k) u = markReport k (s.mark k) .markActionRefused [f1 status.code] u := by
      unfold markAction
      rw [action, zone]
      simp only [show startRefusal z u = some status from h]
    refine ⟨fun absent => ?_, fun present bound moving => ?_, fun present bound idle => ?_⟩
    · rw [acted, refusedWith _ (startRefusal_absent absent), markReport_moved zone, code]
      rfl
    · have busy : startRefusal z s = some .busy := by rw [startRefusal_bound present bound, if_pos moving]
      rw [acted, refusedWith _ busy, markReport_moved zone, code]
      rfl
    · have taken : startRefusal z u = Option.none :=
        (startRefusal_bound present bound).trans (if_neg (by simpa using idle))
      have done : markAction k (s.mark k) u = markReport k (s.mark k) (s.mark k).carriedOut [] (startZone z u) := by
        unfold markAction
        rw [action, zone]
        simp only [taken]
      rw [acted, done, markReport_moved zone, code, startZone_eq]
      rfl
  · exact exec_markFiring_swap high (.inl action) noSwap pending
  · intro left due released queue primed
    have work : zoneWork z s = primingWork z s := by
      unfold zoneWork
      rw [show (s.zone z).state = .priming from priming]
    refine ⟨fun waits => work.trans (primingWork_stays waits), fun role later ready overlay => ?_⟩
    rw [work, primingWork_plays later ready, enterPlaying_eq z (s.releasedTo z (s.ringed z)) role overlay,
      State.releasedTo_zone,
      State.releasedTo_putZone]
    rfl
end

section
/-! Soft STOP, by directive and by mark, the work of a DRAINING zone, and a zone's end. -/

namespace Sys2Proof.Machine

open Sys2Proof

/-! ### A zone that reaches IDLE (R114) -/

theorem offerEvent_tapState (code : EventCode) (subject : Nat) (payload : List Field) (s : State) :
    (offerEvent code subject payload s).playout.tap.state = s.playout.tap.state := by
  obtain ⟨source, buffer, reported⟩ := offerEvent_only code subject payload s
  rw [reported]

theorem TapState.zone_iff (t : TapState) (z : ZoneNo) : t.zone = some z ↔ t = .armed z ∨ t = .active z := by
  cases t <;> simp [TapState.zone]

/-- A tap that names the zone is disarmed, with its report (R133). -/
theorem endTap_eq (z : ZoneNo) (s : State) :
    endTap z s =
      if s.playout.tap.state = .armed z ∨ s.playout.tap.state = .active z then
        offerEvent .tapEnd z.val []
          { s with playout := { s.playout with tap := { s.playout.tap with state := .disarmed } } }
      else s := by
  unfold endTap
  simp only [TapState.zone_iff]
  rfl

/-- A zone's state written, the rest of it left. -/
def State.inState (s : State) (z : ZoneNo) (x : ZoneState) : State := s.putZone z { s.zone z with state := x }

@[simp] theorem State.inState_zone (s : State) (z : ZoneNo) (x : ZoneState) :
    (s.inState z x).zone z = { s.zone z with state := x } := s.putZone_zone z _

/-- A zone's end: the report, the tap, an overlay's claims (R114, R133, R145). -/
def State.ended (s : State) (z : ZoneNo) (number : SerialNo) : State :=
  let reported := offerEvent .zoneEnded z.val [⟨2, number.toNat⟩, ⟨6, s.timeline.block⟩] (s.inState z .idle)
  let untapped :=
    if s.playout.tap.state = .armed z ∨ s.playout.tap.state = .active z then
      offerEvent .tapEnd z.val []
        { reported with
          playout := { reported.playout with tap := { reported.playout.tap with state := .disarmed } } }
    else reported
  if (s.activeZone z).kind = .overlay then
    (allSpeakers.filter fun sp => (s.activeSpeaker sp).present).foldl (fun v sp => endClaim z sp v) untapped
  else untapped

theorem reachIdle_eq (z : ZoneNo) (s : State) : reachIdle z s = s.ended z (s.zone z).issueNumber := by
  have number : ((s.inState z .idle).zone z).issueNumber = (s.zone z).issueNumber := by
    rw [State.inState_zone]
  have tap := offerEvent_tapState .zoneEnded z.val
    [⟨2, (s.zone z).issueNumber.toNat⟩, ⟨6, s.timeline.block⟩] (s.inState z .idle)
  have plan : (endTap z (offerEvent .zoneEnded z.val
      [⟨2, (s.zone z).issueNumber.toNat⟩, ⟨6, s.timeline.block⟩] (s.inState z .idle))).plan = s.plan :=
    (Only.endTap z _).plan_eq.trans (Only.offerEvent _ _ _ _).plan_eq
  show (if ((endTap z (offerEvent .zoneEnded z.val
      [⟨2, ((s.inState z .idle).zone z).issueNumber.toNat⟩, ⟨6, s.timeline.block⟩] (s.inState z .idle))).activeZone
        z).kind = .overlay then endedNotice z (endTap z (offerEvent .zoneEnded z.val
      [⟨2, ((s.inState z .idle).zone z).issueNumber.toNat⟩, ⟨6, s.timeline.block⟩] (s.inState z .idle)))
    else endTap z (offerEvent .zoneEnded z.val
      [⟨2, ((s.inState z .idle).zone z).issueNumber.toNat⟩, ⟨6, s.timeline.block⟩] (s.inState z .idle))) = _
  rw [number]
  unfold endedNotice State.presentSpeakers State.activeSpeaker State.activeZone
  simp only [plan]
  rw [endTap_eq, tap]
  rfl

theorem settleDraining_empty {z : ZoneNo} {s : State} (draining : (s.zone z).state = .draining)
    (empty : (s.zone z).ring = []) : settleDraining z s = s.ended z (s.zone z).issueNumber := by
  rw [settleDraining, if_pos ⟨draining, empty⟩, reachIdle_eq]

theorem settleDraining_ring {z : ZoneNo} {s : State} (ring : (s.zone z).ring ≠ []) : settleDraining z s = s :=
  if_neg fun h => ring h.2

/-- A soft STOP (R109, R113). -/
theorem softStop_eq (z : ZoneNo) (s : State) :
    softStop z s =
      if (s.zone z).state = .idle ∨ (s.zone z).state = .draining then s
      else if (s.zone z).ring = [] then (s.inState z .draining).ended z (s.zone z).issueNumber
      else s.inState z .draining := by
  have settled : settleDraining z (enterDraining z s) =
      if (s.zone z).ring = [] then (s.inState z .draining).ended z (s.zone z).issueNumber
      else s.inState z .draining := by
    have entered : enterDraining z s = s.inState z .draining := rfl
    rw [entered]
    split
    · rw [settleDraining_empty (by rw [State.inState_zone]) (by rwa [State.inState_zone]), State.inState_zone]
    · exact settleDraining_ring (by rwa [State.inState_zone])
  unfold softStop
  split <;> rename_i state <;> simp [state, settled]

theorem stopZone_soft {s : State} {d : Header} {z : ZoneNo} (h : s.Listening) (admits : s.ZoneAdmits d z) :
    stopZone d (operandOf z) 0 s = softStop z (s.answered 0x41 d .ok []) := by
  unfold stopZone
  rw [zoneIndex_operandOf, show stopModeOf 0 = some false from rfl]
  simp only [zoneRank_of_admits admits, h.reply]
  rfl

/-! ### The work of a DRAINING zone (R113) -/

/-- After the state is written, a zone's end leaves the zones. -/
theorem ended_only (s : State) (z : ZoneNo) (number : SerialNo) :
    Only [.source, .tap, .store, .overlay, .speakers, .air] (s.inState z .idle) (s.ended z number) := by
  unfold State.ended
  simp only []
  generalize saying : offerEvent .zoneEnded z.val [⟨2, number.toNat⟩, ⟨6, s.timeline.block⟩] (s.inState z .idle) =
    reported
  have said : Only [.source, .tap] (s.inState z .idle) reported := saying ▸ Only.offerEvent _ _ _ _
  have untapped : Only [.source, .tap] (s.inState z .idle)
      (if s.playout.tap.state = .armed z ∨ s.playout.tap.state = .active z then
        offerEvent .tapEnd z.val [] (reported.modTap fun t => { t with state := .disarmed })
      else reported) := by
    split
    · exact (said.then (m := [.source, .tap]) (Only.modTap reported _)).then (Only.offerEvent _ _ _ _)
    · exact said
  split
  · exact untapped.then (Only.forEach _ (fun _ _ => Only.endClaim _ _ _) _ _)
  · exact untapped.widen

theorem ended_zone (s : State) (z : ZoneNo) (number : SerialNo) :
    ((s.ended z number).zone z).state = .idle := by
  have zones : (s.ended z number).playout.zones = (s.inState z .idle).playout.zones :=
    (ended_only s z number).same .zones (by decide)
  have zone : (s.ended z number).zone z = (s.inState z .idle).zone z := congrArg (tblGet · z) zones
  rw [zone, State.inState_zone]

theorem drainingWork_eq {s : State} {z : ZoneNo} (draining : (s.zone z).state = .draining) :
    drainingWork z s =
      if s.ringLeft z = [] then (s.releasedTo z (s.ringed z)).ended z (s.zone z).issueNumber
      else boundaryNotice z (s.releasedTo z (s.ringed z)) := by
  have zone : (s.releasedTo z (s.ringed z)).zone z = s.ringed z := s.releasedTo_zone z _
  unfold drainingWork
  rw [show releaseDue z s = s.releasedTo z (s.ringed z) from releaseDue_eq z s]
  split
  · rename_i empty
    rw [settleDraining_empty (by rw [zone]; exact draining) (by rw [zone]; exact empty), zone]
    exact if_neg (by rw [ended_zone]; decide)
  · rename_i ring
    rw [settleDraining_ring (by rw [zone]; exact ring)]
    exact if_pos (by rw [zone]; exact draining)

end Sys2Proof.Machine

open Sys2Proof Sys2Proof.Machine

/-- Settles O45. -/
theorem zoneStoppedSoftly : Obligations.ZoneStoppedSoftly := by
  intro s z m r inState ended stopped
  have stop (u : State) (zones : u.playout = s.playout) (plan : u.plan = s.plan)
      (block : u.timeline.block = m) : softStop z u = stopped u := by
    have zone : u.zone z = r := congrArg (fun p : Playout => tblGet p.zones z) zones
    have ends : (u.inState z .draining).ended z r.issueNumber = ended (inState .draining u) := by
      have block : (u.inState z .draining).timeline.block = m := block
      have tap : (u.inState z .draining).playout.tap.state = s.playout.tap.state :=
        (congrArg (fun p : Playout => p.tap.state) zones : u.playout.tap.state = _)
      have zonePlan : (u.inState z .draining).activeZone z = s.activeZone z :=
        congrArg (fun p : Plan => p.active.zone z) plan
      have speakerPlan (sp : SpeakerNo) : (u.inState z .draining).activeSpeaker sp = s.activeSpeaker sp :=
        congrArg (fun p : Plan => p.active.speaker sp) plan
      unfold State.ended
      simp only [block, tap, zonePlan, speakerPlan]
      rfl
    rw [softStop_eq, zone, ends]
    rfl
  refine ⟨fun d h admits => ?_, ?_, fun k high action pending noSwap => ?_, fun draining => ?_⟩
  · refine (h.onSource (stopZone d (operandOf z) 0)).trans (congrArg _ ?_)
    rw [stopZone_soft h admits]
    exact stop _ rfl rfl rfl
  · intro k high due armed action zone none noSwap late
    have code : (s.mark k).action.code = 3 := by
      rw [action]
      rfl
    have done : markAction k (s.mark k) (s.disarmed k) =
        markReport k (s.mark k) (s.mark k).carriedOut [] (softStop z (s.disarmed k)) := by
      unfold markAction
      rw [action, zone]
    have clock : (softStop z (s.disarmed k)).timeline.block = s.timeline.block :=
      ((Only.softStop z (s.disarmed k)).clock_eq (by decide)).2
    rw [exec_markFiring_now high (.inr action) noSwap due armed none, done, markReport_moved zone, code, clock,
      stop (s.disarmed k) rfl rfl rfl]
    rfl
  · exact exec_markFiring_swap high (.inr action) noSwap pending
  · intro left due released
    have work : zoneWork z s = drainingWork z s := by
      unfold zoneWork
      rw [show (s.zone z).state = .draining from draining]
    rw [work, drainingWork_eq draining]
    rfl
end

section
/-! RESTART: the DEMAND reports on an emptied Report Queue, the CUTs on an emptied Air queue, and the rest brought to
every block. -/

namespace Sys2Proof.Machine

open Sys2Proof

/-! ### The DEMAND reports -/

/-- An event report that finds its side SENDING, no report of its kind, and room (R195). -/
theorem offerEvent_entered {code : EventCode} {subject : Nat} {payload : List Field} {s : State}
    (sending : s.source.sending.isSome = true) (fresh : s.source.reports.any (·.isEvent code subject) = false)
    (room : s.source.reports.length < Config.reportCapacity) :
    offerEvent code subject payload s =
      { s with source := { s.source with
          reports := s.source.reports ++
            [{ sort := .event code subject, count := 1, block := s.timeline.block, payload := payload
               loss := s.source.lossPending }]
          lossPending := false } } := by
  have link : s.source.offerEvent code subject payload s.block = s.source.enter (.event code subject) payload s.block := by
    unfold SourceLink.offerEvent
    rw [fresh, if_neg Bool.false_ne_true, if_pos room]
  rw [offerEvent, selectSource_idle _ (.inr (.inl ?_)), State.modSource, link]
  · rfl
  · rw [State.modSource, link]
    exact sending

/-- A DEMAND report of an empty stream (R57). -/
def demandOf (s : State) (st : StreamNo) : Report :=
  { sort := .event .streamDemand st.val, count := 1, block := s.timeline.block
    payload := [⟨1, 0⟩, ⟨2, (s.stream st).quota⟩], loss := false }

/-- The streams that report demand at RESTART. -/
def State.demands (s : State) (st : StreamNo) : Bool := (s.stream st).present && (s.stream st).cls == .paced

theorem modStream_same {s : State} {st : StreamNo} {f : Stream → Stream} (h : f (s.stream st) = s.stream st) :
    s.modStream st f = s := by
  have same : tblMod s.intake.streams st f = s.intake.streams := by
    refine tbl_ext fun o => ?_
    rw [tblGet_tblMod]
    split
    · subst o
      exact h
    · rfl
  show { s with intake := { s.intake with streams := tblMod s.intake.streams st f } } = s
  rw [same]

/-- A side that is SENDING with `reports` waiting and no loss pending. -/
def SourceLink.waiting (l : SourceLink) (reports : List Report) : SourceLink :=
  { l with reports := reports, lossPending := false }

/-- Every queue at RESTART's DEMAND reports. -/
def Stream.AtRest (d : Stream) : Prop := d.queue = [] ∧ d.demandArmed = false

theorem demandReport_rest {s : State} {st : StreamNo} (rest : (s.stream st).AtRest)
    (sending : s.source.sending.isSome = true) (clear : s.source.lossPending = false)
    (fresh : s.source.reports.any (·.isEvent .streamDemand st.val) = false)
    (room : s.source.reports.length < Config.reportCapacity) :
    demandReport st s =
      { s with source := s.source.waiting (s.source.reports ++ [demandOf s st]) } := by
  obtain ⟨empty, unarmed⟩ := rest
  have same : (s.modStream st fun d => { d with demandArmed := false }) = s :=
    modStream_same (by rw [← unarmed])
  rw [demandReport, same, empty, offerEvent_entered sending fresh room, clear]
  rfl

theorem restartDemands_eq (l : List StreamNo) (once : l.Nodup) (s : State) (rest : ∀ st, (s.stream st).AtRest)
    (sending : s.source.sending.isSome = true) (clear : s.source.lossPending = false)
    (fresh : ∀ st ∈ l, s.source.reports.any (·.isEvent .streamDemand st.val) = false)
    (room : s.source.reports.length + l.length ≤ Config.reportCapacity) :
    s.forEach l restartDemand =
      { s with source := s.source.waiting (s.source.reports ++ (l.filter s.demands).map (demandOf s)) } := by
  induction l generalizing s with
  | nil =>
    have same : s.source.waiting (s.source.reports ++ []) = s.source := by
      rw [SourceLink.waiting, List.append_nil, ← clear]
    show s = { s with source := s.source.waiting (s.source.reports ++ []) }
    rw [same]
  | cons st l ih =>
    obtain ⟨apart, once⟩ := List.nodup_cons.mp once
    rw [List.length_cons] at room
    rw [State.forEach_cons]
    by_cases reports : s.demands st = true
    · have here : restartDemand st s =
          { s with source := s.source.waiting (s.source.reports ++ [demandOf s st]) } := by
        rw [restartDemand, if_pos (by simpa [State.demands] using reports)]
        exact demandReport_rest (rest st) sending clear (fresh st List.mem_cons_self) (by omega)
      have fresh : ∀ o ∈ l,
          (s.source.reports ++ [demandOf s st]).any (·.isEvent .streamDemand o.val) = false := by
        intro o ho
        have other : st.val ≠ o.val := fun same => apart (Fin.ext same ▸ ho)
        rw [List.any_append, fresh o (List.mem_cons_of_mem _ ho)]
        simp [demandOf, Report.isEvent, other]
      have room : (s.source.reports ++ [demandOf s st]).length + l.length ≤ Config.reportCapacity := by
        rw [List.length_append, List.length_singleton]
        omega
      have rest_ := ih once { s with source := s.source.waiting (s.source.reports ++ [demandOf s st]) } rest sending
        rfl fresh room
      rw [here, rest_, List.filter_cons_of_pos reports, List.map_cons]
      show { s with source := s.source.waiting ((s.source.reports ++ [demandOf s st]) ++
        (l.filter s.demands).map (demandOf s)) } = _
      rw [List.append_assoc, List.singleton_append]
    · have here : restartDemand st s = s := by
        rw [restartDemand, if_neg (by simpa [State.demands] using reports)]
      rw [here, ih once s rest sending clear (fun o ho => fresh o (List.mem_cons_of_mem _ ho)) (by omega),
        List.filter_cons_of_neg reports]

/-! ### The CUTs -/

/-- The Air Link with an emptied queue, and `cuts` then handed to it. -/
def AirLink.withCuts (a : AirLink) (cuts : List ControlFrame) : AirLink :=
  if a.up then
    { a with
      audio := []
      sending := if a.sending.isSome then a.sending else cuts.head?.map .control
      control := if a.sending.isSome then cuts else cuts.tail }
  else
    { a with control := [], audio := [], downDiscards := counted a.downDiscards cuts.length }

/-- The counters of an Air Link are within 32 bits. -/
structure AirLink.Counted (a : AirLink) : Prop where
  speakers : ∀ sp : SpeakerNo, (tblGet a.counters sp).Bounded
  down : a.downDiscards ≤ 4294967295

theorem AirLink.withCuts_nil {a : AirLink} (bounded : a.Counted) :
    a.withCuts [] = { a with control := [], audio := [] } := by
  have down : counted a.downDiscards 0 = a.downDiscards := min_eq_left bounded.down
  unfold AirLink.withCuts
  cases up : a.up
  · simp [down]
  · cases a.sending <;> simp

/-- A CUT finds nothing to purge in a queue without audio frames (R179). -/
theorem purge_none {sp : SpeakerNo} {u : State} (address : AirAddress) (block : Nat) (empty : u.air.audio = [])
    (bounded : (tblGet u.air.counters sp).Bounded) : purge sp address block u = u := by
  obtain ⟨_, _, purges, _⟩ := bounded
  have same : bump (tblGet u.air.counters sp).cutPurges 0 = (tblGet u.air.counters sp).cutPurges :=
    min_eq_left purges
  have counters : (tblMod u.air.counters sp fun c => { c with cutPurges := bump c.cutPurges 0 }) =
      u.air.counters := by
    refine tbl_ext fun o => ?_
    rw [tblGet_tblMod]
    split
    · subst o
      rw [same]
    · rfl
  unfold purge State.modAirCounters State.modAir
  simp only [empty, List.filter_nil, List.length_nil, counters]
  rw [← empty]

theorem handCut_withCuts {a : AirLink} (bounded : a.Counted) {cuts : List ControlFrame}
    (room : cuts.length < Config.airCapacity) {u : State} (air : u.air = a.withCuts cuts) (sp : SpeakerNo)
    (address : AirAddress) (stamp : LocalCount) (block : Nat) :
    (handCut sp address stamp block u).air = a.withCuts (cuts ++ [.cut address stamp]) := by
  unfold handCut
  cases up : a.up
  · have down : u.air.up = false := by simp [air, AirLink.withCuts, up]
    rw [if_neg (by simp [down]), countDown]
    simp only [State.modAir, air, AirLink.withCuts, up, List.length_append, List.length_singleton]
    simp [bump, counted, Config.counterMax]
    omega
  · have linkUp : u.air.up = true := by simp [air, AirLink.withCuts, up]
    have silent : u.air.audio = [] := by simp [air, AirLink.withCuts, up]
    have counted : (tblGet u.air.counters sp).Bounded := by
      have same : u.air.counters = a.counters := by simp [air, AirLink.withCuts, up]
      rw [same]
      exact bounded.speakers sp
    have few : u.air.queueCount < Config.airCapacity := by
      rw [AirLink.queueCount, air, AirLink.withCuts, if_pos up]
      simp only [List.length_nil, Nat.add_zero]
      split
      · exact room
      · rw [List.length_tail]
        omega
    have queued : placeControl (.cut address stamp) u = queueControl (.cut address stamp) u := if_pos few
    rw [if_pos linkUp, purge_none address block silent counted, queued, queueControl]
    unfold selectAir
    rcases sending : a.sending with _ | f
    · rcases cuts with _ | ⟨first, rest⟩ <;>
        simp [State.modAir, air, AirLink.withCuts, up, sending]
    · simp [State.modAir, air, AirLink.withCuts, up, sending]

end Sys2Proof.Machine
end

section
/-! RESTART: the speakers, and the whole part at rest. -/

namespace Sys2Proof.Machine

open Sys2Proof

/-! ### The speakers -/

/-- A speaker after the CUT and the resync notice of RESTART (R131, R138). -/
def SpeakerRun.restarted (r : SpeakerRun) (block : Nat) : SpeakerRun :=
  { r with horizon := block, rampPending := true, cuts := counted r.cuts 1 }

/-- The CUT frame of a speaker at the current block (R130). -/
def State.cutFrame (s : State) (sp : SpeakerNo) : ControlFrame :=
  .cut (s.activeSpeaker sp).address (s.stamp sp (s.timeline.block + s.store.refillMargin))

/-- The speakers' table and the Air Link written. -/
def State.withSpeakers (s : State) (air : AirLink) (speakers : Vector SpeakerRun 24) : State :=
  { s with air := air, playout := { s.playout with speakers := speakers } }

theorem restartSpeaker_eq (sp : SpeakerNo) (s : State) :
    restartSpeaker sp s =
      s.withSpeakers
        (handCut sp (s.activeSpeaker sp).address (s.stamp sp (s.timeline.block + s.store.refillMargin))
          (s.timeline.block + s.store.refillMargin) s).air
        (tblSet s.playout.speakers sp ((s.speaker sp).restarted s.timeline.block)) := by
  have handed := cutAt_eq sp (s.activeSpeaker sp).address s
  have write (r : SpeakerRun) (f : SpeakerRun → SpeakerRun) :
      tblMod (tblSet s.playout.speakers sp r) sp f = tblSet s.playout.speakers sp (f r) := by
    rw [tblMod, tblGet_tblSet_same, tblSet_tblSet]
  rw [restartSpeaker, cut, handed, resyncNotice, State.modSpeaker, State.modPlayout]
  simp only [write]
  rfl

/-- The present speakers at RESTART, one after another: a CUT for each, its table entry restarted. -/
theorem restartSpeakers_eq (l : List SpeakerNo) (once : l.Nodup) (s : State) :
    ∃ air speakers, s.forEach l restartSpeaker = s.withSpeakers air speakers
      ∧ (∀ sp, tblGet speakers sp = if sp ∈ l then (s.speaker sp).restarted s.timeline.block else s.speaker sp)
      ∧ ∀ (a : AirLink) (cuts : List ControlFrame), a.Counted → s.air = a.withCuts cuts →
          cuts.length + l.length ≤ Config.airCapacity → air = a.withCuts (cuts ++ l.map s.cutFrame) := by
  induction l generalizing s with
  | nil =>
    exact ⟨s.air, s.playout.speakers, rfl, fun sp => rfl, fun a cuts _ air _ => by
      rw [List.map_nil, List.append_nil, air]⟩
  | cons first l ih =>
    obtain ⟨apart, once⟩ := List.nodup_cons.mp once
    have here := restartSpeaker_eq first s
    generalize handed : (handCut first (s.activeSpeaker first).address
      (s.stamp first (s.timeline.block + s.store.refillMargin)) (s.timeline.block + s.store.refillMargin) s).air =
      air at here
    obtain ⟨air', speakers, rest, table, link⟩ := ih once
      (s.withSpeakers air (tblSet s.playout.speakers first ((s.speaker first).restarted s.timeline.block)))
    refine ⟨air', speakers, ?_, fun sp => ?_, fun a cuts bounded before room => ?_⟩
    · rw [State.forEach_cons, here, rest]
      rfl
    · have written : (s.withSpeakers air (tblSet s.playout.speakers first
          ((s.speaker first).restarted s.timeline.block))).speaker sp =
          if first = sp then (s.speaker first).restarted s.timeline.block else s.speaker sp :=
        tblGet_tblSet _ _ _ _
      rw [table, written]
      by_cases same : first = sp
      · subst same
        simp [apart]
      · simp [same, Ne.symm same]
        rfl
    · rw [List.length_cons] at room
      have cutHere : air = a.withCuts (cuts ++ [s.cutFrame first]) :=
        handed.symm.trans (handCut_withCuts bounded (by omega) before first _ _ _)
      have later := link a (cuts ++ [s.cutFrame first]) bounded cutHere (by
        rw [List.length_append, List.length_singleton]
        omega)
      rw [later, List.append_assoc]
      rfl

/-- Recomputing each speaker of a list, which reads the plan and the stacks alone (R126). -/
theorem recomputes_eq (l : List SpeakerNo) (once : l.Nodup) (s : State) :
    ∃ speakers, s.forEach l recompute = s.withSpeakers s.air speakers
      ∧ ∀ sp, tblGet speakers sp =
          if sp ∈ l then { s.speaker sp with zone := s.effectiveZone sp, role := s.effectiveRole sp }
          else s.speaker sp := by
  induction l generalizing s with
  | nil => exact ⟨s.playout.speakers, rfl, fun sp => rfl⟩
  | cons first l ih =>
    obtain ⟨apart, once⟩ := List.nodup_cons.mp once
    obtain ⟨speakers, rest, table⟩ := ih once (recompute first s)
    refine ⟨speakers, rest, fun sp => ?_⟩
    have written : (recompute first s).speaker sp =
        if first = sp then { s.speaker first with zone := s.effectiveZone first, role := s.effectiveRole first }
        else s.speaker sp := State.speaker_modSpeaker _ _ _ _
    have zone : (recompute first s).effectiveZone sp = s.effectiveZone sp := rfl
    have role : (recompute first s).effectiveRole sp = s.effectiveRole sp := rfl
    rw [table, written, zone, role]
    by_cases same : first = sp
    · subst same
      simp [apart]
    · simp [same, Ne.symm same]

/-! ### Every block at rest -/

/-- The part brought to rest up to its speakers: `source` is what its Report Queue then is. -/
def State.rested (s : State) (source : SourceLink) : State :=
  { s with
    timeline := { s.timeline with marks := tblMap s.timeline.marks fun m => { m with armed := false } }
    agenda := { s.agenda with marks := Vector.replicate 8 false, swap := false }
    store := { s.store with freeList := ascendingCells, depletionArmed := true }
    intake := { s.intake with streams := tblMap s.intake.streams fun d =>
      { d with queue := [], expected := none, demandArmed := false } }
    tracker := { s.tracker with entries := tblMap s.tracker.entries TrackerEntry.restart }
    plan := { s.plan with swapPending := false, accessed := Vector.replicate 24 false }
    overlay := { s.overlay with claimStacks := Vector.replicate 24 [] }
    cue := { s.cue with runs := tblMap s.cue.runs fun c =>
      { c with status := .stopped, wait := 0, prescaleCount := 0, loopCount := 0 } }
    air := { s.air with control := [], audio := [] }
    playout := { s.playout with
      zones := tblMap s.playout.zones fun r => { r with state := .idle, prevKind := none, ring := [] }
      tap := { s.playout.tap with state := .disarmed, buffer := [] } }
    source := source }

theorem nodup_allStreams : allStreams.Nodup := by decide

theorem nodup_allSpeakers : allSpeakers.Nodup := by decide

theorem mem_allSpeakers : ∀ sp : SpeakerNo, sp ∈ allSpeakers := by decide

/-- Every stream's queue emptied and its demand flag cleared (R57). -/
def State.emptied (s : State) : State :=
  { s with intake := { s.intake with streams := tblMap s.intake.streams fun d =>
      { d with queue := [], expected := none, demandArmed := false } } }

@[simp] theorem State.emptied_stream (s : State) (st : StreamNo) :
    s.emptied.stream st = { s.stream st with queue := [], expected := none, demandArmed := false } :=
  tblGet_tblMap _ _ _

theorem State.emptied_demands (s : State) : s.emptied.demands = s.demands := by
  funext st
  rw [State.demands, State.emptied_stream]
  rfl

theorem demandOf_emptied (s : State) : demandOf s.emptied = demandOf s := by
  funext st
  rw [demandOf, State.emptied_stream]
  rfl

theorem restartStreams_eq {s : State} (sending : s.source.sending.isSome = true)
    (clear : s.source.lossPending = false)
    (fresh : ∀ st : StreamNo, s.source.reports.any (·.isEvent .streamDemand st.val) = false)
    (room : s.source.reports.length + 16 ≤ Config.reportCapacity) :
    restartStreams s =
      { s.emptied with
        source := s.source.waiting (s.source.reports ++ (allStreams.filter s.demands).map (demandOf s)) } := by
  have rest (st : StreamNo) : (s.emptied.stream st).AtRest := by
    rw [State.emptied_stream]
    exact ⟨rfl, rfl⟩
  have reported := restartDemands_eq allStreams nodup_allStreams s.emptied rest sending clear (fun st _ => fresh st) room
  rw [s.emptied_demands, demandOf_emptied] at reported
  exact reported

theorem restartBlocks_eq {s : State} (sending : s.source.sending.isSome = true)
    (clear : s.source.lossPending = false)
    (fresh : ∀ st : StreamNo, s.source.reports.any (·.isEvent .streamDemand st.val) = false)
    (room : s.source.reports.length + 16 ≤ Config.reportCapacity) :
    restartBlocks s =
      let u := s.rested (s.source.waiting (s.source.reports ++ (allStreams.filter s.demands).map (demandOf s)))
      (u.forEach s.presentSpeakers restartSpeaker).forEach allSpeakers recompute := by
  unfold restartBlocks
  simp only []
  rw [restartStreams_eq (s := rebuildStore (restartTimeline s)) sending clear fresh room]
  rfl

/-- The reply of RESTART, on the emptied Report Queue (R201). -/
def State.restartReply (s : State) (d : Header) : Report :=
  { sort := .reply 0x03 .ok d.tag, count := 1, block := s.timeline.block, payload := []
    loss := !s.source.reports.isEmpty }

/-- The Source Link at RESTART before the DEMAND reports. -/
def State.repliedSource (s : State) (d : Header) : SourceLink :=
  { s.source with
    lossPending := false
    sending := if s.source.sending.isSome then s.source.sending else some (.report (s.restartReply d))
    reports := if s.source.sending.isSome then [s.restartReply d] else [] }

theorem restart_eq {s : State} {d : Header} (h : s.Listening) (rank : d.rank = 0) :
    restart d s = restartBlocks { s with source := s.repliedSource d } := by
  have emptied : (emptyReports s).Listening :=
    ⟨h.1, h.2.1, show ([] : List Report).length < Config.reportCapacity by decide⟩
  have source : (emptyReports s).source.answered 0x03 d .ok [] s.timeline.block = s.repliedSource d := by
    unfold emptyReports State.modSource SourceLink.answered State.repliedSource
    cases s.source.sending <;> simp [State.restartReply]
  unfold restart
  rw [if_neg (not_rankRefused rank), emptied.reply]
  show restartBlocks { s with source := (emptyReports s).source.answered 0x03 d .ok [] s.timeline.block } = _
  rw [source]

theorem repliedSource_fresh (s : State) (d : Header) (st : StreamNo) :
    (s.repliedSource d).reports.any (·.isEvent .streamDemand st.val) = false := by
  unfold State.repliedSource
  split <;> rfl

theorem repliedSource_sending (s : State) (d : Header) : (s.repliedSource d).sending.isSome = true := by
  unfold State.repliedSource
  cases s.source.sending <;> simp

theorem repliedSource_room (s : State) (d : Header) :
    (s.repliedSource d).reports.length + 16 ≤ Config.reportCapacity := by
  have few : (s.repliedSource d).reports.length ≤ 1 := by
    unfold State.repliedSource
    split <;> simp
  unfold Config.reportCapacity
  omega

/-- The stamp of a speaker whose estimate is at rest is its block and its delay (R76, R83). -/
theorem stampOf_restart (e : TrackerEntry) (delay block : Nat) :
    stampOf e.restart delay block = BitVec.ofInt 32 (32768 * block + delay) := by
  have rate (a : Int) : roundDiv (a * 0) (2 ^ 24) = 0 := by
    rw [Int.mul_zero]
    decide
  unfold stampOf extrapolate
  simp only [TrackerEntry.restart, TrackerEntry.resetEstimate, rate]
  congr 1
  simp
  ring

theorem rested_cutFrame (s : State) (source : SourceLink) (sp : SpeakerNo) :
    (s.rested source).cutFrame sp =
      .cut (s.activeSpeaker sp).address
        (BitVec.ofInt 32
          (32768 * (s.timeline.block + s.store.refillMargin : Nat) + (s.trim sp).delay)) := by
  have entry : (s.rested source).entry (speakerEntry sp) = (s.entry (speakerEntry sp)).restart :=
    tblGet_tblMap _ _ _
  have block : (s.rested source).timeline.block = s.timeline.block := rfl
  have margin : (s.rested source).store.refillMargin = s.store.refillMargin := by simp only [State.rested]
  have plan : (s.rested source).activeSpeaker sp = s.activeSpeaker sp := rfl
  have trim : (s.rested source).trim sp = s.trim sp := rfl
  rw [State.cutFrame, State.stamp, entry, block, margin, plan, trim, stampOf_restart _ _ _]

theorem rested_topClaim (s : State) (source : SourceLink) (air : AirLink) (speakers : Vector SpeakerRun 24)
    (sp : SpeakerNo) : ((s.rested source).withSpeakers air speakers).topClaim sp = none := by
  have empty : ((s.rested source).withSpeakers air speakers).claimStack sp = [] := tblGet_replicate _ _
  rw [State.topClaim, empty, List.head?_nil, Option.bind_none]

end Sys2Proof.Machine

open Sys2Proof Sys2Proof.Machine

/-- Settles O58. -/
theorem restartBringsRest : Obligations.RestartBringsRest := by
  intro s d h rank
  set demands := (s.repliedSource d).waiting
    ((s.repliedSource d).reports ++ (allStreams.filter s.demands).map (demandOf s)) with reports
  have blocks : restart d s =
      ((s.rested demands).forEach s.presentSpeakers restartSpeaker).forEach allSpeakers recompute := by
    rw [restart_eq h rank, restartBlocks_eq (repliedSource_sending s d) rfl (repliedSource_fresh s d)
      (repliedSource_room s d)]
    rfl
  obtain ⟨air, speakers, cuts, table, link⟩ :=
    restartSpeakers_eq s.presentSpeakers (nodup_allSpeakers.filter _) (s.rested demands)
  obtain ⟨written, recomputed, table'⟩ :=
    recomputes_eq allSpeakers nodup_allSpeakers ((s.rested demands).withSpeakers air speakers)
  have done : exec (.restart d) s = .next ((s.rested demands).withSpeakers air written) := by
    refine (h.onSource (restart d)).trans (congrArg _ ?_)
    rw [blocks, cuts, recomputed]
    rfl
  refine ⟨_, done, rfl, fun z => tblGet_tblMap _ _ _, rfl, fun st => tblGet_tblMap _ _ _, rfl,
    fun sp => tblGet_replicate _ _, rfl, fun e => tblGet_tblMap _ _ _, rfl, fun k => tblGet_tblMap _ _ _, rfl,
    fun z => tblGet_tblMap _ _ _, rfl, fun sp => tblGet_replicate _ _, rfl, fun sp => ?_, ?_, ?_⟩
  · have now : tblGet written sp = _ := (table' sp).trans (if_pos (mem_allSpeakers sp))
    have before : ((s.rested demands).withSpeakers air speakers).speaker sp =
        if sp ∈ s.presentSpeakers then (s.speaker sp).restarted s.timeline.block else s.speaker sp := table sp
    have member : sp ∈ s.presentSpeakers ↔ (s.activeSpeaker sp).present = true :=
      List.mem_filter.trans (and_iff_right (mem_allSpeakers sp))
    have plan : ((s.rested demands).withSpeakers air speakers).activeSpeaker sp = s.activeSpeaker sp := rfl
    show tblGet written sp = _
    rw [now, before, State.effectiveZone, State.effectiveRole, rested_topClaim, plan]
    simp only [member]
    by_cases present : (s.activeSpeaker sp).present = true
    · simp only [if_pos present]
      rfl
    · simp only [if_neg present]
  · show demands = _
    rw [reports, SourceLink.waiting, State.repliedSource]
    by_cases sending : s.source.sending.isSome = true
    · simp only [if_pos sending]
      rfl
    · simp only [if_neg sending]
      rfl
  · intro cutFrames counters down
    have frames : s.presentSpeakers.map (s.rested demands).cutFrame = cutFrames :=
      List.map_congr_left fun sp _ => rested_cutFrame s demands sp
    have few : s.presentSpeakers.length ≤ 24 := List.length_filter_le _ _
    have handed := link s.air [] ⟨counters, down⟩ (AirLink.withCuts_nil ⟨counters, down⟩).symm (by
      rw [List.length_nil]
      unfold Config.airCapacity
      omega)
    rw [List.nil_append, frames] at handed
    exact handed
end

section
/-! Table 38: what each reason for refusing a swap says of the staged bank, and the first object that fails. -/

namespace Sys2Proof.Machine

open Sys2Proof

/-! ### The first of an ascending list -/

theorem findSome?_first {α β : Type} [LinearOrder α] {f : α → Option β} {l : List α} {a : α} {r : β}
    (ascending : l.Pairwise (· < ·)) (member : a ∈ l) (found : f a = some r)
    (before : ∀ b ∈ l, b < a → f b = none) : l.findSome? f = some r := by
  induction l with
  | nil => cases member
  | cons x l ih =>
    obtain ⟨above, ascending⟩ := List.pairwise_cons.mp ascending
    rw [List.findSome?_cons]
    rcases List.mem_cons.mp member with rfl | later
    · rw [found]
    · rw [before x List.mem_cons_self (above a later)]
      exact ih ascending later fun b hb => before b (List.mem_cons_of_mem x hb)

theorem find?_first {α : Type} [LinearOrder α] {p : α → Bool} {l : List α} {a : α}
    (ascending : l.Pairwise (· < ·)) (member : a ∈ l) (found : p a = true)
    (least : ∀ b ∈ l, p b = true → a ≤ b) : l.find? p = some a := by
  induction l with
  | nil => cases member
  | cons x l ih =>
    obtain ⟨above, ascending⟩ := List.pairwise_cons.mp ascending
    rcases List.mem_cons.mp member with rfl | later
    · exact List.find?_cons_of_pos found
    · have fails : ¬ p x = true := fun h =>
        absurd (above a later) (not_lt.mpr (least x List.mem_cons_self h))
      rw [List.find?_cons_of_neg fails]
      exact ih ascending later fun b hb => least b (List.mem_cons_of_mem x hb)

theorem allZones_ascending : allZones.Pairwise (· < ·) := by decide

theorem allSpeakers_ascending : allSpeakers.Pairwise (· < ·) := by decide

theorem mem_allZones : ∀ z : ZoneNo, z ∈ allZones := by decide

/-! ### STREAM_SHARED -/

/-- Two present zones, the first the lower, name one stream. -/
def Bank.Shared (b : Bank) (st : StreamNo) (z y : ZoneNo) : Prop :=
  z < y ∧ ∀ x ∈ [z, y], (b.zone x).present = true ∧ (b.zone x).stream = some st

theorem Bank.mem_zonesOn {b : Bank} {st : StreamNo} {z : ZoneNo} :
    z ∈ b.zonesOn st ↔ (b.zone z).present = true ∧ (b.zone z).stream = some st := by
  unfold Bank.zonesOn
  rw [List.mem_filter]
  refine (and_iff_right (mem_allZones z)).trans ?_
  simp [Bank.zone]

theorem Bank.zonesOn_ascending (b : Bank) (st : StreamNo) : (b.zonesOn st).Pairwise (· < ·) :=
  allZones_ascending.filter _

theorem Bank.shared_of_pair {b : Bank} {st : StreamNo} {z y : ZoneNo} {rest : List ZoneNo}
    (zones : b.zonesOn st = z :: y :: rest) : b.Shared st z y := by
  have ascending := b.zonesOn_ascending st
  have named : ∀ x ∈ [z, y], x ∈ b.zonesOn st := by
    rw [zones]
    simp
  rw [zones] at ascending
  exact ⟨(List.pairwise_cons.mp ascending).1 y List.mem_cons_self, fun x hx => mem_zonesOn.mp (named x hx)⟩

theorem streamShared_none {b : Bank} {st : StreamNo} (h : ∀ z y, ¬ b.Shared st z y) :
    streamShared b st = none := by
  unfold streamShared
  split
  · exact absurd (Bank.shared_of_pair ‹_›) (h _ _)
  · rfl

theorem streamShared_some {b : Bank} {st : StreamNo} {z y : ZoneNo} (h : b.Shared st z y)
    (least : ∀ z' y', b.Shared st z' y' → z ≤ z' ∧ (z' = z → y ≤ y')) :
    streamShared b st = some { reason := 0, subject := st.val, payload := [f1 z.val, f1 y.val] } := by
  have ascending := b.zonesOn_ascending st
  obtain ⟨lt, named⟩ := h
  have first : z ∈ b.zonesOn st := Bank.mem_zonesOn.mpr (named z (by simp))
  have second : y ∈ b.zonesOn st := Bank.mem_zonesOn.mpr (named y (by simp))
  unfold streamShared
  rcases zones : b.zonesOn st with _ | ⟨a, _ | ⟨c, rest⟩⟩ <;> rw [zones] at first second ascending
  · cases first
  · rw [List.mem_singleton] at first second
    exact absurd lt (by rw [first, second]; exact lt_irrefl a)
  · have pair := Bank.shared_of_pair zones
    obtain ⟨above, ascending⟩ := List.pairwise_cons.mp ascending
    have za : z = a := by
      rcases List.mem_cons.mp first with same | later
      · exact same
      · exact absurd (above z later) (not_lt.mpr (least a c pair).1)
    have yc : y = c := by
      rcases List.mem_cons.mp second with same | later
      · exact absurd lt (by rw [za, same]; exact lt_irrefl a)
      · rcases List.mem_cons.mp later with same | later
        · exact same
        · exact absurd ((List.pairwise_cons.mp ascending).1 y later)
            (not_lt.mpr ((least a c pair).2 za.symm))
    rw [za, yc]

/-! ### ZONE_BUSY -/

/-- A zone in play that the staged bank removes, or changes in kind, or, being OVERLAY, in stream. -/
def State.Busy (s : State) (z : ZoneNo) : Prop :=
  (s.plan.active.zone z).present = true ∧ (s.zone z).state ≠ .idle
    ∧ ((s.plan.staged.zone z).present = false ∨ (s.plan.staged.zone z).kind ≠ (s.plan.active.zone z).kind
      ∨ ((s.plan.active.zone z).kind = .overlay
        ∧ (s.plan.staged.zone z).stream ≠ (s.plan.active.zone z).stream))

theorem zoneMoved_iff (old new : ZoneDesc) :
    zoneMoved old new = true ↔
      new.present = false ∨ new.kind ≠ old.kind ∨ (old.kind = .overlay ∧ new.stream ≠ old.stream) := by
  simp [zoneMoved, or_assoc]

theorem zoneBusy_some {s : State} {z : ZoneNo} (h : s.Busy z) :
    zoneBusy s z = some { reason := 1, subject := z.val, payload := [f1 (s.zone z).state.code] } := by
  obtain ⟨present, moving, moved⟩ := h
  exact if_pos ⟨present, moving, (zoneMoved_iff _ _).mpr moved⟩

theorem zoneBusy_none {s : State} {z : ZoneNo} (h : ¬ s.Busy z) : zoneBusy s z = none :=
  if_neg fun ⟨present, moving, moved⟩ => h ⟨present, moving, (zoneMoved_iff _ _).mp moved⟩

/-! ### BAD_MEMBER -/

/-- A present speaker is planned into a zone that is absent or OVERLAY. -/
def Bank.BadMember (b : Bank) (sp : SpeakerNo) (z : ZoneNo) : Prop :=
  (b.speaker sp).present = true ∧ (b.speaker sp).plannedZone = some z
    ∧ ((b.zone z).present = false ∨ (b.zone z).kind = .overlay)

theorem badMember_some {b : Bank} {sp : SpeakerNo} {z : ZoneNo} (h : b.BadMember sp z) :
    badMember b sp = some { reason := 2, subject := sp.val, payload := [f1 z.val] } := by
  obtain ⟨present, zone, bad⟩ := h
  unfold badMember
  rw [if_pos present, zone]
  exact if_pos (by simpa using bad)

theorem badMember_none {b : Bank} {sp : SpeakerNo} (h : ∀ z, ¬ b.BadMember sp z) : badMember b sp = none := by
  unfold badMember
  split
  · split
    · exact if_neg fun bad => h _ ⟨‹_›, ‹_›, by simpa using bad⟩
    · rfl
  · rfl

/-! ### DUPLICATE_ADDRESS -/

/-- Two present speakers, the first the lower, share an address. -/
def Bank.Duplicate (b : Bank) (sp o : SpeakerNo) : Prop :=
  sp < o ∧ (b.speaker sp).present = true ∧ (b.speaker o).present = true
    ∧ (b.speaker o).address = (b.speaker sp).address

theorem Bank.duplicate_iff {b : Bank} {sp o : SpeakerNo} (present : (b.speaker sp).present = true) :
    (decide (sp < o) && (b.speaker o).present && (b.speaker o).address == (b.speaker sp).address) = true ↔
      b.Duplicate sp o := by
  simp [Bank.Duplicate, present, and_assoc]

theorem duplicateAddress_some {b : Bank} {sp o : SpeakerNo} (h : b.Duplicate sp o)
    (least : ∀ c, b.Duplicate sp c → o ≤ c) :
    duplicateAddress b sp =
      some { reason := 3, subject := sp.val, payload := [f1 o.val, f2 (b.speaker o).address.toNat] } := by
  have present : (b.speaker sp).present = true := h.2.1
  unfold duplicateAddress
  rw [if_pos present, find?_first allSpeakers_ascending (mem_allSpeakers o) ((Bank.duplicate_iff present).mpr h)
    fun c _ hc => least c ((Bank.duplicate_iff present).mp hc)]

theorem duplicateAddress_none {b : Bank} {sp : SpeakerNo} (h : ∀ o, ¬ b.Duplicate sp o) :
    duplicateAddress b sp = none := by
  unfold duplicateAddress
  split
  · rename_i present
    rw [List.find?_eq_none.mpr fun o _ ho => h o ((Bank.duplicate_iff present).mp ho)]
  · rfl

/-! ### ABSENT_MEMBER -/

/-- A present OVERLAY zone names a speaker that is absent. -/
def Bank.AbsentMember (b : Bank) (z : ZoneNo) (sp : SpeakerNo) : Prop :=
  (b.zone z).present = true ∧ (b.zone z).kind = .overlay
    ∧ (b.zone z).members.getLsbD sp.val = true ∧ (b.speaker sp).present = false

theorem mem_membersOf {set : BitVec 24} {sp : SpeakerNo} : sp ∈ membersOf set ↔ set.getLsbD sp.val = true := by
  unfold membersOf
  rw [List.mem_filter]
  exact and_iff_right (mem_allSpeakers sp)

theorem membersOf_ascending (set : BitVec 24) : (membersOf set).Pairwise (· < ·) :=
  allSpeakers_ascending.filter _

theorem absentMember_some {b : Bank} {z : ZoneNo} {sp : SpeakerNo} (h : b.AbsentMember z sp)
    (least : ∀ o, b.AbsentMember z o → sp ≤ o) :
    absentMember b z = some { reason := 4, subject := z.val, payload := [f1 sp.val] } := by
  obtain ⟨present, overlay, member, absent⟩ := h
  unfold absentMember
  rw [if_pos ⟨present, overlay⟩,
    find?_first (membersOf_ascending _) (mem_membersOf.mpr member) (by simpa using absent)
      fun o ho gone => least o ⟨present, overlay, mem_membersOf.mp ho, by simpa using gone⟩]

theorem absentMember_none {b : Bank} {z : ZoneNo} (h : ∀ sp, ¬ b.AbsentMember z sp) : absentMember b z = none := by
  unfold absentMember
  split
  · rename_i overlay
    rw [List.find?_eq_none.mpr fun sp member gone =>
      h sp ⟨overlay.1, overlay.2, mem_membersOf.mp member, by simpa using gone⟩]
  · rfl

/-! ### The order of Table 38 -/

section
variable {s : State}

theorem streamsShared_none (h : ∀ st z y, ¬ s.plan.staged.Shared st z y) :
    allStreams.findSome? (streamShared s.plan.staged) = none :=
  List.findSome?_eq_none_iff.mpr fun st _ => streamShared_none (h st)

theorem zonesBusy_none (h : ∀ z, ¬ s.Busy z) : allZones.findSome? (zoneBusy s) = none :=
  List.findSome?_eq_none_iff.mpr fun z _ => zoneBusy_none (h z)

theorem badMembers_none (h : ∀ sp z, ¬ s.plan.staged.BadMember sp z) :
    allSpeakers.findSome? (badMember s.plan.staged) = none :=
  List.findSome?_eq_none_iff.mpr fun sp _ => badMember_none (h sp)

theorem duplicates_none (h : ∀ sp o, ¬ s.plan.staged.Duplicate sp o) :
    allSpeakers.findSome? (duplicateAddress s.plan.staged) = none :=
  List.findSome?_eq_none_iff.mpr fun sp _ => duplicateAddress_none (h sp)

theorem absentMembers_none (h : ∀ z sp, ¬ s.plan.staged.AbsentMember z sp) :
    allZones.findSome? (absentMember s.plan.staged) = none :=
  List.findSome?_eq_none_iff.mpr fun z _ => absentMember_none (h z)

theorem validateSwap_shared {st : StreamNo} {z y : ZoneNo} (h : s.plan.staged.Shared st z y)
    (least : ∀ st' z' y', s.plan.staged.Shared st' z' y' →
      st ≤ st' ∧ (st' = st → z ≤ z' ∧ (z' = z → y ≤ y'))) :
    validateSwap s = some { reason := 0, subject := st.val, payload := [f1 z.val, f1 y.val] } := by
  have found := findSome?_first allStreams_ascending (mem_allStreams st)
    (streamShared_some h fun z' y' h' => (least st z' y' h').2 rfl)
    fun o _ lt => streamShared_none fun z' y' h' => absurd lt (not_lt.mpr (least o z' y' h').1)
  rw [validateSwap, found]
  rfl

variable (unshared : ∀ st z y, ¬ s.plan.staged.Shared st z y)
include unshared

theorem validateSwap_busy {z : ZoneNo} (h : s.Busy z) (least : ∀ y, s.Busy y → z ≤ y) :
    validateSwap s = some { reason := 1, subject := z.val, payload := [f1 (s.zone z).state.code] } := by
  have found := findSome?_first allZones_ascending (mem_allZones z) (zoneBusy_some h)
    fun y _ lt => zoneBusy_none fun h' => absurd lt (not_lt.mpr (least y h'))
  rw [validateSwap, streamsShared_none unshared, found]
  rfl

variable (free : ∀ z, ¬ s.Busy z)
include free

theorem validateSwap_badMember {sp : SpeakerNo} {z : ZoneNo} (h : s.plan.staged.BadMember sp z)
    (least : ∀ o y, s.plan.staged.BadMember o y → sp ≤ o) :
    validateSwap s = some { reason := 2, subject := sp.val, payload := [f1 z.val] } := by
  have found := findSome?_first allSpeakers_ascending (mem_allSpeakers sp) (badMember_some h)
    fun o _ lt => badMember_none fun y h' => absurd lt (not_lt.mpr (least o y h'))
  rw [validateSwap, streamsShared_none unshared, zonesBusy_none free, found]
  rfl

variable (placed : ∀ sp z, ¬ s.plan.staged.BadMember sp z)
include placed

theorem validateSwap_duplicate {sp o : SpeakerNo} (h : s.plan.staged.Duplicate sp o)
    (least : ∀ a b, s.plan.staged.Duplicate a b → sp ≤ a ∧ (a = sp → o ≤ b)) :
    validateSwap s = some
      { reason := 3, subject := sp.val
        payload := [f1 o.val, f2 (s.plan.staged.speaker o).address.toNat] } := by
  have found := findSome?_first allSpeakers_ascending (mem_allSpeakers sp)
    (duplicateAddress_some h fun b h' => (least sp b h').2 rfl)
    fun a _ lt => duplicateAddress_none fun b h' => absurd lt (not_lt.mpr (least a b h').1)
  rw [validateSwap, streamsShared_none unshared, zonesBusy_none free, badMembers_none placed, found]
  rfl

variable (distinct : ∀ sp o, ¬ s.plan.staged.Duplicate sp o)
include distinct

theorem validateSwap_absentMember {z : ZoneNo} {sp : SpeakerNo} (h : s.plan.staged.AbsentMember z sp)
    (least : ∀ y o, s.plan.staged.AbsentMember y o → z ≤ y ∧ (y = z → sp ≤ o)) :
    validateSwap s = some { reason := 4, subject := z.val, payload := [f1 sp.val] } := by
  have found := findSome?_first allZones_ascending (mem_allZones z)
    (absentMember_some h fun o h' => (least z o h').2 rfl)
    fun y _ lt => absentMember_none fun o h' => absurd lt (not_lt.mpr (least y o h').1)
  rw [validateSwap, streamsShared_none unshared, zonesBusy_none free, badMembers_none placed,
    duplicates_none distinct, found]
  rfl

theorem validateSwap_none (whole : ∀ z sp, ¬ s.plan.staged.AbsentMember z sp) : validateSwap s = none := by
  rw [validateSwap, streamsShared_none unshared, zonesBusy_none free, badMembers_none placed,
    duplicates_none distinct, absentMembers_none whole]
  rfl

end

/-- The swap taken from the agenda. -/
def State.swapOpened (s : State) : State := s.modAgenda fun a => { a with swap := false, swapTaken := true }

theorem takeSwap_refused {s : State} {r : SwapRefusal} (h : validateSwap s = some r) :
    takeSwap s = refuseSwap r s.swapOpened := by
  have validated : validateSwap s.swapOpened = some r := h
  unfold State.swapOpened at validated ⊢
  unfold takeSwap
  simp only [validated]

theorem takeSwap_completed {s : State} (h : validateSwap s = none) :
    takeSwap s = noticeSwap s.plan.active (exchangeBanks s.swapOpened) := by
  have validated : validateSwap s.swapOpened = none := h
  unfold State.swapOpened at validated ⊢
  unfold takeSwap
  simp only [validated]
  rfl

end Sys2Proof.Machine
end

section
/-! The notices of a swap that reach the speakers (R100 to R102): each as one write, and all of them together. -/

namespace Sys2Proof.Machine

open Sys2Proof

/-! ### A visit to each place of a table -/

/-- Where each visit writes its own place alone and keeps `R`, a place visited once is as its own visit leaves it. -/
theorem forEach_place {α β : Type} [DecidableEq α] (get : State → α → β) (f : α → State → State)
    (R : State → Prop) (keep : ∀ a u, R u → R (f a u))
    (other : ∀ a b u, R u → a ≠ b → get (f a u) b = get u b) (b : α) :
    ∀ (l : List α) (s : State), l.Nodup → b ∈ l → R s →
      ∃ u, R u ∧ get u b = get s b ∧ get (s.forEach l f) b = get (f b u) b := by
  have unvisited : ∀ (l : List α) (s : State), b ∉ l → R s → get (s.forEach l f) b = get s b := by
    intro l
    induction l with
    | nil => exact fun s _ _ => rfl
    | cons a l ih =>
      intro s apart h
      obtain ⟨first, rest⟩ := not_or.mp (mt List.mem_cons.mpr apart)
      exact (ih (f a s) rest (keep a s h)).trans (other a b s h (Ne.symm first))
  intro l
  induction l with
  | nil => exact fun s _ member => (List.not_mem_nil member).elim
  | cons a l ih =>
    intro s once member h
    obtain ⟨apart, once⟩ := List.nodup_cons.mp once
    rw [State.forEach_cons]
    by_cases here : a = b
    · subst here
      exact ⟨s, h, rfl, unvisited l _ apart (keep a s h)⟩
    · have later : b ∈ l := (List.mem_cons.mp member).resolve_left (Ne.symm here)
      obtain ⟨u, kept, before, after⟩ := ih (f a s) once later (keep a s h)
      exact ⟨u, kept, before.trans (other a b s h here), after⟩

/-! ### What a speaker is -/

/-- What the part holds of one speaker. -/
structure SpeakerPlace where
  accessed : Bool
  stack : List CellNo
  entry : TrackerEntry
  run : SpeakerRun

def State.place (s : State) (sp : SpeakerNo) : SpeakerPlace :=
  { accessed := s.accessedFlag sp, stack := s.claimStack sp, entry := s.entry (speakerEntry sp)
    run := s.speaker sp }

/-- One speaker's places written. -/
def State.putPlace (s : State) (sp : SpeakerNo) (p : SpeakerPlace) : State :=
  { s with
    plan := { s.plan with accessed := tblSet s.plan.accessed sp p.accessed }
    overlay := { s.overlay with claimStacks := tblSet s.overlay.claimStacks sp p.stack }
    tracker := { s.tracker with entries := tblSet s.tracker.entries (speakerEntry sp) p.entry }
    playout := { s.playout with speakers := tblSet s.playout.speakers sp p.run } }

theorem speakerEntry_injective {a b : SpeakerNo} (h : speakerEntry a = speakerEntry b) : a = b :=
  Fin.ext (congrArg (fun e : EntryNo => e.val) h)

theorem speakerEntry_ne_streamEntry (sp : SpeakerNo) (st : StreamNo) : speakerEntry sp ≠ streamEntry st := by
  intro h
  have : sp.val = 24 + st.val := congrArg (fun e : EntryNo => e.val) h
  omega

theorem State.place_putPlace (s : State) (a b : SpeakerNo) (p : SpeakerPlace) :
    (s.putPlace a p).place b = if a = b then p else s.place b := by
  by_cases same : a = b
  · subst same
    simp [State.place, State.putPlace, State.accessedFlag, State.claimStack, State.entry, State.speaker]
  · have apart : speakerEntry a ≠ speakerEntry b := fun h => same (speakerEntry_injective h)
    simp [State.place, State.putPlace, State.accessedFlag, State.claimStack, State.entry, State.speaker,
      tblGet_tblSet, same, apart]

theorem tblSet_get {α : Type} {n : Nat} (t : Vector α n) (i : Fin n) : tblSet t i (tblGet t i) = t := by
  refine tbl_ext fun o => ?_
  rw [tblGet_tblSet]
  split
  · subst o
    rfl
  · rfl

/-! ### The notices, each as one write -/

/-- What a swap leaves a speaker that it removes (R100, R148). -/
def SpeakerPlace.removed (p : SpeakerPlace) (role : Role) (limit : Nat) : SpeakerPlace :=
  { accessed := false, stack := [], entry := { p.entry with state := .unlocked }
    run := { p.run with
      zone := none, role := role, horizon := limit - 1, rampPending := true, cuts := counted p.run.cuts 1 } }

/-- What a swap leaves a speaker that it readdresses (R101). -/
def SpeakerPlace.readdressed (p : SpeakerPlace) (zone : Option ZoneNo) (role : Role) (block : Nat) : SpeakerPlace :=
  { p with
    entry := { p.entry with state := .unlocked }
    run := { p.run with
      zone := zone, role := role, horizon := block, rampPending := true, cuts := counted p.run.cuts 1 } }

/-- The block at which a CUT takes hold (R130). -/
def State.cutLimit (s : State) : Nat := s.timeline.block + s.store.refillMargin

/-- The Air Link after a speaker's CUT at an address. -/
def State.cutAir (s : State) (sp : SpeakerNo) (address : AirAddress) : AirLink :=
  (handCut sp address (s.stamp sp s.cutLimit) s.cutLimit s).air

/-- A speaker without claims, its cells released (R148). -/
def State.unclaimed (s : State) (sp : SpeakerNo) : State :=
  { s with
    store := s.store.released (s.claimStack sp)
    overlay := { s.overlay with claimStacks := tblSet s.overlay.claimStacks sp [] } }

theorem removeClaims_eq (sp : SpeakerNo) (s : State) : removeClaims sp s = s.unclaimed sp := by
  rw [removeClaims, releaseCells_eq]
  rfl

theorem cutAir_unclaimed (s : State) (sp : SpeakerNo) (address : AirAddress) :
    (s.unclaimed sp).cutAir sp address = s.cutAir sp address := by
  have handed := handCut_reads sp address (s.stamp sp s.cutLimit) s.cutLimit (s.unclaimed sp) s ⟨rfl, rfl, rfl⟩
  show (handCut sp address (s.stamp sp s.cutLimit) s.cutLimit (s.unclaimed sp)).air = _
  rw [handed]
  rfl

theorem cutAt_withSpeakers (sp : SpeakerNo) (address : AirAddress) (s : State) :
    cutAt sp address s =
      s.withSpeakers (s.cutAir sp address) (tblSet s.playout.speakers sp { s.speaker sp with
        horizon := s.cutLimit - 1, rampPending := true, cuts := counted (s.speaker sp).cuts 1 }) :=
  cutAt_eq sp address s

theorem modSpeaker_withSpeakers (sp : SpeakerNo) (s : State) (air : AirLink) (t : Vector SpeakerRun 24)
    (r : SpeakerRun) (f : SpeakerRun → SpeakerRun) :
    (s.withSpeakers air (tblSet t sp r)).modSpeaker sp f = s.withSpeakers air (tblSet t sp (f r)) := by
  unfold State.modSpeaker State.modPlayout State.withSpeakers
  simp only [tblMod, tblGet_tblSet_same, tblSet_tblSet]

theorem recompute_withSpeakers (sp : SpeakerNo) (s : State) (air : AirLink) (t : Vector SpeakerRun 24)
    (r : SpeakerRun) :
    recompute sp (s.withSpeakers air (tblSet t sp r)) =
      s.withSpeakers air (tblSet t sp { r with zone := s.effectiveZone sp, role := s.effectiveRole sp }) :=
  modSpeaker_withSpeakers sp s air t r _

theorem effectiveZone_absent {s : State} {sp : SpeakerNo} (absent : (s.activeSpeaker sp).present = false) :
    s.effectiveZone sp = none := if_neg (by rw [absent]; decide)

theorem effectiveRole_unclaimed (s : State) (sp : SpeakerNo) :
    (s.unclaimed sp).effectiveRole sp = (s.activeSpeaker sp).role := by
  have empty : (s.unclaimed sp).claimStack sp = [] := tblGet_tblSet_same _ _ _
  rw [State.effectiveRole, State.topClaim, empty, List.head?_nil, Option.bind_none]
  rfl

theorem speakerRemoved_eq (old : Bank) (sp : SpeakerNo) (s : State)
    (absent : (s.activeSpeaker sp).present = false) :
    speakerRemoved old sp s =
      { s.putPlace sp ((s.place sp).removed (s.activeSpeaker sp).role s.cutLimit) with
        store := s.store.released (s.claimStack sp)
        air := s.cutAir sp (old.speaker sp).address } := by
  have zone : (s.unclaimed sp).effectiveZone sp = none :=
    effectiveZone_absent (s := s.unclaimed sp) absent
  unfold speakerRemoved
  simp only [removeClaims_eq, cutAt_withSpeakers, cutAir_unclaimed, recompute_withSpeakers, zone,
    effectiveRole_unclaimed]
  rfl

/-! ### A join (R129) -/

/-- What sends leave of a speaker: its zone, its role and its CUTs. -/
structure SpeakerRun.Sends (r r' : SpeakerRun) : Prop where
  zone : r'.zone = r.zone
  role : r'.role = r.role
  cuts : r'.cuts = r.cuts

theorem sendEntry_speaker (kind : AudioKind) (z : ZoneNo) (sp : SpeakerNo) (e : IssueEntry) (s : State)
    (b : SpeakerNo) :
    (sendEntry kind z sp e s).speaker b = if sp = b then (s.speaker sp).afterSend kind z e else s.speaker b := by
  rw [sendEntry, handAudio_air]
  exact State.speaker_modSpeaker _ _ _ _

theorem join_speaker (sp : SpeakerNo) (s : State) :
    (s.speaker sp).Sends ((join sp s).speaker sp)
      ∧ ∀ b, sp ≠ b → (join sp s).speaker b = s.speaker b := by
  let Joined (t : State) : Prop := (s.speaker sp).Sends (t.speaker sp) ∧ ∀ b, sp ≠ b → t.speaker b = s.speaker b
  have ramp : Joined (setRampPending sp s) := by
    refine ⟨?_, fun b other => ?_⟩
    · rw [setRampPending, State.speaker_modSpeaker, if_pos rfl]
      exact ⟨rfl, rfl, rfl⟩
    · rw [setRampPending, State.speaker_modSpeaker, if_neg other]
  have send (z : ZoneNo) (e : IssueEntry) (t : State) (h : Joined t) :
      Joined (sendEntry .backfill z sp e t) := by
    obtain ⟨⟨zone, role, cuts⟩, others⟩ := h
    refine ⟨?_, fun b other => ?_⟩
    · rw [sendEntry_speaker, if_pos rfl]
      exact ⟨zone, role, cuts⟩
    · rw [sendEntry_speaker, if_neg other, others b other]
  show Joined (join sp s)
  unfold join
  split
  · exact ramp
  · split
    · exact State.forEach_keeps _ _ (fun e t h => send _ e t h) _ ramp
    · exact ramp

theorem Only.place_eq {l : List Part} {s t : State} (h : Only l s t)
    (parts : [Part.accessed, .overlay, .entries, .speakers].all (fun p => !l.contains p) = true := by decide)
    (sp : SpeakerNo) : t.place sp = s.place sp := by
  simp only [List.all_cons, List.all_nil, Bool.and_true, Bool.and_eq_true, Bool.not_eq_true'] at parts
  obtain ⟨accessed, overlay, entries, speakers⟩ := parts
  have accessed : t.plan.accessed = s.plan.accessed := h.same .accessed accessed
  have overlay : t.overlay = s.overlay := h.same .overlay overlay
  have entries : t.tracker.entries = s.tracker.entries := h.same .entries entries
  have speakers : t.playout.speakers = s.playout.speakers := h.same .speakers speakers
  unfold State.place State.accessedFlag State.claimStack State.entry State.speaker
  rw [accessed, overlay, entries, speakers]

/-- An operation on speakers' runs and the Air Link alone. -/
theorem Only.place_run {s t : State} (h : Only [.speakers, .air] s t) (sp : SpeakerNo) :
    t.place sp = { s.place sp with run := t.speaker sp } := by
  have accessed : t.plan.accessed = s.plan.accessed := h.same .accessed (by decide)
  have overlay : t.overlay = s.overlay := h.overlay_eq
  have entries : t.tracker.entries = s.tracker.entries := h.same .entries (by decide)
  unfold State.place State.accessedFlag State.claimStack State.entry
  rw [accessed, overlay, entries]

/-- A presence notice of a speaker that is sent nothing (R131). -/
theorem presenceNotice_unheard (sp : SpeakerNo) (s : State) (air : AirLink) (t : Vector SpeakerRun 24)
    (r : SpeakerRun) (deaf : ¬ s.hears sp) :
    presenceNotice sp (s.withSpeakers air (tblSet t sp r)) =
      s.withSpeakers air (tblSet t sp { r with
        horizon := s.timeline.block, zone := s.effectiveZone sp, role := s.effectiveRole sp
        rampPending := true }) := by
  rw [presenceNotice, resyncNotice, modSpeaker_withSpeakers, recompute_withSpeakers]
  exact (join_unheard sp (s.withSpeakers air _) deaf).trans (modSpeaker_withSpeakers sp s air t _ _)

theorem unlocked_deaf (s : State) (sp : SpeakerNo) : ¬ (removeEntry sp s).hears sp := by
  have entry : (removeEntry sp s).entry (speakerEntry sp) =
      { s.entry (speakerEntry sp) with state := .unlocked } := by
    rw [removeEntry, State.entry_modEntry, if_pos rfl]
  unfold State.hears
  rw [entry]
  simp

theorem speakerReaddressed_eq (old : Bank) (sp : SpeakerNo) (s : State) :
    speakerReaddressed old sp s =
      { s.putPlace sp ((s.place sp).readdressed (s.effectiveZone sp) (s.effectiveRole sp) s.timeline.block) with
        air := s.cutAir sp (old.speaker sp).address } := by
  have swapped (air : AirLink) (t : Vector SpeakerRun 24) :
      removeEntry sp (s.withSpeakers air t) = (removeEntry sp s).withSpeakers air t := rfl
  rw [speakerReaddressed, cutAt_withSpeakers, swapped, presenceNotice_unheard _ _ _ _ _ (unlocked_deaf s sp)]
  unfold State.putPlace State.place State.accessedFlag State.claimStack
  simp only [SpeakerPlace.readdressed, tblSet_get]
  rfl

end Sys2Proof.Machine
end

section
/-! What the exchange of two banks says of a speaker, and what its notice then does (R100 to R102). -/

namespace Sys2Proof.Machine

open Sys2Proof

/-! ### What an exchange says of a speaker -/

abbrev Removes (old new : Bank) (sp : SpeakerNo) : Prop :=
  (old.speaker sp).present = true ∧ (new.speaker sp).present = false

abbrev Arrives (old new : Bank) (sp : SpeakerNo) : Prop :=
  (old.speaker sp).present = false ∧ (new.speaker sp).present = true

abbrev Readdresses (old new : Bank) (sp : SpeakerNo) : Prop :=
  ((old.speaker sp).present = true ∧ (new.speaker sp).present = true)
    ∧ (old.speaker sp).address ≠ (new.speaker sp).address

abbrev Replans (old new : Bank) (sp : SpeakerNo) : Prop :=
  ((old.speaker sp).present = true ∧ (new.speaker sp).present = true)
    ∧ (old.speaker sp).plannedZone ≠ (new.speaker sp).plannedZone

section
variable {old new : Bank} {sp : SpeakerNo}

theorem not_removes_of_present (present : (new.speaker sp).present = true) : ¬ Removes old new sp :=
  fun h => Bool.false_ne_true (h.2.symm.trans present)

theorem not_arrives_of_present (present : (old.speaker sp).present = true) : ¬ Arrives old new sp :=
  fun h => Bool.false_ne_true (h.1.symm.trans present)

theorem Arrives.not_readdresses (h : Arrives old new sp) : ¬ Readdresses old new sp :=
  fun k => Bool.false_ne_true (h.1.symm.trans k.1.1)

theorem Arrives.not_replans (h : Arrives old new sp) : ¬ Replans old new sp :=
  fun k => Bool.false_ne_true (h.1.symm.trans k.1.1)

theorem Removes.not_readdresses (h : Removes old new sp) : ¬ Readdresses old new sp :=
  fun k => Bool.false_ne_true (h.2.symm.trans k.1.2)

end

/-! ### A zone followed (R126) -/

theorem State.withSpeakers_self (s : State) (sp : SpeakerNo) :
    s.withSpeakers s.air (tblSet s.playout.speakers sp (s.speaker sp)) = s := by
  unfold State.withSpeakers State.speaker
  rw [tblSet_get]

theorem recompute_eq (sp : SpeakerNo) (s : State) :
    recompute sp s =
      s.withSpeakers s.air (tblSet s.playout.speakers sp
        { s.speaker sp with zone := s.effectiveZone sp, role := s.effectiveRole sp }) := by
  have h := recompute_withSpeakers sp s s.air s.playout.speakers (s.speaker sp)
  rwa [s.withSpeakers_self] at h

/-- A speaker that has its effective zone and role already is left as it is. -/
theorem refresh_settled {sp : SpeakerNo} {s : State} (zone : (s.speaker sp).zone = s.effectiveZone sp)
    (role : (s.speaker sp).role = s.effectiveRole sp) : refresh sp s = s := by
  have same : recompute sp s = s := by
    rw [recompute_eq, ← zone, ← role]
    exact s.withSpeakers_self sp
  unfold refresh
  exact (if_neg fun h => h.1 zone.symm).trans same

/-- One speaker's zone and role followed, what is sent besides aside. -/
structure Followed (s t : State) (sp : SpeakerNo) (r : SpeakerRun) : Prop where
  only : Only [.speakers, .air] s t
  own : SpeakerRun.Sends { r with zone := s.effectiveZone sp, role := s.effectiveRole sp } (t.speaker sp)
  others : ∀ b, sp ≠ b → t.speaker b = s.speaker b

theorem recompute_speaker (sp b : SpeakerNo) (s : State) :
    (recompute sp s).speaker b =
      if sp = b then { s.speaker sp with zone := s.effectiveZone sp, role := s.effectiveRole sp }
      else s.speaker b := State.speaker_modSpeaker _ _ _ _

theorem resyncNotice_speaker (sp b : SpeakerNo) (s : State) :
    (resyncNotice sp s).speaker b =
      if sp = b then { s.speaker sp with horizon := s.timeline.block } else s.speaker b :=
  State.speaker_modSpeaker _ _ _ _

theorem refresh_followed (sp : SpeakerNo) (s : State) : Followed s (refresh sp s) sp (s.speaker sp) := by
  refine ⟨Only.refresh sp s, ?_, fun b other => ?_⟩ <;> unfold refresh <;> simp only []
  · split
    · have joined := (join_speaker sp (recompute sp s)).1
      rwa [recompute_speaker, if_pos rfl] at joined
    · rw [recompute_speaker, if_pos rfl]
      exact ⟨rfl, rfl, rfl⟩
  · split
    · rw [(join_speaker sp (recompute sp s)).2 b other, recompute_speaker, if_neg other]
    · rw [recompute_speaker, if_neg other]

theorem presenceNotice_followed (sp : SpeakerNo) (s : State) :
    Followed s (presenceNotice sp s) sp (s.speaker sp) := by
  refine ⟨Only.presenceNotice sp s, ?_, fun b other => ?_⟩ <;> unfold presenceNotice
  · obtain ⟨zone, role, cuts⟩ := (join_speaker sp (recompute sp (resyncNotice sp s))).1
    rw [recompute_speaker, if_pos rfl] at zone role cuts
    rw [resyncNotice_speaker, if_pos rfl] at cuts
    exact ⟨zone, role, cuts⟩
  · rw [(join_speaker sp (recompute sp (resyncNotice sp s))).2 b other, recompute_speaker, if_neg other,
      resyncNotice_speaker, if_neg other]

/-- To a speaker that is sent nothing, neither notice sends (R127). -/
theorem join_air {sp : SpeakerNo} {s : State} (deaf : ¬ s.hears sp) : (join sp s).air = s.air := by
  rw [join_unheard sp s deaf]
  rfl

theorem refresh_air {sp : SpeakerNo} {s : State} (deaf : ¬ s.hears sp) : (refresh sp s).air = s.air := by
  unfold refresh
  simp only []
  split
  · exact join_air (s := recompute sp s) deaf
  · rfl

theorem presenceNotice_air {sp : SpeakerNo} {s : State} (deaf : ¬ s.hears sp) :
    (presenceNotice sp s).air = s.air := join_air (s := recompute sp (resyncNotice sp s)) deaf

theorem presenceNotice_deaf {sp : SpeakerNo} {s : State} (deaf : ¬ s.hears sp) :
    (presenceNotice sp s).speaker sp =
      { s.speaker sp with
        horizon := s.timeline.block, zone := s.effectiveZone sp, role := s.effectiveRole sp
        rampPending := true } := by
  have h := presenceNotice_unheard sp s s.air s.playout.speakers (s.speaker sp) deaf
  rw [s.withSpeakers_self] at h
  rw [h]
  exact tblGet_tblSet_same _ _ _

/-! ### The cases of a notice -/

/-- What a notice does, by what the exchange says of the speaker. -/
inductive SpeakerNoticeCase (old : Bank) (sp : SpeakerNo) (s t : State) : Prop
  | removed (h : Removes old s.plan.active sp) (done : t = speakerRemoved old sp s)
  | readdressed (h : Readdresses old s.plan.active sp) (done : t = speakerReaddressed old sp s)
  | replanned (h : Replans old s.plan.active sp) (kept : ¬ Readdresses old s.plan.active sp)
      (done : t = refresh sp s)
  | arrived (h : Arrives old s.plan.active sp) (done : t = presenceNotice sp s)
  | left (removes : ¬ Removes old s.plan.active sp) (readdresses : ¬ Readdresses old s.plan.active sp)
      (replans : ¬ Replans old s.plan.active sp) (arrives : ¬ Arrives old s.plan.active sp) (done : t = s)

theorem readdressed_place (old : Bank) (sp : SpeakerNo) (s : State) (b : SpeakerNo) :
    (speakerReaddressed old sp s).place b =
      if sp = b then (s.place sp).readdressed (s.effectiveZone sp) (s.effectiveRole sp) s.timeline.block
      else s.place b := by
  rw [speakerReaddressed_eq]
  exact s.place_putPlace sp b _

theorem readdressed_settled (old : Bank) (sp : SpeakerNo) (s : State) :
    refresh sp (speakerReaddressed old sp s) = speakerReaddressed old sp s := by
  have place := readdressed_place old sp s sp
  rw [if_pos rfl] at place
  have stack : (speakerReaddressed old sp s).claimStack sp = s.claimStack sp := congrArg SpeakerPlace.stack place
  have run := congrArg SpeakerPlace.run place
  have plan : (speakerReaddressed old sp s).activeSpeaker sp = s.activeSpeaker sp := by
    rw [speakerReaddressed_eq]
    rfl
  have cells : (speakerReaddressed old sp s).claimCell = s.claimCell := by
    rw [speakerReaddressed_eq]
    rfl
  have top : (speakerReaddressed old sp s).topClaim sp = s.topClaim sp := by
    rw [State.topClaim, stack, cells]
    rfl
  refine refresh_settled ?_ ?_
  · rw [State.effectiveZone, top, plan]
    exact congrArg SpeakerRun.zone run
  · rw [State.effectiveRole, top, plan]
    exact congrArg SpeakerRun.role run

theorem speakerNotice_case (old : Bank) (sp : SpeakerNo) (s : State) :
    SpeakerNoticeCase old sp s (speakerNotice old sp s) := by
  have now : s.activeSpeaker sp = s.plan.active.speaker sp := rfl
  unfold speakerNotice
  simp only [now]
  by_cases was : (old.speaker sp).present = true <;> by_cases is : (s.plan.active.speaker sp).present = true
  · rw [if_pos was, if_pos is]
    by_cases address : (old.speaker sp).address ≠ (s.plan.active.speaker sp).address
    · refine .readdressed ⟨⟨was, is⟩, address⟩ ?_
      rw [if_pos address]
      split
      · exact readdressed_settled old sp s
      · rfl
    · rw [if_neg address]
      by_cases plan : (old.speaker sp).plannedZone ≠ (s.plan.active.speaker sp).plannedZone
      · exact .replanned ⟨⟨was, is⟩, plan⟩ (fun h => address h.2) (if_pos plan)
      · exact .left (not_removes_of_present is) (fun h => address h.2) (fun h => plan h.2)
          (not_arrives_of_present was) (if_neg plan)
  · rw [if_pos was, if_neg is]
    exact .removed ⟨was, Bool.eq_false_of_not_eq_true is⟩ rfl
  · rw [if_neg was, if_pos is]
    exact .arrived ⟨Bool.eq_false_of_not_eq_true was, is⟩ rfl
  · rw [if_neg was, if_neg is]
    exact .left (fun h => was h.1) (fun h => was h.1.1) (fun h => was h.1.1) (fun h => is h.2) rfl

/-! ### What a notice writes -/

theorem removed_place (old : Bank) (sp : SpeakerNo) (s : State) (absent : (s.activeSpeaker sp).present = false)
    (b : SpeakerNo) :
    (speakerRemoved old sp s).place b =
      if sp = b then (s.place sp).removed (s.activeSpeaker sp).role s.cutLimit else s.place b := by
  rw [speakerRemoved_eq old sp s absent]
  exact s.place_putPlace sp b _

theorem Followed.place {s t : State} {sp : SpeakerNo} {r : SpeakerRun} (h : Followed s t sp r) {b : SpeakerNo}
    (other : sp ≠ b) : t.place b = s.place b := by
  rw [h.only.place_run b, h.others b other]
  rfl

/-- A notice writes its own speaker alone. -/
theorem speakerNotice_other (old : Bank) {a b : SpeakerNo} (s : State) (other : a ≠ b) :
    (speakerNotice old a s).place b = s.place b := by
  obtain ⟨h, done⟩ | ⟨h, done⟩ | ⟨h, kept, done⟩ | ⟨h, done⟩ | ⟨_, _, _, _, done⟩ := speakerNotice_case old a s
    <;> rw [done]
  · rw [removed_place old a s h.2, if_neg other]
  · rw [readdressed_place, if_neg other]
  · exact (refresh_followed a s).place other
  · exact (presenceNotice_followed a s).place other

/-- The claims' cells are released where the speaker is removed (R100, R148). -/
theorem speakerNotice_store (old : Bank) (sp : SpeakerNo) (s : State) :
    (speakerNotice old sp s).store =
      if Removes old s.plan.active sp then s.store.released (s.claimStack sp) else s.store := by
  obtain ⟨h, done⟩ | ⟨h, done⟩ | ⟨h, kept, done⟩ | ⟨h, done⟩ | ⟨h, _, _, _, done⟩ := speakerNotice_case old sp s
    <;> rw [done]
  · rw [speakerRemoved_eq old sp s h.2, if_pos h]
  · rw [speakerReaddressed_eq, if_neg (not_removes_of_present h.1.2)]
    rfl
  · rw [if_neg (not_removes_of_present h.1.2)]
    exact (Only.refresh sp s).store_eq
  · rw [if_neg (not_removes_of_present h.2)]
    exact (Only.presenceNotice sp s).store_eq
  · rw [if_neg h]

/-- A CUT is handed over where the speaker is removed or readdressed, and else nothing to a speaker that is sent
nothing (R100, R101, R127). -/
theorem speakerNotice_air (old : Bank) (sp : SpeakerNo) (s : State)
    (deaf : Arrives old s.plan.active sp ∨ Replans old s.plan.active sp → ¬ s.hears sp) :
    (speakerNotice old sp s).air =
      if Removes old s.plan.active sp ∨ Readdresses old s.plan.active sp then
        s.cutAir sp (old.speaker sp).address
      else s.air := by
  obtain ⟨h, done⟩ | ⟨h, done⟩ | ⟨h, kept, done⟩ | ⟨h, done⟩ | ⟨h, k, _, _, done⟩ := speakerNotice_case old sp s
    <;> rw [done]
  · rw [speakerRemoved_eq old sp s h.2, if_pos (.inl h)]
  · rw [speakerReaddressed_eq, if_pos (.inr h)]
  · rw [if_neg fun k => k.elim (not_removes_of_present h.1.2) kept]
    exact refresh_air (deaf (.inr h))
  · rw [if_neg fun k => k.elim (not_removes_of_present h.2) h.not_readdresses]
    exact presenceNotice_air (deaf (.inl h))
  · rw [if_neg fun x => x.elim h k]

end Sys2Proof.Machine
end

section
/-! All the speakers' notices of a swap, one after another. -/

namespace Sys2Proof.Machine

open Sys2Proof

/-! ### The state that the notices find -/

/-- `u` has the bank `new` active, and is `s` in what the speakers' notices read besides the speakers. -/
structure Swapping (new : Bank) (s u : State) : Prop where
  active : u.plan.active = new
  trims : u.plan.trims = s.plan.trims
  block : u.timeline.block = s.timeline.block
  margin : u.store.refillMargin = s.store.refillMargin
  cells : u.store.cells = s.store.cells

/-- What leaves the active bank, the trims, the clock and, but for releases, the store. -/
theorem Swapping.step {new : Bank} {s u v : State} {l : List Part} (h : Swapping new s u) (only : Only l u v)
    (store : ∃ released, v.store = u.store.released released) (active : l.contains .active = false := by decide)
    (trims : l.contains .trims = false := by decide) (clock : l.contains .clock = false := by decide) :
    Swapping new s v := by
  obtain ⟨released, store⟩ := store
  exact ⟨Eq.trans (only.same .active active) h.active, Eq.trans (only.same .trims trims) h.trims,
    (only.clock_eq clock).2.trans h.block,
    (congrArg CellStore.refillMargin store).trans h.margin, (congrArg CellStore.cells store).trans h.cells⟩

theorem released_self (st : CellStore) : ∃ cells, st = st.released cells := ⟨[], st.released_nil.symm⟩

theorem Swapping.speakerNotice {new : Bank} {s u : State} (h : Swapping new s u) (old : Bank) (sp : SpeakerNo) :
    Swapping new s (speakerNotice old sp u) := by
  refine h.step (Only.speakerNotice old sp u) ?_
  rw [speakerNotice_store]
  split
  · exact ⟨_, rfl⟩
  · exact released_self _

/-- The role and the zone that R126 gives a speaker in a bank, by the claims of `s`. -/
def State.roleIn (s : State) (new : Bank) (sp : SpeakerNo) : Role :=
  match s.topClaim sp with
  | some c => c.role
  | none => (new.speaker sp).role

def State.zoneIn (s : State) (new : Bank) (sp : SpeakerNo) : Option ZoneNo :=
  match s.topClaim sp with
  | some c => some c.zone
  | none => (new.speaker sp).plannedZone

/-- A speaker as its notice finds it: as it was, but for the role (R102). -/
def State.waiting (s : State) (new : Bank) (sp : SpeakerNo) : SpeakerPlace :=
  { s.place sp with run := { s.speaker sp with role := s.roleIn new sp } }

section
variable {new : Bank} {s u : State} {sp : SpeakerNo} (h : Swapping new s u)
include h

theorem Swapping.plan (sp : SpeakerNo) : u.activeSpeaker sp = new.speaker sp :=
  congrArg (fun b : Bank => b.speaker sp) h.active

theorem Swapping.claimCell : u.claimCell = s.claimCell := by
  funext c
  unfold State.claimCell State.cell
  rw [h.cells]

theorem Swapping.cutLimit : u.cutLimit = s.cutLimit := by
  rw [State.cutLimit, State.cutLimit, h.block, h.margin]

variable (stack : u.claimStack sp = s.claimStack sp)
include stack

theorem Swapping.topClaim : u.topClaim sp = s.topClaim sp := by
  rw [State.topClaim, State.topClaim, stack, h.claimCell]

theorem Swapping.effectiveRole : u.effectiveRole sp = s.roleIn new sp := by
  rw [State.effectiveRole, h.topClaim stack, h.plan]
  rfl

theorem Swapping.effectiveZone (present : (new.speaker sp).present = true) :
    u.effectiveZone sp = s.zoneIn new sp := by
  rw [State.effectiveZone, h.topClaim stack, h.plan, if_pos present]
  rfl

end

/-! ### What a swap leaves of a speaker -/

/-- What the swap of `old` for `new` at `s` leaves of a speaker in `t` (R100 to R102). -/
structure Noticed (old new : Bank) (s t : State) (sp : SpeakerNo) : Prop where
  accessed : t.accessedFlag sp = true ↔ s.accessedFlag sp = true ∧ ¬ Removes old new sp
  stack : t.claimStack sp = if Removes old new sp then [] else s.claimStack sp
  entry : t.entry (speakerEntry sp) =
    if Removes old new sp ∨ Readdresses old new sp then { s.entry (speakerEntry sp) with state := .unlocked }
    else s.entry (speakerEntry sp)
  zone : (t.speaker sp).zone =
    if Removes old new sp then none
    else if Arrives old new sp ∨ Readdresses old new sp ∨ Replans old new sp then s.zoneIn new sp
    else (s.speaker sp).zone
  role : (t.speaker sp).role = if Removes old new sp then (new.speaker sp).role else s.roleIn new sp
  removed : Removes old new sp → (t.speaker sp).horizon = s.cutLimit - 1
  joined : Readdresses old new sp ∨ (Arrives old new sp ∧ ¬ s.hears sp) →
    (t.speaker sp).horizon = s.timeline.block ∧ (t.speaker sp).rampPending = true
  cuts : (t.speaker sp).cuts =
    if Removes old new sp ∨ Readdresses old new sp then counted (s.speaker sp).cuts 1 else (s.speaker sp).cuts

/-- What is said of a speaker depends on its place alone. -/
theorem Noticed.congr {old new : Bank} {s u t : State} {sp : SpeakerNo} (h : Noticed old new s u sp)
    (place : t.place sp = u.place sp) : Noticed old new s t sp := by
  obtain ⟨accessed, stack, entry, zone, role, removed, joined, cuts⟩ := h
  have flag' : t.accessedFlag sp = u.accessedFlag sp := congrArg SpeakerPlace.accessed place
  have stack' : t.claimStack sp = u.claimStack sp := congrArg SpeakerPlace.stack place
  have entry' : t.entry (speakerEntry sp) = u.entry (speakerEntry sp) := congrArg SpeakerPlace.entry place
  have run' : t.speaker sp = u.speaker sp := congrArg SpeakerPlace.run place
  rw [← flag'] at accessed
  rw [← run'] at zone role removed joined cuts
  exact ⟨accessed, stack'.trans stack, entry'.trans entry, zone, role, removed, joined, cuts⟩

theorem waiting_stack {new : Bank} {s u : State} {sp : SpeakerNo} (place : u.place sp = s.waiting new sp) :
    u.claimStack sp = s.claimStack sp := congrArg SpeakerPlace.stack place

section
variable {old new : Bank} {s u t : State} {sp : SpeakerNo} (h : Swapping new s u)
  (place : u.place sp = s.waiting new sp)
include h place

theorem noticed_removed (rem : Removes old new sp) (done : t = speakerRemoved old sp u) :
    Noticed old new s t sp := by
  have after : t.place sp = (s.waiting new sp).removed (new.speaker sp).role s.cutLimit := by
    rw [done, removed_place old sp u (by rw [h.plan]; exact rem.2), if_pos rfl, place, h.plan, h.cutLimit]
  have run : t.speaker sp = ((s.waiting new sp).removed (new.speaker sp).role s.cutLimit).run :=
    congrArg SpeakerPlace.run after
  have accessed : t.accessedFlag sp = false := congrArg SpeakerPlace.accessed after
  have stack : t.claimStack sp = [] := congrArg SpeakerPlace.stack after
  have entry : t.entry (speakerEntry sp) = { s.entry (speakerEntry sp) with state := .unlocked } :=
    congrArg SpeakerPlace.entry after
  refine ⟨?_, ?_, ?_, ?_, ?_, fun _ => ?_, fun joins => ?_, ?_⟩
  · rw [accessed]
    exact ⟨fun x => (Bool.false_ne_true x).elim, fun x => (x.2 rem).elim⟩
  · rw [stack, if_pos rem]
  · rw [entry, if_pos (.inl rem)]
  · rw [run, if_pos rem]
    rfl
  · rw [run, if_pos rem]
    rfl
  · rw [run]
    rfl
  · exact joins.elim (fun x => (rem.not_readdresses x).elim)
      (fun x => (not_removes_of_present x.1.2 rem).elim)
  · rw [run, if_pos (.inl rem)]
    rfl

theorem noticed_readdressed (rea : Readdresses old new sp) (done : t = speakerReaddressed old sp u) :
    Noticed old new s t sp := by
  have stack := waiting_stack place
  have rem : ¬ Removes old new sp := not_removes_of_present rea.1.2
  have after : t.place sp = (s.waiting new sp).readdressed (s.zoneIn new sp) (s.roleIn new sp) s.timeline.block := by
    rw [done, readdressed_place, if_pos rfl, place, h.effectiveRole stack, h.effectiveZone stack rea.1.2, h.block]
  have run : t.speaker sp =
      ((s.waiting new sp).readdressed (s.zoneIn new sp) (s.roleIn new sp) s.timeline.block).run :=
    congrArg SpeakerPlace.run after
  have accessed : t.accessedFlag sp = s.accessedFlag sp := congrArg SpeakerPlace.accessed after
  have stack : t.claimStack sp = s.claimStack sp := congrArg SpeakerPlace.stack after
  have entry : t.entry (speakerEntry sp) = { s.entry (speakerEntry sp) with state := .unlocked } :=
    congrArg SpeakerPlace.entry after
  refine ⟨?_, ?_, ?_, ?_, ?_, fun x => (rem x).elim, fun _ => ?_, ?_⟩
  · rw [accessed]
    exact (and_iff_left rem).symm
  · rw [stack, if_neg rem]
  · rw [entry, if_pos (.inr rea)]
  · rw [run, if_neg rem, if_pos (.inr (.inl rea))]
    rfl
  · rw [run, if_neg rem]
    rfl
  · rw [run]
    exact ⟨rfl, rfl⟩
  · rw [run, if_pos (.inr rea)]
    rfl

/-- A speaker that stays and keeps its address, or arrives: its zone and role are followed. -/
theorem noticed_followed (present : (new.speaker sp).present = true) (rea : ¬ Readdresses old new sp)
    (moves : Arrives old new sp ∨ Replans old new sp) (followed : Followed u t sp (u.speaker sp))
    (joined : Arrives old new sp → ¬ u.hears sp →
      (t.speaker sp).horizon = u.timeline.block ∧ (t.speaker sp).rampPending = true) :
    Noticed old new s t sp := by
  have rem : ¬ Removes old new sp := not_removes_of_present present
  have after : t.place sp = { s.waiting new sp with run := t.speaker sp } := by
    rw [followed.only.place_run, place]
  have accessed : t.accessedFlag sp = s.accessedFlag sp := congrArg SpeakerPlace.accessed after
  have stack : t.claimStack sp = s.claimStack sp := congrArg SpeakerPlace.stack after
  have entry : t.entry (speakerEntry sp) = s.entry (speakerEntry sp) := congrArg SpeakerPlace.entry after
  have entry₀ : u.entry (speakerEntry sp) = s.entry (speakerEntry sp) := congrArg SpeakerPlace.entry place
  have stack₀ := waiting_stack place
  have run₀ : (u.speaker sp).cuts = (s.speaker sp).cuts := congrArg (fun p : SpeakerPlace => p.run.cuts) place
  have deaf : u.hears sp ↔ s.hears sp := by
    unfold State.hears
    rw [entry₀]
  obtain ⟨zone, role, cuts⟩ := followed.own
  refine ⟨?_, ?_, ?_, ?_, ?_, fun x => (rem x).elim, fun joins => ?_, ?_⟩
  · rw [accessed]
    exact (and_iff_left rem).symm
  · rw [stack, if_neg rem]
  · rw [entry, if_neg fun x => x.elim rem rea]
  · rw [zone, if_neg rem, if_pos (moves.imp id .inr)]
    exact h.effectiveZone stack₀ present
  · rw [role, if_neg rem]
    exact h.effectiveRole stack₀
  · obtain ⟨arr, silent⟩ := joins.resolve_left rea
    rw [← h.block]
    exact joined arr (mt deaf.mp silent)
  · rw [cuts, if_neg fun x => x.elim rem rea]
    exact run₀

theorem noticed_left (rem : ¬ Removes old new sp) (rea : ¬ Readdresses old new sp) (rep : ¬ Replans old new sp)
    (arr : ¬ Arrives old new sp) (done : t = u) : Noticed old new s t sp := by
  subst done
  have run : t.speaker sp = { s.speaker sp with role := s.roleIn new sp } := congrArg SpeakerPlace.run place
  have accessed : t.accessedFlag sp = s.accessedFlag sp := congrArg SpeakerPlace.accessed place
  have stack : t.claimStack sp = s.claimStack sp := congrArg SpeakerPlace.stack place
  have entry : t.entry (speakerEntry sp) = s.entry (speakerEntry sp) := congrArg SpeakerPlace.entry place
  refine ⟨?_, ?_, ?_, ?_, ?_, fun x => (rem x).elim, fun joins => (joins.elim rea fun x => arr x.1).elim, ?_⟩
  · rw [accessed]
    exact (and_iff_left rem).symm
  · rw [stack, if_neg rem]
  · rw [entry, if_neg fun x => x.elim rem rea]
  · rw [run, if_neg rem, if_neg fun x => x.elim arr fun x => x.elim rea rep]
  · rw [run, if_neg rem]
  · rw [run, if_neg fun x => x.elim rem rea]

/-- A notice whose speaker it finds as it was. -/
theorem speakerNotice_noticed : Noticed old new s (speakerNotice old sp u) sp := by
  have found := speakerNotice_case old sp u
  generalize speakerNotice old sp u = t at found
  obtain rfl := h.active
  obtain ⟨rem, done⟩ | ⟨rea, done⟩ | ⟨rep, kept, done⟩ | ⟨arr, done⟩ | ⟨rem, rea, rep, arr, done⟩ := found
  · exact noticed_removed h place rem done
  · exact noticed_readdressed h place rea done
  · exact noticed_followed h place rep.1.2 kept (.inr rep) (done ▸ refresh_followed sp u)
      fun arr => (arr.not_replans rep).elim
  · refine noticed_followed h place arr.2 arr.not_readdresses (.inl arr) (done ▸ presenceNotice_followed sp u)
      fun _ deaf => ?_
    rw [done, presenceNotice_deaf deaf]
    exact ⟨rfl, rfl⟩
  · exact noticed_left h place rem rea rep arr done

end

/-! ### All the speakers -/

/-- Each speaker's notice finds it as it was, and no other touches it afterwards. -/
theorem speakerNotices_noticed {old new : Bank} {s u : State} (h : Swapping new s u)
    (place : ∀ sp, u.place sp = s.waiting new sp) (sp : SpeakerNo) :
    Noticed old new s (u.forEach allSpeakers (speakerNotice old)) sp := by
  obtain ⟨v, kept, before, after⟩ := forEach_place State.place (speakerNotice old) (Swapping new s)
    (fun a v hv => hv.speakerNotice old a) (fun a b v _ other => speakerNotice_other old v other) sp allSpeakers u
    nodup_allSpeakers (mem_allSpeakers sp) h
  exact (speakerNotice_noticed kept (before.trans (place sp))).congr after

theorem speakerNotices_swapping {old new : Bank} {s u : State} (h : Swapping new s u) (l : List SpeakerNo) :
    Swapping new s (u.forEach l (speakerNotice old)) :=
  State.forEach_keeps l _ (fun sp _ hv => hv.speakerNotice old sp) u h

/-- The claims of the speakers removed are released, in the order of the notices. -/
theorem speakerNotices_store {old new : Bank} (l : List SpeakerNo) (once : l.Nodup) (u : State)
    (active : u.plan.active = new) :
    (u.forEach l (speakerNotice old)).store =
      u.store.released ((l.filter fun sp => decide (Removes old new sp)).flatMap u.claimStack) := by
  induction l generalizing u with
  | nil => exact (u.store.released_nil).symm
  | cons sp l ih =>
    obtain ⟨apart, once⟩ := List.nodup_cons.mp once
    have after : (speakerNotice old sp u).plan.active = new :=
      Eq.trans ((Only.speakerNotice old sp u).same .active (by decide)) active
    have claims : ∀ o ∈ l.filter fun o => decide (Removes old new o),
        (speakerNotice old sp u).claimStack o = u.claimStack o := fun o ho => by
      have other : sp ≠ o := fun x => apart (x ▸ List.mem_of_mem_filter ho)
      exact congrArg SpeakerPlace.stack (speakerNotice_other old u other)
    rw [State.forEach_cons, ih once _ after, speakerNotice_store, active,
      List.flatMap_congr claims, List.filter_cons]
    by_cases rem : Removes old new sp
    · rw [if_pos rem, if_pos (decide_eq_true rem), List.flatMap_cons, CellStore.released_append]
    · rw [if_neg rem, if_neg (by simpa using rem)]

/-- The CUTs of the speakers removed or readdressed, in the order of the notices, where no other notice sends. -/
theorem speakerNotices_air {old new : Bank} {s : State} (l : List SpeakerNo) (once : l.Nodup) (u v : State)
    (h : Swapping new s u) (place : ∀ sp ∈ l, u.place sp = s.waiting new sp) (same : SameAir u v)
    (deaf : ∀ sp, Arrives old new sp ∨ Replans old new sp → ¬ s.hears sp) :
    (u.forEach l (speakerNotice old)).air =
      ((l.filter fun sp => decide (Removes old new sp ∨ Readdresses old new sp)).foldl
        (fun v sp => handCut sp (old.speaker sp).address (s.stamp sp s.cutLimit) s.cutLimit v) v).air := by
  induction l generalizing u v with
  | nil => exact same.air
  | cons sp l ih =>
    obtain ⟨apart, once⟩ := List.nodup_cons.mp once
    have here := place sp List.mem_cons_self
    have entry : u.entry (speakerEntry sp) = s.entry (speakerEntry sp) := congrArg SpeakerPlace.entry here
    have silent : Arrives old new sp ∨ Replans old new sp → ¬ u.hears sp := fun x => by
      unfold State.hears
      rw [entry]
      exact deaf sp x
    have stamp : u.stamp sp s.cutLimit = s.stamp sp s.cutLimit := by
      unfold State.stamp State.trim
      rw [entry, h.trims]
    have after := h.speakerNotice old sp
    have others : ∀ o ∈ l, (speakerNotice old sp u).place o = s.waiting new o := fun o ho => by
      have other : sp ≠ o := fun x => apart (x ▸ ho)
      exact (speakerNotice_other old u other).trans (place o (List.mem_cons_of_mem _ ho))
    have air := speakerNotice_air old sp u (by rw [h.active]; exact silent)
    rw [h.active] at air
    rw [State.forEach_cons, List.filter_cons]
    by_cases cut : Removes old new sp ∨ Readdresses old new sp
    · rw [if_pos cut, State.cutAir, h.cutLimit, stamp,
        handCut_reads _ _ _ _ u v same] at air
      rw [if_pos (decide_eq_true cut), List.foldl_cons]
      refine ih once _ _ after others ⟨air, ?_, ?_⟩
      · rw [after.block, handCut_air]
        exact h.block.symm.trans same.block
      · rw [after.margin, handCut_air]
        exact h.margin.symm.trans same.margin
    · rw [if_neg cut] at air
      rw [if_neg (by simpa using cut)]
      exact ih once _ _ after others ⟨air.trans same.air, by rw [after.block, ← h.block, same.block],
        by rw [after.margin, ← h.margin, same.margin]⟩

end Sys2Proof.Machine
end

section
/-! The rest of a swap: the streams that lose their zones, the zones rebound, the roles followed; and the swap whole. -/

namespace Sys2Proof.Machine

open Sys2Proof

/-! ### Reports made of states that agree -/

/-- `u` and `v` agree in what an event report is made of. -/
structure SameReports (u v : State) : Prop where
  source : u.source = v.source
  tap : u.playout.tap = v.playout.tap
  block : u.timeline.block = v.timeline.block

theorem SameReports.offerEvent {u v : State} (h : SameReports u v) (code : EventCode) (subject : Nat)
    (payload : List Field) :
    SameReports (offerEvent code subject payload u) (offerEvent code subject payload v) := by
  have blockU := ((Only.offerEvent code subject payload u).clock_eq (by decide)).2
  have blockV := ((Only.offerEvent code subject payload v).clock_eq (by decide)).2
  have made := offerEvent_reads u v code subject payload h.source h.tap h.block
  refine ⟨?_, ?_, blockU.trans (h.block.trans blockV.symm)⟩ <;> rw [made]

/-! ### The streams released (R103, R41) -/

/-- A stream with something queued that loses its last zone by the exchange. -/
def Frees (old new : Bank) (s : State) (st : StreamNo) : Prop :=
  (s.stream st).present = true ∧ (s.stream st).queue ≠ []
    ∧ (∃ z, (old.zone z).present = true ∧ (old.zone z).stream = some st)
    ∧ ∀ z, (new.zone z).present = true → (new.zone z).stream ≠ some st

theorem Bank.zonesOn_eq_nil {b : Bank} {st : StreamNo} :
    b.zonesOn st = [] ↔ ∀ z, (b.zone z).present = true → (b.zone z).stream ≠ some st := by
  rw [List.eq_nil_iff_forall_not_mem]
  exact forall_congr' fun z => by rw [Bank.mem_zonesOn, not_and]

theorem Bank.zonesOn_ne_nil {b : Bank} {st : StreamNo} :
    b.zonesOn st ≠ [] ↔ ∃ z, (b.zone z).present = true ∧ (b.zone z).stream = some st := by
  rw [Ne, Bank.zonesOn_eq_nil]
  simp

theorem frees_iff (old : Bank) (s : State) (st : StreamNo) :
    ((s.stream st).present = true ∧ old.zonesOn st ≠ [] ∧ s.plan.active.zonesOn st = []
      ∧ (s.stream st).queue ≠ []) ↔ Frees old s.plan.active s st := by
  rw [Bank.zonesOn_eq_nil, Bank.zonesOn_ne_nil]
  exact ⟨fun ⟨present, was, is, queue⟩ => ⟨present, queue, was, is⟩,
    fun ⟨present, queue, was, is⟩ => ⟨present, was, is, queue⟩⟩

/-- A stream after a flush. -/
def Stream.flushed (d : Stream) : Stream :=
  { d with queue := [], expected := none, demandArmed := d.demandArmed && d.cls == .live }

theorem Stream.flushed_paced {d : Stream} (paced : d.cls = .paced) :
    d.flushed = { d with queue := [], expected := none, demandArmed := false } := by
  have unarmed : (d.demandArmed && d.cls == .live) = false := by
    rw [paced]
    exact Bool.and_false _
  rw [Stream.flushed, unarmed]

theorem Stream.flushed_live {d : Stream} (live : d.cls = .live) :
    d.flushed = { d with queue := [], expected := none } := by
  have kept : (d.demandArmed && d.cls == .live) = d.demandArmed := by
    rw [live]
    exact Bool.and_true _
  rw [Stream.flushed, kept]

/-- A stream's queue released, its demand flag cleared where it is PACED. -/
def State.flushed (s : State) (st : StreamNo) : State :=
  { s with
    store := s.store.released (s.stream st).queue
    intake := { s.intake with streams := tblSet s.intake.streams st (s.stream st).flushed } }

/-- The DEMAND report of a stream that was flushed (R41). -/
def demandFlushed (d : Stream) (st : StreamNo) (s : State) : State :=
  offerEvent .streamDemand st.val [⟨1, 0⟩, ⟨2, d.quota⟩] s

theorem flushQueue_eq (st : StreamNo) (s : State) :
    flushQueue st s =
      if (s.stream st).cls = .paced then demandFlushed (s.stream st) st (s.flushed st) else s.flushed st := by
  have emptied : emptyQueue st s =
      { s with
        store := s.store.released (s.stream st).queue
        intake := { s.intake with
          streams := tblSet s.intake.streams st { s.stream st with queue := [], expected := none } } } := by
    rw [emptyQueue, releaseCells_eq]
    rfl
  have stream : (emptyQueue st s).stream st = { s.stream st with queue := [], expected := none } := by
    rw [emptied]
    exact tblGet_tblSet_same _ _ _
  unfold flushQueue
  simp only [stream]
  by_cases paced : (s.stream st).cls = .paced
  · have unarmed : (emptyQueue st s).modStream st (fun d => { d with demandArmed := false }) = s.flushed st := by
      rw [emptied]
      unfold State.modStream State.modIntake State.flushed
      simp only [tblMod, tblGet_tblSet_same, tblSet_tblSet, Stream.flushed_paced paced]
    rw [if_pos paced, if_pos paced, demandReport, unarmed, stream]
    rfl
  · have live : (s.stream st).cls = .live := by
      cases k : (s.stream st).cls
      · rfl
      · exact absurd k paced
    rw [if_neg paced, if_neg paced, emptied]
    unfold State.flushed
    rw [Stream.flushed_live live]

theorem streamNotice_freed {old : Bank} {s : State} {st : StreamNo} (h : Frees old s.plan.active s st) :
    streamNotice old st s = flushQueue st s := if_pos ((frees_iff old s st).mpr h)

theorem streamNotice_kept {old : Bank} {s : State} {st : StreamNo} (h : ¬ Frees old s.plan.active s st) :
    streamNotice old st s = s := if_neg (mt (frees_iff old s st).mp h)

theorem flushQueue_intake (st : StreamNo) (s : State) : (flushQueue st s).intake = (s.flushed st).intake := by
  rw [flushQueue_eq]
  split
  · exact (Only.offerEvent _ _ _ _).intake_eq
  · rfl

theorem flushQueue_store (st : StreamNo) (s : State) :
    (flushQueue st s).store = s.store.released (s.stream st).queue := by
  rw [flushQueue_eq]
  split
  · exact (Only.offerEvent _ _ _ _).store_eq
  · rfl

theorem flushQueue_stream (st o : StreamNo) (s : State) :
    (flushQueue st s).stream o = if st = o then (s.stream st).flushed else s.stream o := by
  rw [show (flushQueue st s).stream o = (s.flushed st).stream o from
    congrArg (fun i : Intake => tblGet i.streams o) (flushQueue_intake st s)]
  exact tblGet_tblSet _ _ _ _

section
variable {old new : Bank}

theorem streamNotice_active {u : State} (active : u.plan.active = new) (st : StreamNo) :
    (streamNotice old st u).plan.active = new :=
  Eq.trans ((Only.streamNotice old st u).same .active (by decide)) active

theorem streamNotice_other {a b : StreamNo} (u : State) (other : a ≠ b) :
    (streamNotice old a u).stream b = u.stream b := by
  by_cases h : Frees old u.plan.active u a
  · rw [streamNotice_freed h, flushQueue_stream, if_neg other]
  · rw [streamNotice_kept h]

theorem Frees.congr {u s : State} {st : StreamNo} (same : u.stream st = s.stream st) :
    Frees old new u st ↔ Frees old new s st := by
  unfold Frees
  rw [same]

/-- A stream after all the notices of a swap: flushed where it is freed. -/
theorem streamNotices_stream {s u : State} (active : u.plan.active = new)
    (same : ∀ st, u.stream st = s.stream st) (st : StreamNo) :
    (Frees old new s st → (u.forEach allStreams (streamNotice old)).stream st = (s.stream st).flushed)
      ∧ (¬ Frees old new s st → (u.forEach allStreams (streamNotice old)).stream st = s.stream st) := by
  obtain ⟨v, kept, before, after⟩ := forEach_place State.stream (streamNotice old)
    (fun v => v.plan.active = new) (fun a v hv => streamNotice_active hv a)
    (fun a b v _ other => streamNotice_other v other) st allStreams u nodup_allStreams (mem_allStreams st) active
  have found : v.stream st = s.stream st := before.trans (same st)
  have freed : Frees old v.plan.active v st ↔ Frees old new s st := by
    rw [kept]
    exact Frees.congr found
  rw [after]
  refine ⟨fun h => ?_, fun h => ?_⟩
  · rw [streamNotice_freed (freed.mpr h), flushQueue_stream, if_pos rfl, found]
  · rw [streamNotice_kept (mt freed.mp h), found]

open Classical in
/-- The queues of the streams freed are released, and their DEMAND reports made, in the order of the notices. -/
theorem streamNotices_store {s : State} (l : List StreamNo) (once : l.Nodup) (u v : State)
    (active : u.plan.active = new) (same : ∀ st ∈ l, u.stream st = s.stream st) (reports : SameReports u v) :
    (u.forEach l (streamNotice old)).store =
        u.store.released ((l.filter fun st => decide (Frees old new s st)).flatMap fun st => (s.stream st).queue)
      ∧ SameReports (u.forEach l (streamNotice old))
        (((l.filter fun st => decide (Frees old new s st)).filter fun st => (s.stream st).cls == .paced).foldl
          (fun v st => demandFlushed (s.stream st) st v) v) := by
  induction l generalizing u v with
  | nil => exact ⟨(u.store.released_nil).symm, reports⟩
  | cons st l ih =>
    obtain ⟨apart, once⟩ := List.nodup_cons.mp once
    have here : u.stream st = s.stream st := same st List.mem_cons_self
    have freed : Frees old u.plan.active u st ↔ Frees old new s st := by
      rw [active]
      exact Frees.congr here
    have others : ∀ o ∈ l, (streamNotice old st u).stream o = s.stream o := fun o ho => by
      have other : st ≠ o := fun x => apart (x ▸ ho)
      exact (streamNotice_other u other).trans (same o (List.mem_cons_of_mem _ ho))
    rw [State.forEach_cons, List.filter_cons]
    by_cases h : Frees old new s st
    · rw [if_pos (decide_eq_true h), List.flatMap_cons, List.filter_cons, ← CellStore.released_append]
      have notice := streamNotice_freed (freed.mpr h)
      have store : (streamNotice old st u).store = u.store.released (s.stream st).queue := by
        rw [notice, flushQueue_store, here]
      rw [← store]
      have flushed : SameReports (u.flushed st) v := ⟨reports.source, reports.tap, reports.block⟩
      by_cases paced : (s.stream st).cls = .paced
      · have reported : SameReports (streamNotice old st u) (demandFlushed (s.stream st) st v) := by
          rw [notice, flushQueue_eq, here, if_pos paced]
          exact flushed.offerEvent _ _ _
        rw [if_pos (by simpa using paced)]
        exact ih once _ _ (streamNotice_active active st) others reported
      · have reported : SameReports (streamNotice old st u) v := by
          rw [notice, flushQueue_eq, here, if_neg paced]
          exact flushed
        rw [if_neg (by simpa using paced)]
        exact ih once _ _ (streamNotice_active active st) others reported
    · rw [if_neg (by simpa using h), streamNotice_kept (mt freed.mp h)]
      exact ih once u v active (fun o ho => same o (List.mem_cons_of_mem _ ho)) reports

end

/-! ### The zones rebound (R99) and the roles followed (R102) -/

theorem zoneNotice_zone (old : Bank) (z b : ZoneNo) (s : State) :
    (zoneNotice old z s).zone b =
      if z = b ∧ (old.zone z).present = true ∧ (s.plan.active.zone z).present = true
          ∧ (old.zone z).stream ≠ (s.plan.active.zone z).stream ∧ (s.zone z).state ≠ .idle then
        { s.zone z with state := .priming, primingBegan := s.timeline.block, prevKind := none }
      else s.zone b := by
  have now : s.activeZone z = s.plan.active.zone z := rfl
  unfold zoneNotice
  simp only [now]
  split
  · rename_i h
    rw [rebind, State.zone_modZone]
    by_cases same : z = b
    · rw [if_pos same, if_pos ⟨same, h⟩]
      rfl
    · rw [if_neg same, if_neg fun x => same x.1]
  · rename_i h
    rw [if_neg fun x => h x.2]

theorem zoneNotices_zone {old new : Bank} {s u : State} (active : u.plan.active = new)
    (block : u.timeline.block = s.timeline.block) (same : ∀ z, u.zone z = s.zone z) (z : ZoneNo) :
    (u.forEach allZones (zoneNotice old)).zone z =
      if (old.zone z).present = true ∧ (new.zone z).present = true
          ∧ (old.zone z).stream ≠ (new.zone z).stream ∧ (s.zone z).state ≠ .idle then
        { s.zone z with state := .priming, primingBegan := s.timeline.block, prevKind := none }
      else s.zone z := by
  obtain ⟨v, ⟨activeV, blockV⟩, before, after⟩ := forEach_place State.zone (zoneNotice old)
    (fun v => v.plan.active = new ∧ v.timeline.block = s.timeline.block)
    (fun a v hv => ⟨Eq.trans ((Only.zoneNotice old a v).same .active (by decide)) hv.1,
      ((Only.zoneNotice old a v).clock_eq (by decide)).2.trans hv.2⟩)
    (fun a b v _ other => by rw [zoneNotice_zone, if_neg fun x => other x.1]) z allZones u (by decide)
    (mem_allZones z) ⟨active, block⟩
  rw [after, zoneNotice_zone, activeV, blockV, before, same z]
  simp only [true_and]

theorem followRole_speaker (a b : SpeakerNo) (s : State) :
    (followRole a s).speaker b =
      if a = b then { s.speaker a with role := s.effectiveRole a } else s.speaker b :=
  State.speaker_modSpeaker _ _ _ _

theorem followRole_only (sp : SpeakerNo) (s : State) : Only [.speakers] s (followRole sp s) :=
  Only.modSpeaker _ _ _

theorem followRole_place (a b : SpeakerNo) (s : State) :
    (followRole a s).place b =
      if a = b then { s.place a with run := { s.speaker a with role := s.effectiveRole a } } else s.place b := by
  rw [((followRole_only a s).widen (m := [.speakers, .air])).place_run b, followRole_speaker]
  split
  · rename_i same
    subst same
    rfl
  · rfl

theorem Swapping.followRole {new : Bank} {s u : State} (h : Swapping new s u) (sp : SpeakerNo) :
    Swapping new s (followRole sp u) :=
  h.step (followRole_only sp u) (by rw [(followRole_only sp u).store_eq]; exact released_self _)

/-- With every role followed, each speaker waits for its notice. -/
theorem followRoles_place {new : Bank} {s u : State} (h : Swapping new s u) (same : ∀ sp, u.place sp = s.place sp)
    (sp : SpeakerNo) : (u.forEach allSpeakers followRole).place sp = s.waiting new sp := by
  obtain ⟨v, kept, before, after⟩ := forEach_place State.place Machine.followRole (Swapping new s)
    (fun a v hv => hv.followRole a) (fun a b v _ other => by rw [followRole_place, if_neg other]) sp allSpeakers u
    nodup_allSpeakers (mem_allSpeakers sp) h
  have found : v.place sp = s.place sp := before.trans (same sp)
  have stack : v.claimStack sp = s.claimStack sp := congrArg SpeakerPlace.stack found
  have run : v.speaker sp = s.speaker sp := congrArg SpeakerPlace.run found
  rw [after, followRole_place, if_pos rfl, found, run, kept.effectiveRole stack]
  rfl

/-! ### The entries of the streams -/

theorem speakerNotice_streamEntry (old : Bank) (sp : SpeakerNo) (s : State) (st : StreamNo) :
    (speakerNotice old sp s).entry (streamEntry st) = s.entry (streamEntry st) := by
  have written (p : SpeakerPlace) : (s.putPlace sp p).entry (streamEntry st) = s.entry (streamEntry st) :=
    tblGet_tblSet_other _ _ (speakerEntry_ne_streamEntry sp st)
  obtain ⟨h, done⟩ | ⟨h, done⟩ | ⟨h, kept, done⟩ | ⟨h, done⟩ | ⟨_, _, _, _, done⟩ := speakerNotice_case old sp s
    <;> rw [done]
  · rw [speakerRemoved_eq old sp s h.2]
    exact written _
  · rw [speakerReaddressed_eq]
    exact written _
  · exact (Only.refresh sp s).entry_eq (by decide) _
  · exact (Only.presenceNotice sp s).entry_eq (by decide) _

end Sys2Proof.Machine
end

section
/-! A swap that no condition of Table 38 refuses, from the exchange of the banks to the last notice. -/

namespace Sys2Proof.Machine

open Sys2Proof

/-- An ascending list that holds what a filter of an ascending list holds is that filter. -/
theorem ascending_eq_filter {α : Type} [LinearOrder α] {l all : List α} {p : α → Bool}
    (ascending : l.Pairwise (· < ·)) (whole : all.Pairwise (· < ·)) (every : ∀ a, a ∈ all)
    (member : ∀ a, a ∈ l ↔ p a = true) : l = all.filter p :=
  ascending.eq_of_mem_iff (whole.filter p) fun {a} => by
    rw [List.mem_filter, member]
    exact (and_iff_right (every a)).symm

/-! ### The stages of a swap -/

/-- The banks exchanged and SWAP DONE reported (R98, R99). -/
def State.swapReported (s : State) : State :=
  offerEvent .swapDone 0 [⟨6, s.timeline.block⟩] (exchangeBanks s.swapOpened)

def State.rolesFollowed (s : State) : State := s.swapReported.forEach allSpeakers followRole

def State.zonesNoticed (s : State) : State := s.rolesFollowed.forEach allZones (zoneNotice s.plan.active)

def State.speakersNoticed (s : State) : State :=
  s.zonesNoticed.forEach allSpeakers (speakerNotice s.plan.active)

theorem takeSwap_stages {s : State} (h : validateSwap s = none) :
    takeSwap s = s.speakersNoticed.forEach allStreams (streamNotice s.plan.active) := takeSwap_completed h

section
variable (s : State)

theorem swapReported_only : Only [.source, .tap] (exchangeBanks s.swapOpened) s.swapReported :=
  Only.offerEvent _ _ _ _

theorem rolesFollowed_only : Only [.speakers] s.swapReported s.rolesFollowed :=
  Only.forEach _ followRole_only _ _

theorem zonesNoticed_only : Only [.zones] s.rolesFollowed s.zonesNoticed :=
  Only.forEach _ (Only.zoneNotice s.plan.active) _ _

theorem speakersNoticed_only : Only noticeParts s.zonesNoticed s.speakersNoticed :=
  Only.forEach _ (Only.speakerNotice s.plan.active) _ _

theorem streamsNoticed_only :
    Only [.store, .intake, .source, .tap] s.speakersNoticed
      (s.speakersNoticed.forEach allStreams (streamNotice s.plan.active)) :=
  Only.forEach _ (Only.streamNotice s.plan.active) _ _

theorem zonesNoticed_only_exchanged :
    Only [.source, .tap, .speakers, .zones] (exchangeBanks s.swapOpened) s.zonesNoticed :=
  ((swapReported_only s).then (m := [.source, .tap, .speakers]) (rolesFollowed_only s)).then
    (zonesNoticed_only s)

theorem swapReported_swapping : Swapping s.plan.staged s s.swapReported := by
  have exchanged : Swapping s.plan.staged s (exchangeBanks s.swapOpened) := ⟨rfl, rfl, rfl, rfl, rfl⟩
  exact exchanged.step (swapReported_only s)
    (by rw [(swapReported_only s).store_eq]; exact released_self _)

theorem zonesNoticed_swapping : Swapping s.plan.staged s s.zonesNoticed := by
  have followed : Swapping s.plan.staged s s.rolesFollowed :=
    State.forEach_keeps _ _ (fun sp _ h => h.followRole sp) _ (swapReported_swapping s)
  exact followed.step (zonesNoticed_only s) (by rw [(zonesNoticed_only s).store_eq]; exact released_self _)

theorem zonesNoticed_place (sp : SpeakerNo) : s.zonesNoticed.place sp = s.waiting s.plan.staged sp :=
  ((zonesNoticed_only s).place_eq (by decide) sp).trans
    (followRoles_place (swapReported_swapping s)
      (fun o => (swapReported_only s).place_eq (by decide) o) sp)

/-! ### What a swap leaves of each block -/

theorem swapped_plan {t : State} (only : Only swapNoticeParts (exchangeBanks s.swapOpened) t) :
    t.plan = { s.plan with active := s.plan.staged, swapPending := false, accessed := t.plan.accessed } := by
  have active : t.plan.active = s.plan.staged := only.same .active (by decide)
  have staged : t.plan.staged = s.plan.staged := only.same .staged (by decide)
  have flag : t.plan.swapPending = false := only.same .swapFlag (by decide)
  have trims : t.plan.trims = s.plan.trims := only.same .trims (by decide)
  show Plan.mk t.plan.active t.plan.staged t.plan.swapPending t.plan.trims t.plan.accessed = _
  rw [active, staged, flag, trims]

theorem swapped_zone (z : ZoneNo) :
    (s.speakersNoticed.forEach allStreams (streamNotice s.plan.active)).zone z =
      if (s.plan.active.zone z).present = true ∧ (s.plan.staged.zone z).present = true
          ∧ (s.plan.active.zone z).stream ≠ (s.plan.staged.zone z).stream ∧ (s.zone z).state ≠ .idle then
        { s.zone z with state := .priming, primingBegan := s.timeline.block, prevKind := none }
      else s.zone z := by
  have later : (s.speakersNoticed.forEach allStreams (streamNotice s.plan.active)).playout.zones =
      s.zonesNoticed.playout.zones :=
    Eq.trans ((streamsNoticed_only s).same .zones (by decide)) ((speakersNoticed_only s).same .zones (by decide))
  have followed : Swapping s.plan.staged s s.rolesFollowed :=
    State.forEach_keeps _ _ (fun sp _ h => h.followRole sp) _ (swapReported_swapping s)
  have before : s.rolesFollowed.playout.zones = s.playout.zones :=
    Eq.trans ((rolesFollowed_only s).same .zones (by decide)) ((swapReported_only s).same .zones (by decide))
  have noticed := zoneNotices_zone (old := s.plan.active) followed.active followed.block
    (fun y => congrArg (tblGet · y) before) z
  exact (congrArg (tblGet · z) later).trans noticed

theorem swapped_noticed (sp : SpeakerNo) :
    Noticed s.plan.active s.plan.staged s
      (s.speakersNoticed.forEach allStreams (streamNotice s.plan.active)) sp :=
  (speakerNotices_noticed (zonesNoticed_swapping s) (zonesNoticed_place s) sp).congr
    ((streamsNoticed_only s).place_eq (by decide) sp)

theorem swapped_streamEntry (st : StreamNo) :
    (s.speakersNoticed.forEach allStreams (streamNotice s.plan.active)).entry (streamEntry st) =
      s.entry (streamEntry st) := by
  have speakers : s.speakersNoticed.entry (streamEntry st) = s.zonesNoticed.entry (streamEntry st) :=
    State.forEach_unchanged (fun u => u.entry (streamEntry st)) _ _
      (fun sp u => speakerNotice_streamEntry s.plan.active sp u st) s.zonesNoticed
  rw [(streamsNoticed_only s).entry_eq (by decide), speakers, (zonesNoticed_only_exchanged s).entry_eq (by decide)]
  rfl

theorem speakersNoticed_active : s.speakersNoticed.plan.active = s.plan.staged :=
  (speakerNotices_swapping (zonesNoticed_swapping s) allSpeakers).active

theorem speakersNoticed_stream (st : StreamNo) : s.speakersNoticed.stream st = s.stream st := by
  have intake : s.speakersNoticed.intake = s.intake :=
    (speakersNoticed_only s).intake_eq.trans (zonesNoticed_only_exchanged s).intake_eq
  exact congrArg (fun i : Intake => tblGet i.streams st) intake

theorem speakersNoticed_store :
    s.speakersNoticed.store =
      s.store.released ((allSpeakers.filter fun sp => decide (Removes s.plan.active s.plan.staged sp)).flatMap
        s.claimStack) := by
  have claims (sp : SpeakerNo) : s.zonesNoticed.claimStack sp = s.claimStack sp :=
    congrArg SpeakerPlace.stack (zonesNoticed_place s sp)
  have store : s.zonesNoticed.store = s.store := (zonesNoticed_only_exchanged s).store_eq
  rw [State.speakersNoticed, speakerNotices_store allSpeakers nodup_allSpeakers _ (zonesNoticed_swapping s).active,
    store, funext claims]

/-- SWAP DONE is the one report that the speakers' notices find made. -/
theorem speakersNoticed_reports :
    SameReports s.speakersNoticed (offerEvent .swapDone 0 [⟨6, s.timeline.block⟩] s) := by
  have exchanged : SameReports (exchangeBanks s.swapOpened) s := ⟨rfl, rfl, rfl⟩
  have reported : SameReports s.swapReported (offerEvent .swapDone 0 [⟨6, s.timeline.block⟩] s) :=
    exchanged.offerEvent _ _ _
  have only : Only ([.speakers, .zones] ++ noticeParts) s.swapReported s.speakersNoticed :=
    ((rolesFollowed_only s).then (m := [.speakers, .zones] ++ noticeParts) (zonesNoticed_only s)).then
      (speakersNoticed_only s)
  exact ⟨only.source_eq.trans reported.source, only.tap_eq.trans reported.tap,
    (only.clock_eq (by decide)).2.trans reported.block⟩

open Classical in
/-- The cells released, the claims' first, and the reports made, in the order of the notices. -/
theorem swapped_storeAndSource {gone : List SpeakerNo} {empty : List StreamNo}
    (goneUp : gone.Pairwise (· < ·)) (isGone : ∀ sp, sp ∈ gone ↔ Removes s.plan.active s.plan.staged sp)
    (emptyUp : empty.Pairwise (· < ·)) (isEmpty : ∀ st, st ∈ empty ↔ Frees s.plan.active s.plan.staged s st) :
    (s.speakersNoticed.forEach allStreams (streamNotice s.plan.active)).store =
        s.store.released (gone.flatMap s.claimStack ++ empty.flatMap fun st => (s.stream st).queue)
      ∧ (s.speakersNoticed.forEach allStreams (streamNotice s.plan.active)).source =
        ((empty.filter fun st => (s.stream st).cls == .paced).foldl
          (fun u st => offerEvent .streamDemand st.val [⟨1, 0⟩, ⟨2, (s.stream st).quota⟩] u)
          (offerEvent .swapDone 0 [⟨6, s.timeline.block⟩] s)).source := by
  have removed : gone = allSpeakers.filter fun sp => decide (Removes s.plan.active s.plan.staged sp) :=
    ascending_eq_filter goneUp allSpeakers_ascending mem_allSpeakers fun sp =>
      (isGone sp).trans decide_eq_true_iff.symm
  have freed : empty = allStreams.filter fun st => decide (Frees s.plan.active s.plan.staged s st) :=
    ascending_eq_filter emptyUp allStreams_ascending mem_allStreams fun st =>
      (isEmpty st).trans decide_eq_true_iff.symm
  obtain ⟨store, reports⟩ := streamNotices_store (old := s.plan.active) (s := s) allStreams nodup_allStreams
    s.speakersNoticed _ (speakersNoticed_active s) (fun st _ => speakersNoticed_stream s st)
    (speakersNoticed_reports s)
  rw [removed, freed]
  refine ⟨?_, reports.source⟩
  rw [store, speakersNoticed_store, CellStore.released_append]

theorem swapped_tapState :
    (s.speakersNoticed.forEach allStreams (streamNotice s.plan.active)).playout.tap.state =
      s.playout.tap.state := by
  have streams := State.forEach_unchanged (fun u => u.playout.tap.state) allStreams (streamNotice s.plan.active)
    (fun st u => by
      by_cases h : Frees s.plan.active u.plan.active u st
      · rw [streamNotice_freed h, flushQueue_eq]
        split
        · exact offerEvent_tapState _ _ _ _
        · rfl
      · rw [streamNotice_kept h]) s.speakersNoticed
  exact streams.trans ((congrArg Tap.state (speakersNoticed_reports s).tap).trans (offerEvent_tapState _ _ _ _))

theorem swapped_air {cuts : List SpeakerNo}
    (cutsUp : cuts.Pairwise (· < ·))
    (isCut : ∀ sp, sp ∈ cuts ↔
      Removes s.plan.active s.plan.staged sp ∨ Readdresses s.plan.active s.plan.staged sp)
    (deaf : ∀ sp, Arrives s.plan.active s.plan.staged sp ∨ Replans s.plan.active s.plan.staged sp → ¬ s.hears sp) :
    (s.speakersNoticed.forEach allStreams (streamNotice s.plan.active)).air =
      (cuts.foldl
        (fun v sp => handCut sp (s.plan.active.speaker sp).address (s.stamp sp s.cutLimit) s.cutLimit v) s).air := by
  have same : SameAir s.zonesNoticed s :=
    ⟨(zonesNoticed_only_exchanged s).air_eq, (zonesNoticed_swapping s).block, (zonesNoticed_swapping s).margin⟩
  have all : cuts = allSpeakers.filter fun sp =>
      decide (Removes s.plan.active s.plan.staged sp ∨ Readdresses s.plan.active s.plan.staged sp) :=
    ascending_eq_filter cutsUp allSpeakers_ascending mem_allSpeakers fun sp =>
      (isCut sp).trans decide_eq_true_iff.symm
  rw [(streamsNoticed_only s).air_eq, all]
  exact speakerNotices_air allSpeakers nodup_allSpeakers _ s (zonesNoticed_swapping s)
    (fun sp _ => zonesNoticed_place s sp) same deaf

end

/-! ### A SWAP mark (R16, R94) -/

theorem markAction_swap {k : MarkNo} {mk : Mark} {s : State} (action : mk.action = .swap) :
    markAction k mk s =
      if s.agenda.swap = true ∨ s.agenda.swapTaken = true then markReport k mk .markMerged [] s
      else markReport k mk mk.carriedOut [] (takeSwap s) := by
  unfold markAction
  rw [action]
  simp only [Bool.or_eq_true]

end Sys2Proof.Machine

open Sys2Proof Sys2Proof.Machine

/-- Settles O40: the refusals by the first object of Table 38's first failing condition, the completion by the stages of
the swap, each of which leaves what the others write. -/
theorem swapExchangesBanks : Obligations.SwapExchangesBanks := by
  intro s old new m limit shared busy badMember duplicate absentMember refused
  refine ⟨fun st z y h least => ?_, fun unshared => ⟨fun z h least => ?_, fun free => ⟨fun sp z h least => ?_,
    fun placed => ⟨fun sp o h least => ?_, fun distinct => ⟨fun z sp h least => ?_, fun whole => ?_⟩⟩⟩⟩, ?_⟩
  · exact takeSwap_refused (validateSwap_shared h least)
  · refine (takeSwap_refused (validateSwap_busy unshared h least)).trans ?_
    rw [f1, ZoneState.code_byte]
    rfl
  · exact takeSwap_refused (validateSwap_badMember unshared free h least)
  · exact takeSwap_refused (validateSwap_duplicate unshared free placed h least)
  · exact takeSwap_refused (validateSwap_absentMember unshared free placed distinct h least)
  · intro t removed arrived stays readdressed replanned freed
    have valid : validateSwap s = none := validateSwap_none unshared free placed distinct whole
    have only : Only swapNoticeParts (exchangeBanks s.swapOpened) t := by
      show Only _ _ (takeSwap s)
      rw [takeSwap_completed valid]
      exact Only.noticeSwap _ _
    have done : t = s.speakersNoticed.forEach allStreams (streamNotice s.plan.active) := takeSwap_stages valid
    clear_value t
    refine ⟨swapped_plan s only, only.timeline_eq, only.cue_eq, only.params_eq, ?_, fun z => ?_, fun sp => ?_,
      fun st => ?_, fun gone goneUp isGone empty emptyUp isEmpty => ?_, fun cuts cutsUp isCut deaf => ?_⟩
      <;> rw [done]
    · exact swapped_tapState s
    · exact swapped_zone s z
    · obtain ⟨accessed, stack, entry, zone, role, removal, joined, counts⟩ := swapped_noticed s sp
      refine ⟨accessed, stack, entry, zone, ?_, removal, joined, counts⟩
      rw [role]
      show (if removed sp then _ else _) = _
      split <;> rfl
    · refine ⟨swapped_streamEntry s st, ?_⟩
      obtain ⟨flushed, kept⟩ :=
        streamNotices_stream (old := s.plan.active) (speakersNoticed_active s) (speakersNoticed_stream s) st
      by_cases h : freed st
      · exact (flushed h).trans (if_pos h).symm
      · exact (kept h).trans (if_neg h).symm
    · exact swapped_storeAndSource s goneUp isGone emptyUp isEmpty
    · exact swapped_air s cutsUp isCut deaf
  · intro k high due armed action u payload
    have fires : dueMark k s = markAction k (s.mark k) (s.disarmed k) := by
      unfold dueMark
      rw [action]
      exact fireMark_armed due armed
    have code : (s.mark k).action.code = 1 := by
      rw [action]
      rfl
    have block : (takeSwap u).timeline.block = m := ((Only.takeSwap u).clock_eq (by decide)).2
    rw [exec_markFiring k high, fires, markAction_swap action, markReport_eq, markReport_eq, fIndex_eq, code,
      show (takeSwap (s.disarmed k)).timeline.block = m from block]
    rfl
end

section
/-! SET STORE, takes, and the release of a stream's queue by CLOSE STREAM and FLUSH STREAM. -/

namespace Sys2Proof.Machine

open Sys2Proof

/-! ### Takes (R25, R26, R29) -/

/-- The free count at or below which a take is refused (R26). -/
def CellStore.floor (st : CellStore) (kind : TakeKind) : Nat :=
  if kind = .claimRecord then 0 else st.claimReserve

theorem CellStore.grants_iff (st : CellStore) (kind : TakeKind) :
    st.grants kind = true ↔ st.floor kind < st.freeList.length := by
  cases kind <;> simp [CellStore.grants, CellStore.floor]

theorem takeCell_refused {kind : TakeKind} {s : State}
    (h : s.store.freeList.length ≤ s.store.floor kind) : takeCell kind s = none := by
  have refused : ¬ s.store.grants kind = true := fun granted =>
    absurd ((s.store.grants_iff kind).mp granted) (not_lt.mpr h)
  unfold takeCell
  split
  · rfl
  · exact if_neg refused

/-- The part with another free list. -/
def State.withFree (s : State) (free : List CellNo) : State :=
  { s with store := { s.store with freeList := free } }

/-- A granted take removes the head of the free list; what follows is the depletion check. -/
theorem takeCell_granted {kind : TakeKind} {s : State} {c : CellNo} {rest : List CellNo}
    (free : s.store.freeList = c :: rest) (h : s.store.floor kind < rest.length + 1) :
    takeCell kind s = some (c, depletionCheck (s.withFree rest)) := by
  have granted : s.store.grants kind = true := by
    rw [CellStore.grants_iff, free]
    exact h
  unfold takeCell
  rw [free]
  exact if_pos granted

theorem depletionCheck_withFree (s : State) (rest : List CellNo) :
    depletionCheck (s.withFree rest) =
      if rest.length ≤ s.store.depletionMark ∧ s.store.depletionArmed = true then
        offerEvent .storeDepletion 0 [⟨4, rest.length⟩, ⟨4, s.store.depletionMark⟩]
          { s with store := { s.store with freeList := rest, depletionArmed := false } }
      else s.withFree rest := rfl

/-! ### SET STORE (R32) -/

/-- The status of SET STORE is that of its three clamps. -/
theorem takenStatus_three {a b c x y z : Nat} :
    takenStatus (decide (a ≠ x ∨ b ≠ y ∨ c ≠ z)) = if a = x ∧ b = y ∧ c = z then .ok else .clamped := by
  unfold takenStatus
  by_cases ha : a = x <;> by_cases hb : b = y <;> by_cases hc : c = z <;> simp [ha, hb, hc]

/-! ### CLOSE STREAM and FLUSH STREAM (R39, R40) -/

theorem emptyQueue_eq (st : StreamNo) (s : State) :
    emptyQueue st s =
      { s with
        store := s.store.released (s.stream st).queue
        intake := { s.intake with
          streams := tblSet s.intake.streams st { s.stream st with queue := [], expected := none } } } := by
  rw [emptyQueue, releaseCells_eq]
  rfl

/-- A stream that no present zone names is bound to none (R85). -/
theorem boundZone_none {s : State} {st : StreamNo}
    (h : ∀ z : ZoneNo, (s.activeZone z).present = true → (s.activeZone z).stream ≠ some st) :
    s.boundZone st = none := by
  rw [State.boundZone, Bank.zonesOn_eq_nil.mpr h, List.head?_nil]

theorem closeTaken_eq (st : StreamNo) (s : State) :
    closeTaken st s =
      { s with
        store := s.store.released (s.stream st).queue
        intake := { s.intake with
          streams := tblSet s.intake.streams st { s.stream st with
            queue := [], expected := none, demandArmed := false, present := false } } } := by
  rw [closeTaken, emptyQueue_eq]
  simp only [State.modStream, State.modIntake, tblMod, tblGet_tblSet_same, tblSet_tblSet]

section
variable {d : Header} {s : State} {st : StreamNo} (h : s.Listening) (rank : d.rank = 0)
  (present : (s.stream st).present = true)
include h rank present

theorem closeStream_taken
    (unbound : ∀ z : ZoneNo, (s.activeZone z).present = true → (s.activeZone z).stream ≠ some st) :
    closeStream d (operandOf st) s = closeTaken st (s.answered 0x21 d .ok []) := by
  unfold closeStream
  rw [if_neg (not_rankRefused rank), streamIndex_operandOf]
  simp only [present, boundZone_none unbound, h.reply]
  rfl

theorem flushStream_taken :
    flushStream d (operandOf st) s = flushQueue st (s.answered 0x22 d .ok []) := by
  unfold flushStream
  rw [if_neg (not_rankRefused rank), streamIndex_operandOf]
  simp only [present, h.reply]
  rfl

end

end Sys2Proof.Machine

open Sys2Proof Sys2Proof.Machine

/-- Settles O37. -/
theorem takesGrantedOrRefused : Obligations.TakesGrantedOrRefused := by
  intro s kind
  refine ⟨takeCell_refused, fun c rest free granted => ?_⟩
  rw [takeCell_granted free granted, depletionCheck_withFree]
  rfl

/-- Settles O36. -/
theorem storeSettingsSet : Obligations.StoreSettingsSet := by
  intro s d mark reserve margin h rank m r g
  refine (h.onSource (setStore d mark reserve margin)).trans (congrArg _ ?_)
  unfold setStore
  rw [if_neg (not_rankRefused rank)]
  simp only [clampNat_zero, clampNat_eq (show 1 ≤ 8 by decide), takenStatus_three, h.reply, State.modStore,
    CellStore.rearm_eq]
  rfl

/-- Settles O35. -/
theorem streamReleased : Obligations.StreamReleased := by
  intro s d st h rank present u
  refine ⟨fun unbound => ?_, ?_⟩
  · refine (h.onSource (closeStream d (operandOf st))).trans (congrArg _ ?_)
    rw [closeStream_taken h rank present unbound, closeTaken_eq]
    rfl
  · refine (h.onSource (flushStream d (operandOf st))).trans (congrArg _ ?_)
    rw [flushStream_taken h rank present, flushQueue_eq]
    have stream : (s.answered 0x22 d .ok []).stream st = s.stream st := rfl
    unfold State.flushed
    rw [stream]
    cases cls : (s.stream st).cls
    · rw [if_neg (by simp), Stream.flushed_live cls]
      rfl
    · rw [if_pos rfl, Stream.flushed_paced cls]
      rfl
end

section
/-! A SOURCE frame that is stored: the take, the cell that it writes, the queue that it joins (R44 to R50). -/

namespace Sys2Proof.Machine

open Sys2Proof

/-! ### Reports before and after other writes -/

/-- An operation that neither reads nor writes what a report is made of may be taken before the report. -/
theorem offerEvent_after (g : State → State) (u : State)
    (source : (g u).source = u.source) (tap : (g u).playout.tap = u.playout.tap)
    (block : (g u).timeline.block = u.timeline.block)
    (apart : ∀ l b, g { u with source := l, playout := { u.playout with tap := { u.playout.tap with buffer := b } } } =
      { g u with source := l, playout := { (g u).playout with tap := { u.playout.tap with buffer := b } } })
    (code : EventCode) (subject : Nat) (payload : List Field) :
    g (offerEvent code subject payload u) = offerEvent code subject payload (g u) := by
  obtain ⟨l, b, reported⟩ := offerEvent_only code subject payload u
  rw [offerEvent_reads (g u) u code subject payload source tap block, reported, apart]

/-! ### The frame appended (R48 to R50) -/

/-- An observation writes the stream's tracker entry alone (R61). -/
theorem observe_eq (st : StreamNo) (index : BitVec 32) (s : State) :
    observe st index s =
      { s with tracker := { s.tracker with
          entries := tblSet s.tracker.entries (streamEntry st)
            (({ s.entry (streamEntry st) with silence := 0 } : TrackerEntry).input s.tracker.params
              s.timeline.count (index * 256)).1 } } := by
  have stream : entrySpeaker (streamEntry st) = none := by simp [entrySpeaker, streamEntry]
  have cleared : (clearSilence (streamEntry st) s).entry (streamEntry st) =
      { s.entry (streamEntry st) with silence := 0 } := by
    rw [clearSilence, State.entry_modEntry, if_pos rfl]
  unfold observe trackInput
  simp only [stream, cleared]
  simp only [clearSilence, State.modEntry, State.modTracker, tblMod, tblSet_tblSet]

/-- The Stream Intake and the Clock Tracker after a frame was appended: what an append writes besides its cell. -/
def State.withFrame (s : State) (st : StreamNo) (f : SourceFrame) (gap : Nat) (c : CellNo) : State :=
  { s with
    intake := { s.intake with streams := tblSet s.intake.streams st ((s.stream st).append c f gap) }
    tracker :=
      if (s.stream st).cls = .live ∧ f.seq.toNat % 32 = 0 then
        { s.tracker with
          entries := tblSet s.tracker.entries (streamEntry st)
            (({ s.entry (streamEntry st) with silence := 0 } : TrackerEntry).input s.tracker.params
              s.timeline.count (f.sourceIndex * 256)).1 }
      else s.tracker }

theorem appendFrame_eq (st : StreamNo) (f : SourceFrame) (gap : Nat) (discontinuity : Bool) (c : CellNo)
    (s : State) :
    appendFrame st f gap discontinuity c s =
      (s.setCell c (.audio (audioCellOf st f discontinuity))).withFrame st f gap c := by
  have cls : (((s.setCell c (.audio (audioCellOf st f discontinuity))).modStream st fun d =>
      d.append c f gap).stream st).cls = (s.stream st).cls := by
    rw [State.stream_modStream, if_pos rfl]
    rfl
  unfold appendFrame
  simp only [cls, observe_eq]
  unfold State.withFrame
  by_cases observed : (s.stream st).cls = .live ∧ f.seq.toNat % 32 = 0
  · rw [if_pos observed, if_pos (c := ((s.setCell c _).stream st).cls = _ ∧ _) observed]
    rfl
  · rw [if_neg observed, if_neg (c := ((s.setCell c _).stream st).cls = _ ∧ _) observed]
    rfl

/-- The free list and the armed flag written. -/
def State.withTaken (s : State) (free : List CellNo) (armed : Bool) : State :=
  { s with store := { s.store with freeList := free, depletionArmed := armed } }

/-- What a take leaves, and its report where the count has come to the mark (R29). -/
theorem depletionCheck_taken (s : State) (rest : List CellNo) :
    depletionCheck (s.withFree rest) =
      let low := s.store.depletionArmed && decide (rest.length ≤ s.store.depletionMark)
      if low then
        offerEvent .storeDepletion 0 [⟨4, rest.length⟩, ⟨4, s.store.depletionMark⟩]
          (s.withTaken rest (s.store.depletionArmed && !low))
      else s.withTaken rest (s.store.depletionArmed && !low) := by
  rw [depletionCheck_withFree]
  cases armed : s.store.depletionArmed
  · rw [if_neg (by simp)]
    simp only [Bool.false_and, Bool.false_eq_true, if_false]
    rw [← armed]
    rfl
  · by_cases low : rest.length ≤ s.store.depletionMark
    · rw [if_pos ⟨low, rfl⟩]
      simp only [Bool.true_and, decide_eq_true low, if_true]
      rfl
    · rw [if_neg (fun h => low h.1)]
      simp only [Bool.true_and, decide_eq_false low, Bool.false_eq_true, if_false, Bool.not_false]
      rw [← armed]
      rfl

/-- A frame stored: the take's report stands after all that the append writes. -/
theorem storeFrame_granted {st : StreamNo} {f : SourceFrame} {gap : Nat} {discontinuity : Bool} {s : State}
    {c : CellNo} {rest : List CellNo} (free : s.store.freeList = c :: rest)
    (granted : s.store.claimReserve < rest.length + 1) :
    storeFrame st f gap discontinuity s =
      let low := s.store.depletionArmed && decide (rest.length ≤ s.store.depletionMark)
      let u := ((s.withTaken rest (s.store.depletionArmed && !low)).setCell c
        (.audio (audioCellOf st f discontinuity))).withFrame st f gap c
      if low then
        offerEvent .storeDepletion 0 [⟨4, rest.length⟩, ⟨4, s.store.depletionMark⟩] u
      else u := by
  unfold storeFrame
  rw [takeCell_granted (kind := .intake) free granted, depletionCheck_taken]
  simp only [appendFrame_eq]
  split
  · exact offerEvent_after (fun v => (v.setCell c _).withFrame st f gap c) _ rfl rfl rfl (fun _ _ => rfl) _ _ _
  · rfl

/-! ### A LIVE queue at its quota (R45) -/

/-- The cells after the head of a queue was marked DISCONTINUITY. -/
def State.cellsMarked (s : State) (queue : List CellNo) : Vector Cell 1024 :=
  match queue.head? with
  | none => s.store.cells
  | some h =>
      match s.audioCell h with
      | none => s.store.cells
      | some a => tblSet s.store.cells h (.audio { a with discontinuity := true })

theorem markHead_eq (st : StreamNo) (s : State) :
    markHead st s = { s with store := { s.store with cells := s.cellsMarked (s.stream st).queue } } := by
  unfold markHead State.cellsMarked
  split <;> rename_i queue <;> rw [queue]
  · rfl
  · rw [List.head?_cons]
    dsimp only
    split <;> rename_i found <;> rw [found]
    rfl

theorem overflow_eq {st : StreamNo} {s : State} {c : CellNo} {queue : List CellNo}
    (h : (s.stream st).queue = c :: queue) :
    overflow st s =
      { s with
        store := { s.store with
          freeList := c :: s.store.freeList
          depletionArmed := s.store.depletionArmed
            || decide (min (s.store.depletionMark + 16) 1024 ≤ s.store.freeList.length + 1)
          cells := s.cellsMarked queue }
        intake := { s.intake with
          streams := tblSet s.intake.streams st { s.stream st with
            queue := queue
            counters := { (s.stream st).counters with
              overflows := counted (s.stream st).counters.overflows 1 } } } } := by
  unfold overflow
  rw [h]
  simp only [markHead_eq, State.stream_modStream, if_pos, releaseCell, State.modStore, CellStore.rearm_eq]
  rfl

/-- The descriptor after an append, its demand re-arming check written out (R54). -/
theorem Stream.append_eq (d : Stream) (c : CellNo) (f : SourceFrame) (gap : Nat) :
    d.append c f gap =
      { d with
        queue := d.queue ++ [c]
        expected := if f.endFlag then none else some (f.seq + 1)
        demandArmed := d.demandArmed || (d.cls == .paced && decide (d.demandMark < d.queue.length + 1))
        counters := { d.counters with
          accepted := counted d.counters.accepted 1, gaps := counted d.counters.gaps gap } } := by
  have armed : (if d.cls = .paced ∧ d.demandMark < (d.queue ++ [c]).length then true else d.demandArmed) =
      (d.demandArmed || (d.cls == .paced && decide (d.demandMark < d.queue.length + 1))) := by
    rw [List.length_append, List.length_singleton]
    by_cases paced : d.cls = .paced <;> by_cases above : d.demandMark < d.queue.length + 1 <;>
      simp [paced, above]
  unfold Stream.append
  simp only [armed]
  rfl

/-! ### The checks before the store (R43, R44) -/

/-- A frame that is not behind the expected sequence. -/
theorem sequenceGap_ahead {expected : Option SerialNo} {seq : SerialNo} {gap : Nat}
    (value : gap = match expected with | none => 0 | some x => (seq - x).toNat) (ahead : gap < 32768) :
    sequenceGap expected seq = some gap := by
  cases expected with
  | none => rw [value]; rfl
  | some x =>
    have near : serialBehind seq x = false := by
      rw [value] at ahead
      exact decide_eq_false (not_le.mpr ahead)
    rw [sequenceGap, near, value]
    rfl

theorem execSourceFrame_admitted {s : State} {f : SourceFrame} {st : StreamNo} {gap : Nat}
    (high : s.rstLow = false) (up : s.source.up = true) (received : f.received = true)
    (stream : f.stream = operandOf st) (present : (s.stream st).present = true)
    (lanes : f.lanes.toNat = (s.stream st).lanes)
    (sequence : sequenceGap (s.stream st).expected f.seq = some gap) :
    exec (.sourceFrame f) s = .next (admitFrame st f gap s) := by
  have judged : sourceArrives f s = admitFrame st f gap s := by
    unfold sourceArrives judgeFrame
    simp [received, stream, present, lanes, sequence]
  show s.onSource (sourceArrives f) = _
  rw [State.onSource, high, up, judged]
  rfl

end Sys2Proof.Machine

open Sys2Proof Sys2Proof.Machine

/-- Settles O28. -/
theorem sourceFrameAppended : Obligations.SourceFrameAppended := by
  intro s f st high up received stream present lanes d gap ahead appended
  have admitted := execSourceFrame_admitted high up received stream present lanes
    (sequenceGap_ahead (gap := gap) rfl ahead)
  have marked : (gap != 0) = decide (gap ≠ 0) := by
    by_cases zero : gap = 0 <;> simp [zero]
  refine ⟨fun c rest room free granted => ?_, fun c queue live full head granted => ?_⟩
  · rw [admitted, admitFrame, if_pos room, storeFrame_granted free granted, marked]
    unfold State.withFrame
    simp only [Stream.append_eq]
    rfl
  · have overflowed := overflow_eq (s := s) head
    have queued : ((overflow st s).stream st).queue = queue := by
      rw [overflowed]
      exact congrArg Stream.queue (tblGet_tblSet_same _ _ _)
    have store : admitFrame st f gap s =
        storeFrame st f gap (decide (gap ≠ 0) || queue.isEmpty) (overflow st s) := by
      rw [admitFrame, if_neg (not_lt.mpr full)]
      simp only [show (s.stream st).cls = .live from live, queued, marked]
    have free : (overflow st s).store.freeList = c :: s.store.freeList := by rw [overflowed]
    rw [admitted, store, storeFrame_granted free (by rw [overflowed]; exact granted), overflowed]
    unfold State.withFrame State.stream
    simp only [Stream.append_eq, State.setCell, State.modStore, State.withTaken, tblGet_tblSet_same, tblSet_tblSet]
    rfl
end

section
/-! The issue of an entry (R112, R117 to R119), the work of a PLAYING zone, first-sends and joins (R127 to R129). -/

namespace Sys2Proof.Machine

open Sys2Proof

/-! ### The entry and its place in the ring -/

section
variable {l : List Part} {s t : State} (h : Only l s t)
include h

theorem Only.zone_eq (hl : l.contains .zones = false := by decide) (z : ZoneNo) : t.zone z = s.zone z :=
  congrArg (tblGet · z) (h.same .zones hl : t.playout.zones = s.playout.zones)

theorem Only.block_eq (hl : l.contains .clock = false := by decide) : t.block = s.block := (h.clock_eq hl).2

theorem Only.audioCell_eq (hl : l.contains .store = false := by decide) : t.audioCell = s.audioCell := by
  funext c
  unfold State.audioCell State.cell
  rw [h.store_eq hl]

end

theorem modZone_eq_putZone (s : State) (z : ZoneNo) (f : ZoneRun → ZoneRun) :
    s.modZone z f = s.putZone z (f (s.zone z)) := rfl

/-- What an issue writes: the stream as `x`, and the zone with its new entry. -/
def State.withStream (s : State) (st : StreamNo) (x : Stream) : State :=
  { s with intake := { s.intake with streams := tblSet s.intake.streams st x } }

theorem modStream_eq_withStream (s : State) (st : StreamNo) (f : Stream → Stream) :
    s.modStream st f = s.withStream st (f (s.stream st)) := rfl

/-! ### An issue answered with a cell (R51, R54, R117) -/

theorem issueAnswer_cell {s : State} {st : StreamNo} {c : CellNo} {rest : List CellNo}
    (queue : (s.stream st).queue = c :: rest) :
    issueAnswer st s = (some c, demandCheck st (s.withStream st { s.stream st with queue := rest })) := by
  unfold issueAnswer
  rw [queue]
  rfl

@[simp] theorem State.withStream_stream (s : State) (st : StreamNo) (x : Stream) :
    (s.withStream st x).stream st = x := tblGet_tblSet_same _ _ _

theorem fQueueCount_eq (n : Nat) :
    fQueueCount n = ⟨1, if n < 256 then n else (Config.wideCountByte n).toNat⟩ := by
  unfold fQueueCount f1
  split <;> rfl

theorem demandReport_withStream (s : State) (st : StreamNo) (x : Stream) :
    demandReport st (s.withStream st x) =
      offerEvent .streamDemand st.val [fQueueCount x.queue.length, f2 (x.quota - x.queue.length)]
        (s.withStream st { x with demandArmed := false }) := by
  have written : (s.withStream st x).modStream st (fun d => { d with demandArmed := false }) =
      s.withStream st { x with demandArmed := false } := by
    unfold State.withStream State.modStream State.modIntake
    simp only [tblMod, tblGet_tblSet_same, tblSet_tblSet]
  unfold demandReport
  simp only [written, State.withStream_stream]

theorem demandCheck_withStream (s : State) (st : StreamNo) (x : Stream) :
    demandCheck st (s.withStream st x) =
      if x.cls = .paced ∧ x.demandArmed = true ∧ x.queue.length ≤ x.demandMark then
        offerEvent .streamDemand st.val [fQueueCount x.queue.length, f2 (x.quota - x.queue.length)]
          (s.withStream st { x with demandArmed := false })
      else s.withStream st x := by
  unfold demandCheck
  simp only [State.withStream_stream, demandReport_withStream]

theorem issue_normal {s : State} {z : ZoneNo} {st : StreamNo} {c : CellNo} {rest : List CellNo} {a : AudioCell}
    (gainStart : Nat) (stream : (s.activeZone z).stream = some st) (queue : (s.stream st).queue = c :: rest)
    (cell : s.audioCell c = some a) :
    issue z gainStart s =
      let e := normalEntry (s.zone z) s.block gainStart c (some a)
      (e, (demandCheck st (s.withStream st { s.stream st with queue := rest })).putZone z
        ((s.zone z).addEntry e)) := by
  have answer := issueAnswer_cell queue
  have same := Only.issueAnswer st s
  rw [answer] at same
  unfold issue
  rw [stream]
  simp only [answer, issueNormal, modZone_eq_putZone, same.zone_eq, same.block_eq, same.audioCell_eq, cell]

/-! ### An issue answered empty (R118, R119) -/

/-- A stream that answered an issue empty (R51). -/
def Stream.slipped (d : Stream) : Stream := d.count fun k => { k with slips := bump k.slips 1 }

def Stream.underran (d : Stream) : Stream := d.count fun k => { k with underruns := bump k.underruns 1 }

theorem issueAnswer_slip {s : State} {st : StreamNo} (queue : (s.stream st).queue = [])
    (live : (s.stream st).cls = .live) :
    issueAnswer st s = (none, s.withStream st (s.stream st).slipped) := by
  unfold issueAnswer
  rw [queue]
  simp only [modStream_eq_withStream, live]
  rfl

theorem issueAnswer_underrun {s : State} {st : StreamNo} (queue : (s.stream st).queue = [])
    (paced : (s.stream st).cls = .paced) :
    issueAnswer st s = (none, s.withStream st (s.stream st).underran) := by
  unfold issueAnswer
  rw [queue]
  simp only [modStream_eq_withStream, paced]
  rfl

theorem issue_live {s : State} {z : ZoneNo} {st : StreamNo} (gainStart : Nat)
    (stream : (s.activeZone z).stream = some st) (queue : (s.stream st).queue = [])
    (live : (s.stream st).cls = .live) :
    issue z gainStart s = issueConcealed z gainStart (s.withStream st (s.stream st).slipped) := by
  unfold issue
  rw [stream]
  simp only [issueAnswer_slip queue live, live]

theorem issue_paced {s : State} {z : ZoneNo} {st : StreamNo} (gainStart : Nat)
    (stream : (s.activeZone z).stream = some st) (queue : (s.stream st).queue = [])
    (paced : (s.stream st).cls = .paced) :
    issue z gainStart s = issueStarved z st gainStart (s.withStream st (s.stream st).underran) := by
  unfold issue
  rw [stream]
  simp only [issueAnswer_underrun queue paced, paced]

/-- Nothing to repeat, or no cell for the copy: the issue is SILENT. -/
theorem issueConcealed_silent {s : State} {z : ZoneNo} (gainStart : Nat)
    (h : (s.zone z).prevKind ≠ some .normal ∨ s.store.freeList.length ≤ s.store.claimReserve) :
    issueConcealed z gainStart s =
      let e := silentEntry (s.zone z) s.block gainStart
      (e, s.putZone z ((s.zone z).addEntry e)) := by
  unfold issueConcealed
  by_cases before : (s.zone z).prevKind = some .normal
  · have refused : takeCell .concealment s = none :=
      takeCell_refused (kind := .concealment) (h.resolve_left (not_not.mpr before))
    simp only [if_pos before, refused]
    rfl
  · exact if_neg before

/-- The copy of the block before is issued (R22, R118); the take's report stands after all that is written. -/
theorem issueConcealed_copied {s : State} {z : ZoneNo} {c : CellNo} {rest : List CellNo} (gainStart : Nat)
    (before : (s.zone z).prevKind = some .normal) (free : s.store.freeList = c :: rest)
    (granted : s.store.claimReserve < rest.length + 1) :
    issueConcealed z gainStart s =
      let e := repeatEntry (s.zone z) s.block gainStart c
      let low := s.store.depletionArmed && decide (rest.length ≤ s.store.depletionMark)
      let copied := (s.withTaken rest (s.store.depletionArmed && !low)).setCell c (s.copyOfNewest z)
      (e, (if low then
          offerEvent .storeDepletion 0 [⟨4, rest.length⟩, ⟨4, s.store.depletionMark⟩] copied
        else copied).putZone z ((s.zone z).addEntry e)) := by
  have taken := takeCell_granted (kind := .concealment) free granted
  have same := (Only.takeCell taken).zone_eq (z := z)
  unfold issueConcealed
  simp only [if_pos before, taken, modZone_eq_putZone]
  have moved (u : State) : ((u.setCell c (s.copyOfNewest z)).zone z) = u.zone z := rfl
  rw [moved, same]
  congr 2
  rw [depletionCheck_taken]
  simp only []
  split
  · exact offerEvent_after (fun v => v.setCell c _) _ rfl rfl rfl (fun _ _ => rfl) _ _ _
  · rfl

theorem State.copyOfNewest_eq {s : State} {z : ZoneNo} {newest : IssueEntry} {old : CellNo} {a : AudioCell}
    (last : (s.zone z).ring.getLast? = some newest) (cell : newest.cell = some old)
    (audio : s.audioCell old = some a) : s.copyOfNewest z = .audio (concealmentCopy a) := by
  unfold State.copyOfNewest
  rw [last, Option.bind_some, cell, Option.bind_some, audio]

/-! ### The work of a PLAYING zone (R112, R120) -/

theorem nextGain_eq (gain target step : Nat) :
    nextGain gain target step =
      if step = 0 then target else if gain < target then min (gain + step) target
      else max (gain - step) target := by
  unfold nextGain
  split
  · rfl
  · split
    · rfl
    · split <;> omega

theorem State.entryEnds_eq (s : State) (e : IssueEntry) :
    s.entryEnds e = (e.cell.bind s.audioCell).any AudioCell.endFlag := by
  unfold State.entryEnds State.entryCell
  cases e.cell.bind s.audioCell <;> rfl

/-- What an issue makes of a zone: one entry, the next, the running lead ahead, with a cell unless it is SILENT
(R112, R117 to R119). -/
structure Issued (s : State) (z : ZoneNo) (e : IssueEntry) (t : State) : Prop where
  zones : t.playout.zones = tblSet s.playout.zones z ((s.zone z).addEntry e)
  number : e.number = (s.zone z).issueNumber + 1
  block : e.block = s.timeline.block + (s.zone z).runningLead
  typed : e.cell = none ↔ e.kind = .silent

/-- An entry that joins the ring once parts were written that a zone's issue does not read. -/
theorem Issued.of_only {l : List Part} {s u : State} (h : Only l s u) {z : ZoneNo} {e : IssueEntry}
    (number : e.number = (s.zone z).issueNumber + 1) (block : e.block = s.block + (s.zone z).runningLead)
    (typed : e.cell = none ↔ e.kind = .silent) (hl : l.contains .zones = false := by decide) :
    Issued s z e (u.modZone z fun r => r.addEntry e) := by
  have zones : u.playout.zones = s.playout.zones := h.same .zones hl
  have zone : u.zone z = s.zone z := h.zone_eq hl z
  refine ⟨?_, number, block, typed⟩
  rw [modZone_eq_putZone, zone, State.putZone, zones]

theorem Issued.then_only {l : List Part} {s t u : State} {z : ZoneNo} {e : IssueEntry} (h : Issued s z e t)
    (k : Only l t u) (hl : l.contains .zones = false := by decide) : Issued s z e u :=
  ⟨Eq.trans (k.same .zones hl) h.zones, h.number, h.block, h.typed⟩

theorem Issued.after_only {l : List Part} {s t u : State} {z : ZoneNo} {e : IssueEntry} (k : Only l s t)
    (h : Issued t z e u) (zones : l.contains .zones = false := by decide)
    (clock : l.contains .clock = false := by decide) : Issued s z e u := by
  have same : t.playout.zones = s.playout.zones := k.same .zones zones
  have zone : t.zone z = s.zone z := k.zone_eq zones z
  have block : t.timeline.block = s.timeline.block := (k.clock_eq clock).2
  obtain ⟨written, number, ahead, typed⟩ := h
  rw [same, zone] at written
  rw [zone] at number
  rw [zone, block] at ahead
  exact ⟨written, number, ahead, typed⟩

theorem issueConcealed_issued (z : ZoneNo) (gainStart : Nat) (s : State) :
    Issued s z (issueConcealed z gainStart s).1 (issueConcealed z gainStart s).2 := by
  unfold issueConcealed
  have silent : Issued s z (silentEntry (s.zone z) s.block gainStart)
      (s.modZone z fun r => r.addEntry (silentEntry (s.zone z) s.block gainStart)) :=
    .of_only (.refl [] s) rfl rfl (by simp [silentEntry])
  simp only []
  split
  · split
    · rename_i taken
      exact .of_only ((Only.takeCell taken).then (m := [.store, .source, .tap]) (Only.setCell _ _ _)) rfl rfl
        (by simp [repeatEntry])
    · exact silent
  · exact silent

theorem issue_issued (z : ZoneNo) (gainStart : Nat) (s : State) :
    Issued s z (issue z gainStart s).1 (issue z gainStart s).2 := by
  unfold issue
  split
  · exact .of_only (.refl [] s) rfl rfl (by simp [silentEntry])
  · rename_i st _
    have answer := Only.issueAnswer st s
    split <;> rename_i found <;> rw [found] at answer
    · have normal (c : CellNo) (t : State) :
          Issued t z (issueNormal z c gainStart t).1 (issueNormal z c gainStart t).2 :=
        .of_only (.refl [] t) rfl rfl (by simp [issueNormal, normalEntry])
      exact .after_only answer (normal _ _)
    · have starved (t : State) :
          Issued t z (issueStarved z st gainStart t).1 (issueStarved z st gainStart t).2 :=
        .then_only (.of_only (e := silentEntry (t.zone z) t.block gainStart) (.refl [] t) rfl rfl
          (by simp [silentEntry])) (Only.offerEvent _ _ _ _)
      split
      · exact .after_only answer (issueConcealed_issued _ _ _)
      · exact .after_only answer (starved _)

theorem Issued.zone {s t : State} {z : ZoneNo} {e : IssueEntry} (h : Issued s z e t) :
    t.zone z = (s.zone z).addEntry e := by
  rw [State.zone, h.zones, tblGet_tblSet_same]

theorem State.listeners_eq (s : State) (z : ZoneNo) :
    s.listeners z = allSpeakers.filter fun sp =>
      (s.activeSpeaker sp).present && decide ((s.speaker sp).zone = some z) := by
  unfold State.listeners State.presentSpeakers
  rw [List.filter_filter]
  refine List.filter_congr fun sp _ => ?_
  rw [Bool.and_comm, beq_eq_decide]

/-- A zone that its END leaves DRAINING still holds the entry it issued. -/
theorem endedIssue_drains {z : ZoneNo} {s v w : State} {e : IssueEntry} {l : List Part} (issued : Issued s z e v)
    (later : Only l v w) (hl : l.contains .zones = false := by decide) :
    settleDraining z (enterDraining z w) = w.inState z .draining := by
  refine settleDraining_ring (s := w.inState z .draining) ?_
  rw [State.inState_zone, later.zone_eq hl, issued.zone]
  simp [ZoneRun.addEntry]

/-- The gain, the issue, the tap block and the first-sends of a zone that plays, to the END of its stream. -/
theorem issueWork_issued {z : ZoneNo} {u v : State} {e : IssueEntry}
    (issued : issue z (u.zone z).gain
      (u.modZone z fun r => { r with gain := nextGain r.gain r.target r.gainStep }) = (e, v)) :
    issueWork z u =
      let sent := firstSends z e (tapIssue z e v)
      if (e.cell.bind sent.audioCell).any AudioCell.endFlag then sent.inState z .draining else sent := by
  have entry := issue_issued z (u.zone z).gain
    (u.modZone z fun r => { r with gain := nextGain r.gain r.target r.gainStep })
  rw [issued] at entry
  have later : Only [.source, .tap, .speakers, .air] v (firstSends z e (tapIssue z e v)) :=
    (Only.tapIssue z e v).then (Only.firstSends z e _)
  unfold issueWork
  simp only [issued, State.entryEnds_eq, endedIssue_drains entry later]

/-! ### First-sends and joins (R127 to R129) -/

theorem eligible_iff (s : State) (sp : SpeakerNo) : s.eligible sp = true ↔ s.hears sp := by
  unfold State.eligible State.hears
  cases (s.entry (speakerEntry sp)).state <;> simp

/-- A join of a speaker whose zone is not playing, or that is sent nothing, is its ramp alone (R129). -/
theorem join_ramp {s : State} {sp : SpeakerNo}
    (h : ∀ y : ZoneNo, (s.speaker sp).zone = some y → (s.zone y).state ≠ .playing ∨ ¬ s.hears sp) :
    join sp s = setRampPending sp s := by
  unfold join
  split
  · rfl
  · rename_i y zone
    refine if_neg fun ⟨playing, eligible⟩ => ?_
    exact (h y zone).elim (· playing) (· ((eligible_iff s sp).mp eligible))

/-- A join of a speaker that is sent frames of a PLAYING zone: the entries that it has still time for. -/
theorem join_backfills {s : State} {z : ZoneNo} {sp : SpeakerNo} (zone : (s.speaker sp).zone = some z)
    (playing : (s.zone z).state = .playing) (hears : s.hears sp) :
    join sp s = (setRampPending sp s).forEach
      (backfillable (s.zone z).ring (s.speaker sp).horizon s.block s.store.refillMargin)
      (sendEntry .backfill z sp) := by
  unfold join
  simp only [zone]
  rw [if_pos ⟨playing, (eligible_iff s sp).mpr hears⟩]

end Sys2Proof.Machine

open Sys2Proof Sys2Proof.Machine

/-- Settles O48. -/
theorem cellIssuedAsNormalEntry : Obligations.CellIssuedAsNormalEntry := by
  refine ⟨fun s z st gainStart stream => ?issues, fun s z => ⟨fun playing => ?work, fun other => ?waits,
    fun playing => ?steps⟩, fun s z sp => ⟨fun e => ⟨fun deaf => ?deaf, fun hears ahead => ?sent,
    fun hears behind => ?overlap⟩, fun h => ?ramp, fun zone playing hears => ?backfill⟩⟩
  case issues =>
    intro d r number block entry ringed put silent silents
    refine ⟨fun c rest a queue cell => ?_, fun queue live => ⟨fun h => ?_, ?_⟩, fun queue paced => ?_⟩
    · rw [issue_normal gainStart stream queue cell, demandCheck_withStream, fQueueCount_eq]
      rfl
    · rw [issue_live gainStart stream queue live, issueConcealed_silent (s := s.withStream st (s.stream st).slipped) gainStart h]
      rfl
    · intro newest old c rest a before last cell audio free granted
      rw [issue_live gainStart stream queue live,
        issueConcealed_copied (s := s.withStream st (s.stream st).slipped) gainStart before free granted,
        State.copyOfNewest_eq (s := s.withStream st (s.stream st).slipped) last cell audio]
      rfl
    · rw [issue_paced gainStart stream queue paced]
      rfl
  case work =>
    unfold zoneWork
    rw [show (s.zone z).state = .playing from playing]
    show playingSteps z (releaseDue z s) = _
    rw [releaseDue_eq]
    rfl
  case waits => exact if_neg other
  case steps =>
    intro gain advanced e v issue tapped listeners sent
    have gained : advanced = (boundaryNotice z s).modZone z fun r =>
        { r with gain := nextGain r.gain r.target r.gainStep } := by
      simp only [nextGain_eq]
      rfl
    have issued := issueWork_issued (u := boundaryNotice z s) (e := e) (v := v) (gained ▸ issue)
    have sends : firstSends z e tapped = sent := by
      unfold firstSends
      rw [State.listeners_eq]
      rfl
    refine (if_pos playing).trans (issued.trans ?_)
    simp only [show firstSends z e (tapIssue z e v) = sent from sends]
    rfl
  case deaf => exact if_neg (mt (eligible_iff s sp).mp deaf)
  case sent =>
    unfold firstSend
    rw [if_pos ((eligible_iff s sp).mpr hears), if_pos ahead]
    rfl
  case overlap =>
    unfold firstSend
    rw [if_pos ((eligible_iff s sp).mpr hears), if_neg (not_lt.mpr behind)]
    rfl
  case ramp => exact join_ramp h
  case backfill => exact join_backfills zone playing hears
end

section
/-! The laws of the cells, of the zones and of the claim records read a small part of the state. What leaves that part
alone is `Still`; what changes it is a short list of operations, `StepClosed`; and a relation that holds across each
of these holds across every step. -/

namespace Sys2Proof.Machine

open Sys2Proof

/-! ### What the laws of cells, zones and records read -/

/-- Every cell stands where it stood and holds what it held; the zones, the banks, the current block and the zones'
works still due are as they were. -/
structure Still (s t : State) : Prop where
  free : t.store.freeList = s.store.freeList
  cells : t.store.cells = s.store.cells
  queues : ∀ st : StreamNo, (t.stream st).queue = (s.stream st).queue
  zones : t.playout.zones = s.playout.zones
  claims : t.overlay.claimStacks = s.overlay.claimStacks
  active : t.plan.active = s.plan.active
  staged : t.plan.staged = s.plan.staged
  block : t.timeline.block = s.timeline.block
  due : t.agenda.zones = s.agenda.zones

theorem Still.refl (s : State) : Still s s := ⟨rfl, rfl, fun _ => rfl, rfl, rfl, rfl, rfl, rfl, rfl⟩

theorem Still.trans {s t u : State} (h : Still s t) (k : Still t u) : Still s u where
  free := k.free.trans h.free
  cells := k.cells.trans h.cells
  queues st := (k.queues st).trans (h.queues st)
  zones := k.zones.trans h.zones
  claims := k.claims.trans h.claims
  active := k.active.trans h.active
  staged := k.staged.trans h.staged
  block := k.block.trans h.block
  due := k.due.trans h.due

/-- The parts of the state that these laws do not read. -/
abbrev stillParts : List Part :=
  [.timing, .marks, .entries, .params, .swapFlag, .trims, .accessed, .speakers, .tap, .memory, .cueRuns, .air,
   .source]

/-- A change of parts that these laws do not read, and of works on the agenda other than the zones'. -/
theorem Only.still_due {m : List Part} {s t : State} (h : Only m s t) (due : t.agenda.zones = s.agenda.zones)
    (hm : m.all (fun p => (Part.agenda :: stillParts).contains p) = true := by decide) : Still s t := by
  have same (p : Part) (hp : (Part.agenda :: stillParts).contains p = false) : SameIn p s t :=
    h.2.2 p fun member => by rw [List.all_eq_true.mp hm p member] at hp; cases hp
  have store : t.store = s.store := same .store (by decide)
  have intake : t.intake = s.intake := same .intake (by decide)
  have overlay : t.overlay = s.overlay := same .overlay (by decide)
  exact
    { free := by rw [store]
      cells := by rw [store]
      queues := fun st => by rw [State.stream, intake]; rfl
      zones := same .zones (by decide)
      claims := by rw [overlay]
      active := same .active (by decide)
      staged := same .staged (by decide)
      block := (same .clock (by decide)).2
      due := due }

theorem Only.still {m : List Part} {s t : State} (h : Only m s t)
    (hm : m.all stillParts.contains = true := by decide) : Still s t := by
  have agenda : m.contains .agenda = false := by
    by_contra member
    have listed := List.all_eq_true.mp hm .agenda (by simpa using member)
    exact absurd listed (by decide)
  refine h.still_due (by rw [h.agenda_eq agenda]) (List.all_eq_true.mpr fun p member => ?_)
  have listed := List.all_eq_true.mp hm p member
  simp only [List.contains_cons, listed, Bool.or_true]

theorem Still.forEach {α : Type} (f : α → State → State) (h : ∀ a s, Still s (f a s)) (l : List α) (s : State) :
    Still s (s.forEach l f) := by
  induction l generalizing s with
  | nil => exact .refl s
  | cons a l ih => exact (h a s).trans (ih (f a s))

theorem Still.modAgenda (s : State) (f : Agenda → Agenda) (h : (f s.agenda).zones = s.agenda.zones := by rfl) :
    Still s (s.modAgenda f) := (Only.modAgenda s f).still_due h

/-- A change of a stream's descriptor that leaves its queue. -/
theorem Still.modStream {s : State} {st : StreamNo} {f : Stream → Stream}
    (h : (f (s.stream st)).queue = (s.stream st).queue) : Still s (s.modStream st f) := by
  refine ⟨rfl, rfl, fun o => ?_, rfl, rfl, rfl, rfl, rfl, rfl⟩
  rw [State.stream_modStream]
  split
  · subst o; exact h
  · rfl

theorem Still.modIntake (s : State) (f : Intake → Intake) (h : (f s.intake).streams = s.intake.streams := by rfl) :
    Still s (s.modIntake f) :=
  ⟨rfl, rfl, fun st => congrArg (fun t => (tblGet t st).queue) h, rfl, rfl, rfl, rfl, rfl, rfl⟩

/-- A change of the store's settings and flag. -/
theorem Still.modStore {s : State} {f : CellStore → CellStore} (free : (f s.store).freeList = s.store.freeList)
    (cells : (f s.store).cells = s.store.cells) : Still s (s.modStore f) :=
  ⟨free, cells, fun _ => rfl, rfl, rfl, rfl, rfl, rfl, rfl⟩

theorem Still.modClaimCounters (s : State) (z : ZoneNo) (f : ClaimCounters → ClaimCounters) :
    Still s (s.modClaimCounters z f) := ⟨rfl, rfl, fun _ => rfl, rfl, rfl, rfl, rfl, rfl, rfl⟩

theorem Still.modCueRun (s : State) (z : ZoneNo) (f : CueRun → CueRun) : Still s (s.modCueRun z f) :=
  (Only.modCueRun s z f).still

theorem Still.offerEvent (code : EventCode) (subject : Nat) (payload : List Field) (s : State) :
    Still s (offerEvent code subject payload s) := (Only.offerEvent code subject payload s).still

theorem Still.reply (kind : Byte) (d : Header) (status : Status) (payload : List Field) (s : State) :
    Still s (reply kind d status payload s) := (Only.reply kind d status payload s).still

theorem Still.demandReport (st : StreamNo) (s : State) : Still s (demandReport st s) :=
  (Still.modStream rfl).trans (Still.offerEvent _ _ _ _)

theorem Still.countMalformed (s : State) : Still s s.countMalformed := Still.modIntake s _

theorem Still.countStray (s : State) : Still s s.countStray := Still.modIntake s _

theorem Still.echoArrives (f : EchoFrame) (s : State) : Still s (echoArrives f s) := by
  unfold Machine.echoArrives
  split
  · exact Still.countMalformed s
  · split
    · exact Still.countMalformed s
    · split
      · exact Still.countStray s
      · have echo := (Only.handEcho ‹_› f.beacon f.count f.resync s).still
        simp only []
        split
        · exact echo
        · exact echo.trans (Still.forEach _ (fun _ _ => (Only.serveGap _ _ _ _).still) _ _)

theorem Still.dueNotice (e : EntryNo) (s : State) : Still s (dueNotice e s) :=
  (Only.dueNotice e s).still_due (by rw [dueNotice_agenda])

theorem Still.dueNotices (l : List EntryNo) (s : State) : Still s (dueNotices l s) :=
  Still.forEach _ Still.dueNotice l s

theorem Still.emitBeacon (interval : Nat) (s : State) : Still s (emitBeacon interval s) :=
  (Only.emitBeacon interval s).still_due (by rw [emitBeacon_agenda])

theorem Still.takeBeacon (later : List EntryNo) (s : State) : Still s (takeBeacon later s) := by
  unfold Machine.takeBeacon
  split
  · exact .refl s
  · exact ((Still.dueNotices _ s).trans (Still.emitBeacon _ _)).trans (Still.dueNotices _ _)

theorem Still.takeElection (s : State) : Still s (takeElection s) :=
  (Only.takeElection s).still_due (by rw [takeElection_agenda])

theorem Still.tick (s : State) : Still s (s.modTimeline fun t => { t with count := t.count + 1 }) :=
  ⟨rfl, rfl, fun _ => rfl, rfl, rfl, rfl, rfl, rfl, rfl⟩

/-! ### What changes it -/

/-- The staged bank written. -/
def State.withStaged (s : State) (b : Bank) : State := s.modPlan fun p => { p with staged := b }

/-- The relation holds across every operation that changes what the laws of cells, zones and records read, but for the
work of a zone. -/
structure OutsideWork (R : State → State → Prop) : Prop where
  trans : ∀ {s t u}, R s t → R t u → R s u
  still : ∀ {s t}, Still s t → R s t
  emptied : ∀ st s, R s (emptyQueue st s)
  overflowed : ∀ st s, R s (overflow st s)
  appended : ∀ {s t c}, takeCell .intake s = some (c, t) →
    ∀ st f gap discontinuity, R s (appendFrame st f gap discontinuity c t)
  staged : ∀ {s b}, (s.BanksLegal → b.Legal) → R s (s.withStaged b)
  swapped : ∀ {s}, validateSwap s = none → R s (takeSwap s)
  started : ∀ {s z}, startRefusal z s = none → R s (startZone z s)
  levelled : ∀ s z {target gainStep : Nat}, target ≤ 32767 → gainStep ≤ 4095 →
    R s (s.modZone z fun r => { r with target := target, gainStep := gainStep })
  stopped : ∀ z s, R s (softStop z s)
  halted : ∀ z s, R s (hardStop z s)
  opened : ∀ {s}, (∀ z, tblGet s.agenda.zones z = false) → R s (openBoundary s)
  restarted : ∀ s, R s (restartBlocks s)
  reset : ∀ s rstLow pending, R s { State.reset with rstLow := rstLow, pending := pending }

/-- A zone's work taken from the agenda. -/
def State.workTaken (s : State) (z : ZoneNo) : State :=
  s.modAgenda fun a => { a with zones := tblSet a.zones z false }

/-- The relation holds across the work of a zone too, where it is due. -/
structure StepClosed (R : State → State → Prop) : Prop extends OutsideWork R where
  worked : ∀ {s z}, tblGet s.agenda.zones z = true → R s (zoneWork z (s.workTaken z))

section
variable {R : State → State → Prop} (h : OutsideWork R)
include h

theorem OutsideWork.refl (s : State) : R s s := h.still (.refl s)

theorem OutsideWork.after {s t u : State} (k : Still s t) (r : R t u) : R s u := h.trans (h.still k) r

theorem OutsideWork.before {s t u : State} (r : R s t) (k : Still t u) : R s u := h.trans r (h.still k)

theorem OutsideWork.forEach {α : Type} (f : α → State → State) (each : ∀ a s, R s (f a s)) (l : List α)
    (s : State) : R s (s.forEach l f) := by
  induction l generalizing s with
  | nil => exact h.refl s
  | cons a l ih => exact h.trans (each a s) (ih (f a s))

/-! ### Stream Intake -/

theorem OutsideWork.flushQueue (st : StreamNo) (s : State) : R s (flushQueue st s) := by
  unfold Machine.flushQueue
  simp only []
  split
  · exact h.before (h.emptied st s) (Still.demandReport _ _)
  · exact h.emptied st s

theorem OutsideWork.storeFrame (st : StreamNo) (f : SourceFrame) (gap : Nat) (discontinuity : Bool) (s : State) :
    R s (storeFrame st f gap discontinuity s) := by
  unfold Machine.storeFrame
  split
  · exact h.appended ‹_› st f gap discontinuity
  · exact h.still ((Still.modStream rfl).trans (Still.offerEvent _ _ _ _))

theorem OutsideWork.admitFrame (st : StreamNo) (f : SourceFrame) (gap : Nat) (s : State) :
    R s (admitFrame st f gap s) := by
  unfold Machine.admitFrame
  simp only []
  split
  · exact h.storeFrame _ _ _ _ s
  · split
    · exact h.trans (h.overflowed st s) (h.storeFrame _ _ _ _ _)
    · exact h.still ((Still.modStream rfl).trans (Still.offerEvent _ _ _ _))

theorem OutsideWork.sourceArrives (f : SourceFrame) (s : State) : R s (sourceArrives f s) := by
  unfold Machine.sourceArrives
  split
  · exact h.still (Still.countMalformed s)
  · split
    · exact h.still (Still.countStray s)
    · split
      · unfold judgeFrame
        simp only []
        split
        · exact h.still (Still.countMalformed s)
        · split
          · exact h.admitFrame _ _ _ s
          · exact h.still (Still.modStream rfl)
      · exact h.still (Still.countStray s)

/-! ### The swap and the marks -/

theorem OutsideWork.takeSwap (s : State) : R s (takeSwap s) := by
  cases judged : validateSwap s with
  | some r =>
    rw [takeSwap_refused judged]
    exact h.still ((Still.modAgenda s _).trans (Only.refuseSwap _ _).still)
  | none =>
    exact h.swapped judged

theorem OutsideWork.markAction (k : MarkNo) (mk : Mark) (s : State) : R s (markAction k mk s) := by
  unfold Machine.markAction
  have report (code reason t) : Still t (Machine.markReport k mk code reason t) :=
    (Only.markReport k mk code reason t).still
  split
  · exact h.still (report _ _ s)
  · split
    · exact h.still (report _ _ s)
    · exact h.before (h.takeSwap s) (report _ _ _)
  · split
    · exact h.still (report _ _ s)
    · split
      · exact h.still (report _ _ s)
      · exact h.before (h.started ‹_›) (report _ _ _)
  · split
    · exact h.still (report _ _ s)
    · exact h.before (h.stopped _ s) (report _ _ _)

theorem OutsideWork.fireMark (k : MarkNo) (s : State) : R s (fireMark k s) := by
  unfold Machine.fireMark
  have taken : Still s (s.modAgenda fun a => { a with marks := tblSet a.marks k false }) := Still.modAgenda s _
  simp only []
  split
  · split
    · exact h.after (taken.trans (Only.modMark _ _ _).still) (h.markAction _ _ _)
    · exact h.still taken
  · exact h.refl s

theorem OutsideWork.settleSwap (s : State) : R s (settleSwap s) := by
  have marks (t : State) : R t (t.forEach allMarks fireSwapMark) := by
    refine h.forEach _ (fun k u => ?_) _ t
    unfold fireSwapMark
    split
    · exact h.fireMark k u
    · exact h.refl u
  unfold Machine.settleSwap
  split
  · exact h.trans (h.takeSwap s) (marks _)
  · exact marks s

theorem OutsideWork.dueMark (k : MarkNo) (s : State) : R s (dueMark k s) := by
  unfold Machine.dueMark
  split
  · exact h.fireMark k s
  · exact h.fireMark k s
  · exact h.trans (h.settleSwap s) (h.fireMark _ _)
  · exact h.trans (h.settleSwap s) (h.fireMark _ _)

theorem OutsideWork.settleMark (k : MarkNo) (s : State) : R s (settleMark k s) := by
  unfold Machine.settleMark
  split
  · exact h.dueMark k s
  · exact h.refl s

end

end Sys2Proof.Machine
end

section
/-! The directives, the works of a boundary and the step: what holds across the operations of `StepClosed` holds
across each of them. -/

namespace Sys2Proof.Machine

open Sys2Proof

/-! ### Directives that leave what the laws read -/

theorem Still.writeTau (v : Int) (s : State) : Still s (writeTau v s) := (Only.writeTau v s).still

theorem Still.modTimeline {s : State} {f : Timeline → Timeline} (block : (f s.timeline).block = s.timeline.block) :
    Still s (s.modTimeline f) :=
  ⟨rfl, rfl, fun _ => rfl, rfl, rfl, rfl, rfl, block, rfl⟩

theorem Still.setTimebase (d : Header) (mode : Byte) (tau candidates : BitVec 16) (s : State) :
    Still s (setTimebase d mode tau candidates s) := by
  unfold Machine.setTimebase
  have replied := fun status => Still.reply 0x10 d status [] s
  have mode (m : TimebaseMode) (t : State) : Still t (setMode m t) := by
    refine Still.modTimeline ?_
    split <;> rfl
  split
  · exact replied _
  · split
    · exact replied _
    · exact (((replied _).trans (Still.modTimeline rfl)).trans (Still.writeTau _ _)).trans (mode _ _)
    · exact ((replied _).trans (Still.modTimeline rfl)).trans (mode _ _)

theorem Still.setBeacon (d : Header) (interval : Byte) (s : State) : Still s (setBeacon d interval s) := by
  unfold Machine.setBeacon
  split
  · exact Still.reply _ _ _ _ s
  · exact (Still.reply _ _ _ _ s).trans (Still.modTimeline rfl)

theorem Still.requestSwap (d : Header) (s : State) : Still s (requestSwap d s) := by
  unfold Machine.requestSwap
  split
  · exact Still.reply _ _ _ _ s
  · split
    · exact Still.reply _ _ _ _ s
    · exact (Still.reply _ _ _ _ s).trans (Only.modPlan_swap _ _).still

theorem Still.setTrim (d : Header) (speaker : Byte) (gain : BitVec 16) (delay : BitVec 24) (s : State) :
    Still s (setTrim d speaker gain delay s) := by
  unfold Machine.setTrim
  have replied := fun status => Still.reply 0x43 d status [] s
  have written (sp : SpeakerNo) (t : Trim) (u : State) : Still u (writeTrim sp t u) := by
    unfold writeTrim
    have trims := (Only.modPlan_trims u fun l => tblSet l sp t).still
    simp only []
    split
    · exact trims.trans (Only.setRampPending _ _).still
    · exact trims
  split
  · exact replied _
  · split
    · exact replied _
    · split
      · exact replied _
      · exact (replied _).trans (written _ _ _)

theorem Still.pollAccessed (d : Header) (s : State) : Still s (pollAccessed d s) :=
  (Still.reply _ _ _ _ s).trans (Still.forEach _ (fun _ _ => (Only.setAccessed _ _ _).still) _ _)

theorem Still.resyncSpeaker (d : Header) (speaker : Byte) (s : State) : Still s (resyncSpeaker d speaker s) := by
  unfold Machine.resyncSpeaker
  have replied := fun status => Still.reply 0x45 d status [] s
  split
  · exact replied _
  · split
    · exact replied _
    · split
      · exact replied _
      · exact (replied _).trans (Only.modEntry _ _ _).still

theorem Still.setTracking (d : Header) (o : TrackingOperands) (s : State) : Still s (setTracking d o s) := by
  unfold Machine.setTracking
  split
  · exact Still.reply _ _ _ _ s
  · exact (Still.reply _ _ _ _ s).trans (Only.modTracker_params _ _).still

theorem Still.setStore (d : Header) (mark : BitVec 16) (reserve margin : Byte) (s : State) :
    Still s (setStore d mark reserve margin s) := by
  unfold Machine.setStore
  split
  · exact Still.reply _ _ _ _ s
  · exact (Still.reply _ _ _ _ s).trans
      (Still.modStore (by rw [CellStore.rearm_eq]) (by rw [CellStore.rearm_eq]))

theorem Still.onPresentZone (kind : Byte) (d : Header) (zone : Option ZoneNo) (s : State)
    (work : ZoneNo → State) (h : ∀ z, Still s (work z)) : Still s (onPresentZone kind d zone s work) := by
  unfold Machine.onPresentZone
  split
  · exact Still.reply _ _ _ _ s
  · split
    · exact Still.reply _ _ _ _ s
    · split
      · exact Still.reply _ _ _ _ s
      · exact h _

theorem Still.armTap (d : Header) (zone : Byte) (s : State) : Still s (armTap d zone s) := by
  refine Still.onPresentZone _ _ _ _ _ fun z => ?_
  split
  · exact (Still.reply _ _ _ _ s).trans (Only.modTap _ _).still
  · exact Still.reply _ _ _ _ s

theorem Still.disarmTap (d : Header) (zone : Byte) (s : State) : Still s (disarmTap d zone s) := by
  unfold Machine.disarmTap
  have replied := fun status => Still.reply 0x71 d status [] s
  split
  · exact replied _
  · split
    · exact replied _
    · split
      · exact replied _
      · split
        · exact (replied _).trans (Only.endTap _ _).still
        · exact replied _

theorem Still.writeCues (d : Header) (start : BitVec 16) (words : List CueWord) (s : State) :
    Still s (writeCues d start words s) := by
  unfold Machine.writeCues
  have replied := fun status => Still.reply 0x60 d status [] s
  split
  · exact (Still.countMalformed s).trans (Still.reply _ _ _ _ _)
  · split
    · exact replied _
    · split
      · exact replied _
      · split
        · exact replied _
        · exact (replied _).trans (Only.modCueEngine_memory _ _).still

theorem Still.cueGo (d : Header) (zone : Byte) (index : BitVec 16) (s : State) : Still s (cueGo d zone index s) := by
  unfold Machine.cueGo
  split
  · exact Still.reply _ _ _ _ s
  · exact Still.onPresentZone _ _ _ _ _ fun _ => (Still.reply _ _ _ _ s).trans (Still.modCueRun _ _ _)

theorem Still.haltOrResume (kind : Byte) (d : Header) (zone : Byte) (status : CueStatus) (s : State) :
    Still s (haltOrResume kind d zone status s) := by
  refine Still.onPresentZone _ _ _ _ _ fun z => ?_
  have taken : Still s ((Machine.reply kind d .ok [] s).modCueRun z fun c => { c with status := status }) :=
    (Still.reply _ _ _ _ s).trans (Still.modCueRun _ _ _)
  simp only []
  split
  · exact taken
  · exact taken
  · exact Still.reply _ _ _ _ s
  · exact Still.reply _ _ _ _ s

theorem Still.setPrescale (d : Header) (zone : Byte) (prescale : BitVec 16) (s : State) :
    Still s (setPrescale d zone prescale s) :=
  Still.onPresentZone _ _ _ _ _ fun _ => (Still.reply _ _ _ _ s).trans (Still.modCueRun _ _ _)

theorem Still.queryStream (d : Header) (stream : Byte) (s : State) : Still s (queryStream d stream s) := by
  unfold Machine.queryStream
  split <;> exact Still.reply _ _ _ _ s

theorem Still.queryZone (d : Header) (zone : Byte) (s : State) : Still s (queryZone d zone s) := by
  unfold Machine.queryZone
  split <;> exact Still.reply _ _ _ _ s

theorem Still.querySpeaker (d : Header) (speaker : Byte) (s : State) : Still s (querySpeaker d speaker s) := by
  unfold Machine.querySpeaker
  split <;> exact Still.reply _ _ _ _ s

/-! ### Directives that change it -/

/-- What STAGE ZONE writes is within Table 36. -/
theorem zoneDescOf_legal (o : ZoneOperands) {kind : ZoneKind} (stream : Option StreamNo) (cue : Option CueIndex)
    {role : Option Role} (h : overlayRoleOf kind o.overlayRole = some role) :
    (zoneDescOf o kind stream cue role).Legal := by
  have depth := clampNat_eq (lo := 1) (hi := 96) (v := o.primeDepth.toNat) (by decide)
  have lead := clampNat_eq (lo := 4) (hi := 48) (v := o.lead.toNat) (by decide)
  have priority := clampNat_eq (lo := 1) (hi := 3) (v := o.priority.toNat) (by decide)
  unfold ZoneDesc.Legal zoneDescOf rankWritten
  simp only [depth, lead, clampNat_zero]
  refine ⟨by omega, by omega, by omega, by omega, by omega, by omega, ?_, ?_⟩
  · rintro rfl
    cases h
    exact ⟨rfl, rfl, rfl⟩
  · rintro rfl
    obtain ⟨r, -, rfl⟩ := Option.map_eq_some_iff.mp h
    refine ⟨?_, ?_, rfl⟩ <;> simp only [priorityWritten, priority] <;> omega

/-- What STAGE SPEAKER writes is within Table 37. -/
theorem speakerDescOf_legal (o : SpeakerOperands) (zone : Option ZoneNo) (role : Role)
    (h : validAddress o.address = true) : (speakerDescOf o zone role).Legal := by
  have below := o.address.isLt
  have nonzero : o.address.toNat ≠ 0 ∧ o.address.toNat ≠ 65535 := by
    simpa [validAddress, ← BitVec.toNat_inj] using h
  unfold SpeakerDesc.Legal speakerDescOf rankWritten
  simp only [clampNat_zero]
  omega

theorem Bank.Legal.setZone {b : Bank} (h : b.Legal) (z : ZoneNo) {w : ZoneDesc} (legal : w.Legal) :
    ({ b with zones := tblSet b.zones z w } : Bank).Legal := by
  obtain ⟨zones, speakers⟩ := h
  refine ⟨fun o => ?_, speakers⟩
  simp only [Bank.zone, tblGet_tblSet]
  split
  · exact legal
  · exact zones o

theorem Bank.Legal.setSpeaker {b : Bank} (h : b.Legal) (sp : SpeakerNo) {w : SpeakerDesc} (legal : w.Legal) :
    ({ b with speakers := tblSet b.speakers sp w } : Bank).Legal := by
  obtain ⟨zones, speakers⟩ := h
  refine ⟨zones, fun o => ?_⟩
  simp only [Bank.speaker, tblGet_tblSet]
  split
  · exact legal
  · exact speakers o

/-- A START is taken for a present zone that is IDLE (R108). -/
theorem startRefusal_none {z : ZoneNo} {s : State} (h : startRefusal z s = none) :
    (s.activeZone z).present = true ∧ (s.zone z).state = .idle := by
  have present : (s.activeZone z).present = true ∧ s.Bound z := by
    by_contra absent
    rw [startRefusal_absent absent] at h
    cases h
  rw [startRefusal_bound present.1 present.2] at h
  refine ⟨present.1, ?_⟩
  by_contra busy
  rw [if_pos busy] at h
  cases h

theorem startRefusal_reply (z : ZoneNo) (kind : Byte) (d : Header) (status : Status) (payload : List Field)
    (s : State) : startRefusal z (reply kind d status payload s) = startRefusal z s := by
  have only := Only.reply kind d status payload s
  have plan := only.plan_eq
  have intake := only.intake_eq
  have zone : (reply kind d status payload s).zone z = s.zone z := only.zone_eq (z := z)
  unfold startRefusal State.activeZone State.stream
  rw [plan, intake, zone]

section
variable {R : State → State → Prop} (h : OutsideWork R)
include h

theorem OutsideWork.replied (kind : Byte) (d : Header) (status : Status) (s : State) :
    R s (reply kind d status [] s) := h.still (Still.reply kind d status [] s)

theorem OutsideWork.openStream (d : Header) (stream cls lanes : Byte) (quota mark : BitVec 16) (s : State) :
    R s (openStream d stream cls lanes quota mark s) := by
  have refused := fun status => h.replied 0x20 d status s
  have taken (st c lanes' quota' mark') : Still s (openTaken d st c lanes' quota' mark' s) := by
    unfold openTaken openReport
    simp only []
    split
    · exact ((Still.reply _ _ _ _ s).trans (Still.modStream rfl)).trans (Still.demandReport _ _)
    · exact (Still.reply _ _ _ _ s).trans (Still.modStream rfl)
  unfold Machine.openStream
  split
  · exact refused _
  · split
    · exact refused _
    · split
      · exact refused _
      · split
        · exact refused _
        · split
          · exact h.still (taken _ _ _ _ _)
          · exact refused _

theorem OutsideWork.closeStream (d : Header) (stream : Byte) (s : State) : R s (closeStream d stream s) := by
  have replied := fun status => h.replied 0x21 d status s
  unfold Machine.closeStream
  split
  · exact replied _
  · split
    · exact replied _
    · split
      · exact replied _
      · split
        · exact replied _
        · exact h.before (h.trans (replied _) (h.emptied _ _)) (Still.modStream rfl)

theorem OutsideWork.flushStream (d : Header) (stream : Byte) (s : State) : R s (flushStream d stream s) := by
  have replied := fun status => h.replied 0x22 d status s
  unfold Machine.flushStream
  split
  · exact replied _
  · split
    · exact replied _
    · split
      · exact replied _
      · exact h.trans (replied _) (h.flushQueue _ _)

theorem OutsideWork.stageZone (d : Header) (o : ZoneOperands) (s : State) : R s (stageZone d o s) := by
  have replied := fun status => h.replied 0x30 d status s
  unfold Machine.stageZone stageZoneChecked
  split
  · split
    · split
      · exact replied _
      · split
        · exact replied _
        · split
          · exact replied _
          · refine h.trans (replied _) (h.staged fun ⟨_, legal⟩ => legal.setZone _ ?_)
            exact zoneDescOf_legal o _ _ ‹_›
    · exact replied _
  · exact replied _

theorem OutsideWork.stageSpeaker (d : Header) (o : SpeakerOperands) (s : State) : R s (stageSpeaker d o s) := by
  have replied := fun status => h.replied 0x31 d status s
  unfold Machine.stageSpeaker stageSpeakerChecked
  split
  · split
    · split
      · exact replied _
      · split
        · exact replied _
        · rename_i valid
          split
          · exact replied _
          · refine h.trans (replied _) (h.staged fun ⟨_, legal⟩ => legal.setSpeaker _ ?_)
            exact speakerDescOf_legal o _ _ (by simpa using valid)
    · exact replied _
  · exact replied _

theorem OutsideWork.unstage (d : Header) (s : State) : R s (unstage d s) := by
  unfold Machine.unstage
  split
  · exact h.replied _ _ _ s
  · split
    · exact h.replied _ _ _ s
    · exact h.trans (h.replied _ _ _ s) (h.staged fun ⟨legal, _⟩ => legal)

theorem OutsideWork.startDirective (d : Header) (zone : Byte) (s : State) : R s (startDirective d zone s) := by
  have replied := fun status => h.replied 0x40 d status s
  unfold Machine.startDirective
  split
  · exact replied _
  · split
    · exact replied _
    · split
      · exact replied _
      · exact h.trans (replied _) (h.started (by rwa [startRefusal_reply]))

theorem OutsideWork.stopZone (d : Header) (zone mode : Byte) (s : State) : R s (stopZone d zone mode s) := by
  have replied := fun status => h.replied 0x41 d status s
  unfold Machine.stopZone
  split
  · exact replied _
  · split
    · exact replied _
    · split
      · exact replied _
      · split
        · exact h.trans (replied _) (h.halted _ _)
        · exact h.trans (replied _) (h.stopped _ _)

theorem OutsideWork.setLevel (d : Header) (zone : Byte) (target gainStep : BitVec 16) (s : State) :
    R s (setLevel d zone target gainStep s) := by
  have replied := fun status => h.replied 0x42 d status s
  unfold Machine.setLevel onPresentZone
  split
  · exact replied _
  · split
    · exact replied _
    · split
      · exact replied _
      · refine h.trans (replied _) (h.levelled _ _ ?_ ?_) <;> rw [clampNat_zero] <;> exact Nat.min_le_left _ _

theorem OutsideWork.restart (d : Header) (s : State) : R s (restart d s) := by
  unfold Machine.restart
  split
  · exact h.replied _ _ _ s
  · exact h.trans (h.still ((Only.modSource s _).still.trans (Still.reply _ _ _ _ _))) (h.restarted _)

/-- A slot settled, the reply, and the slot written or disarmed. -/
theorem OutsideWork.marked (k : MarkNo) (kind : Byte) (d : Header) (f : Mark → Mark) (s : State) :
    R s ((Machine.reply kind d .ok [] (Machine.settleMark k s)).modMark k f) :=
  h.before (h.settleMark k s) ((Still.reply _ _ _ _ _).trans (Only.modMark _ _ _).still)

theorem OutsideWork.armMark (d : Header) (slot : Byte) (block : BitVec 48) (action zone : Byte) (s : State) :
    R s (armMark d slot block action zone s) := by
  rcases armMark_cases d slot block action zone s with ⟨status, e⟩ | ⟨k, act, z, e⟩ <;> rw [e]
  · exact h.replied _ _ _ s
  · exact h.marked k _ _ _ s

theorem OutsideWork.disarmMark (d : Header) (slot : Byte) (s : State) : R s (disarmMark d slot s) := by
  rcases disarmMark_cases d slot s with ⟨status, e⟩ | ⟨k, e⟩ <;> rw [e]
  · exact h.replied _ _ _ s
  · exact h.marked k _ _ _ s

theorem OutsideWork.dispatch (i : Instr) (s : State) : R s (dispatch i s) := by
  cases i
  case armMark => exact h.armMark _ _ _ _ _ s
  case disarmMark => exact h.disarmMark _ _ s
  case identify => exact h.still (Still.reply _ _ _ _ s)
  case queryDevice => exact h.still (Still.reply _ _ _ _ s)
  case restart => exact h.restart _ s
  case setTimebaseLocal => exact h.still (Still.setTimebase _ _ _ _ s)
  case setTimebaseFastest d tau candidates => exact h.still (Still.setTimebase d 1 tau candidates s)
  case setBeacon => exact h.still (Still.setBeacon _ _ s)
  case openStream => exact h.openStream _ _ _ _ _ _ s
  case closeStream => exact h.closeStream _ _ s
  case flushStream => exact h.flushStream _ _ s
  case queryStream => exact h.still (Still.queryStream _ _ s)
  case stageZone => exact h.stageZone _ _ s
  case stageSpeaker => exact h.stageSpeaker _ _ s
  case unstage => exact h.unstage _ s
  case swap => exact h.still (Still.requestSwap _ s)
  case queryZone => exact h.still (Still.queryZone _ _ s)
  case querySpeaker => exact h.still (Still.querySpeaker _ _ s)
  case startZone => exact h.startDirective _ _ s
  case stopZoneSoft => exact h.stopZone _ _ _ s
  case stopZoneHard d zone => exact h.stopZone d zone 1 s
  case setLevel => exact h.setLevel _ _ _ _ s
  case setTrim => exact h.still (Still.setTrim _ _ _ _ s)
  case pollAccessed => exact h.still (Still.pollAccessed _ s)
  case resyncSpeaker => exact h.still (Still.resyncSpeaker _ _ s)
  case setTracking => exact h.still (Still.setTracking _ _ s)
  case setStore => exact h.still (Still.setStore _ _ _ _ s)
  case queryStore => exact h.still (Still.reply _ _ _ _ s)
  case writeCues => exact h.still (Still.writeCues _ _ _ s)
  case cueGo => exact h.still (Still.cueGo _ _ _ s)
  case cueHalt => exact h.still (Still.haltOrResume _ _ _ _ s)
  case cueResume => exact h.still (Still.haltOrResume _ _ _ _ s)
  case setPrescale => exact h.still (Still.setPrescale _ _ _ s)
  case armTap => exact h.still (Still.armTap _ _ s)
  case disarmTap => exact h.still (Still.disarmTap _ _ s)
  all_goals exact h.refl s

/-! ### Frames -/

theorem OutsideWork.directiveFrame (kind : Byte) (d : Header) (operands : List Byte) (s : State) :
    R s (directiveFrame kind d operands s) := by
  unfold Machine.directiveFrame directiveArrives
  split
  · exact h.still ((Still.countMalformed s).trans (Still.reply _ _ _ _ _))
  · split
    · exact h.dispatch _ s
    · exact h.replied _ _ _ s

theorem OutsideWork.sourceLinkFrame (cls : Byte) (body : List Byte) (s : State) :
    R s (sourceLinkFrame cls body s) := by
  unfold Machine.sourceLinkFrame directiveBody
  split
  · split
    · exact h.still (Still.countMalformed s)
    · exact h.directiveFrame _ _ _ s
  · split
    · exact h.sourceArrives _ s
    · exact h.still (Still.countMalformed s)

theorem OutsideWork.airLinkFrame (cls : Byte) (body : List Byte) (s : State) : R s (airLinkFrame cls body s) := by
  unfold Machine.airLinkFrame
  split
  · exact h.still (Still.echoArrives _ s)
  · exact h.still (Still.countMalformed s)

end

/-! ### The boundary and the step -/

/-- No law reads the level of RST_N or the queue of waiting commands. -/
theorem Still.outside (s : State) (rstLow : Bool) (pending : List Instr) :
    Still s { s with rstLow := rstLow, pending := pending } :=
  ⟨rfl, rfl, fun _ => rfl, rfl, rfl, rfl, rfl, rfl, rfl⟩

theorem Still.sourceDown (s : State) : Still s (sourceDown s) := by
  have abandoned : Still s (abandonSend s) := by
    unfold abandonSend
    split
    · exact .refl s
    · exact (Only.modSource s _).still
    · exact (Only.modSource s _).still.trans (Only.modTap _ _).still
  unfold Machine.sourceDown
  split
  · exact (abandoned.trans (Only.modTap _ _).still).trans (Only.modSource (discardTaps _) _).still
  · exact .refl s

theorem Still.sourceUp (s : State) : Still s (sourceUp s) := by
  unfold Machine.sourceUp
  split
  · exact .refl s
  · exact (Only.modSource s _).still.trans (Only.offerFirm _ _ _).still

theorem Still.airDown (s : State) : Still s (airDown s) := by
  unfold Machine.airDown
  split
  · exact (Only.modAir s _).still
  · exact .refl s

theorem Still.airUp (s : State) : Still s (airUp s) := by
  unfold Machine.airUp
  split
  · exact .refl s
  · exact (Only.modAir s _).still

/-- The firing of a mark leaves the zones' works that are due. -/
theorem fireMark_zonesDue (k : MarkNo) (s : State) : (fireMark k s).agenda.zones = s.agenda.zones := by
  have acted (mk : Mark) (t : State) : (markAction k mk t).agenda.zones = t.agenda.zones := by
    by_cases swap : mk.action = .swap
    · have report (code reason u) : (markReport k mk code reason u).agenda = u.agenda :=
        (Only.markReport k mk code reason u).agenda_eq
      unfold markAction
      simp only [swap]
      split
      · rw [report]
      · rw [report, takeSwap_agenda]
    · rw [markAction_agenda k mk t swap]
  unfold fireMark
  simp only []
  split
  · split
    · exact acted _ _
    · rfl
  · rfl

theorem settleSwap_zonesDue (s : State) : (settleSwap s).agenda.zones = s.agenda.zones := by
  have fired (l : List MarkNo) (t : State) : (t.forEach l fireSwapMark).agenda.zones = t.agenda.zones := by
    induction l generalizing t with
    | nil => rfl
    | cons k l ih =>
      refine (ih (fireSwapMark k t)).trans ?_
      unfold fireSwapMark
      split
      · exact fireMark_zonesDue k t
      · rfl
  unfold settleSwap
  rw [fired]
  split
  · rw [takeSwap_agenda]
  · rfl

section
variable {R : State → State → Prop} (h : StepClosed R)
include h

theorem StepClosed.dueZone (z : ZoneNo) (s : State) : R s (dueZone z s) := by
  unfold Machine.dueZone
  split
  · exact h.trans (h.settleSwap s) (h.worked (by rwa [settleSwap_zonesDue]))
  · exact h.refl s

theorem StepClosed.runTask (t : BoundaryTask) (s : State) : R s (runTask t s) := by
  cases t
  case swap => exact h.settleSwap s
  case beacon => exact h.still (Still.takeBeacon _ s)
  case election => exact h.still (Still.takeElection s)
  case mark k => exact h.dueMark k s
  case zone z => exact h.dueZone z s

theorem StepClosed.finishBoundary (s : State) : R s (finishBoundary s) :=
  h.before (h.forEach _ h.runTask _ s) (Still.dueNotices _ _)

theorem StepClosed.boundaryWorks (order later : List BoundaryTask) (s : State) :
    R s (boundaryWorks order later s) :=
  h.trans (h.forEach _ h.runTask _ s) (h.settleSwap _)

theorem StepClosed.takeBoundary (order later : List BoundaryTask) (s : State) : R s (takeBoundary order later s) := by
  refine h.trans (h.trans (h.finishBoundary s) (h.opened fun z => ?_)) (h.boundaryWorks _ _ _)
  exact (busy_eq_false.mp (finishBoundary_busy s)).1 (.zone z)

theorem StepClosed.boundaryOutcome {order later : List BoundaryTask} {s t : State}
    (next : boundaryOutcome order later s = .next t) : R s t := by
  unfold Machine.boundaryOutcome at next
  split at next
  · cases next; exact h.refl s
  · split at next
    · rw [← Host.Outcome.next.inj next]; exact h.takeBoundary _ _ s
    · cases next

theorem StepClosed.awake {s t : State} {f : State → State} (next : s.awake f = .next t) (k : R s (f s)) : R s t := by
  rw [awake_next next]
  split
  · exact h.refl s
  · exact k

theorem StepClosed.onSource {s t : State} {f : State → State} (next : s.onSource f = .next t) (k : R s (f s)) :
    R s t := by
  rw [onSource_next next]
  split
  · exact h.refl s
  · exact k

theorem StepClosed.onAir {s t : State} {f : State → State} (next : s.onAir f = .next t) (k : R s (f s)) : R s t := by
  rw [onAir_next next]
  split
  · exact h.refl s
  · exact k

theorem StepClosed.exec {i : Instr} {s t : State} (next : exec i s = .next t) : R s t := by
  by_cases directive : (directiveBytes i).isSome = true
  · rcases exec_directive directive s with e | ⟨kind, d, ops, rfl⟩
    · rw [e] at next; exact h.onSource next (h.dispatch i s)
    · exact h.onSource next (h.directiveFrame kind d ops s)
  cases i
  case rstNRelease => cases next; exact h.reset s _ _
  case rstNAssertion => cases next; exact h.reset s _ _
  case blockBoundary => exact h.boundaryOutcome next
  case beacon => exact h.awake next (h.still (Still.takeBeacon _ s))
  case election => exact h.awake next (h.still (Still.takeElection s))
  case markFiring => exact h.awake next (h.dueMark _ s)
  case waitRunsOut =>
    refine h.awake next ?_
    unfold waitEvent
    split
    · exact h.dueZone _ s
    · exact h.refl s
  case silenceStale =>
    refine h.awake next (h.still ?_)
    unfold staleEvent
    split
    · exact Still.dueNotice _ s
    · exact .refl s
  case silenceLost =>
    refine h.awake next (h.still ?_)
    unfold lostEvent
    split
    · exact Still.dueNotice _ s
    · exact .refl s
  case sourceFrame => exact h.onSource next (h.sourceArrives _ s)
  case echo => exact h.onAir next (h.still (Still.echoArrives _ s))
  case malformedFrame link cls body =>
    cases link
    · exact h.onSource next (h.sourceLinkFrame _ _ s)
    · exact h.onAir next (h.airLinkFrame _ _ s)
  case sourceLinkDown => exact h.awake next (h.still (Still.sourceDown s))
  case sourceLinkUp => exact h.awake next (h.still (Still.sourceUp s))
  case airLinkDown => exact h.awake next (h.still (Still.airDown s))
  case airLinkUp => exact h.awake next (h.still (Still.airUp s))
  case airSendComplete => exact h.awake next (h.still (Only.completeAir s).still)
  case sourceSendComplete => exact h.awake next (h.still (Only.completeSource s).still)
  all_goals simp [directiveBytes] at directive

theorem StepClosed.idle {s t : State} (next : idle s = .next t) : R s t := by
  unfold Machine.idle at next
  split at next
  · cases next; exact h.refl s
  · split at next
    · rw [← Host.Outcome.next.inj next]; exact h.finishBoundary s
    · split at next
      · rw [← Host.Outcome.next.inj next]; exact h.still (Still.tick s)
      · exact h.boundaryOutcome next

/-- What holds across each of the operations holds across every step. -/
theorem StepClosed.step {s t : State} (next : step s = .next t) : R s t := by
  unfold Machine.step at next
  split at next
  · exact h.idle next
  · have executed := h.exec next
    exact h.after (Still.outside s s.rstLow _) executed

end

end Sys2Proof.Machine
end

section
/-! The cues and the work of a zone are made of few operations that change what the laws of cells, zones and records
read; a relation that holds across each of these holds across the whole work. -/

namespace Sys2Proof.Machine

open Sys2Proof

/-- The relation holds across what the STOPs of a zone do, step by step. -/
structure Stops (z : ZoneNo) (R : State → State → Prop) : Prop where
  trans : ∀ {s t u}, R s t → R t u → R s u
  still : ∀ {s t}, Still s t → R s t
  drains : ∀ {s}, (s.zone z).state ≠ .idle → R s (enterDraining z s)
  idles : ∀ {s}, (s.zone z).state = .draining → (s.zone z).ring = [] → R s (reachIdle z s)
  trimmed : ∀ keep s, R s (trimRing z keep s)

/-- The relation holds across what the words of a zone's cue runs do. -/
structure Cues (z : ZoneNo) (R : State → State → Prop) : Prop where
  trans : ∀ {s t u}, R s t → R t u → R s u
  still : ∀ {s t}, Still s t → R s t
  levelled : ∀ s {target gainStep : Nat}, target ≤ 32767 → gainStep ≤ 4095 →
    R s (s.modZone z fun r => { r with target := target, gainStep := gainStep })
  stopped : ∀ s, R s (softStop z s)

/-- The relation holds across what the work of a zone does, step by step. -/
structure Works (z : ZoneNo) (R : State → State → Prop) : Prop extends Stops z R where
  levelled : ∀ s {target gainStep : Nat}, target ≤ 32767 → gainStep ≤ 4095 →
    R s (s.modZone z fun r => { r with target := target, gainStep := gainStep })
  gained : ∀ s, R s (s.modZone z fun r => { r with gain := nextGain r.gain r.target r.gainStep })
  plays : ∀ {s}, (s.zone z).state = .priming → R s (enterPlaying z s)
  issues : ∀ gainStart s, R s (issue z gainStart s).2

section
variable {z : ZoneNo} {R : State → State → Prop} (h : Stops z R)
include h

theorem Stops.settleDraining (s : State) : R s (settleDraining z s) := by
  unfold Machine.settleDraining
  split
  · rename_i empty
    exact h.idles empty.1 empty.2
  · exact h.still (.refl s)

theorem Stops.softStop (s : State) : R s (softStop z s) := by
  have stopped (moving : (s.zone z).state ≠ .idle) : R s (Machine.settleDraining z (enterDraining z s)) :=
    h.trans (h.drains moving) (h.settleDraining _)
  unfold Machine.softStop
  split
  · exact stopped (by simp [*])
  · exact stopped (by simp [*])
  · exact h.still (.refl s)
  · exact h.still (.refl s)

theorem Stops.hardStop (s : State) : R s (hardStop z s) := by
  unfold Machine.hardStop
  split
  · exact h.still (.refl s)
  · exact h.trans (h.trans (h.trans (h.drains ‹_›) (h.trimmed _ _))
      (h.still (Still.forEach _ (fun sp t => (Only.cut sp t).still) _ _))) (h.settleDraining _)

end

section
variable {z : ZoneNo} {R : State → State → Prop} (h : Cues z R)
include h

theorem Cues.executeWord (s : State) : R s (executeWord z s).1 := by
  have cue (f : CueRun → CueRun) (t : State) : R t (t.modCueRun z f) := h.still (Still.modCueRun t z f)
  unfold Machine.executeWord
  simp only []
  split
  · exact cue _ s
  · refine h.trans (h.levelled s ?_ ?_) (cue _ _)
    · exact Nat.le_of_lt_succ (BitVec.isLt _)
    · exact Nat.le_of_lt_succ (BitVec.isLt _)
  · exact cue _ s
  · exact cue _ s
  · exact cue _ s
  · exact h.trans (h.still (Still.offerEvent _ _ _ _)) (cue _ _)
  · exact cue _ s
  · exact h.trans (cue _ s) (h.stopped _)
  · exact h.trans (cue _ s) (h.still (Still.offerEvent _ _ _ _))

theorem Cues.executeRun (budget : Nat) (s : State) : R s (executeRun z budget s) := by
  induction budget generalizing s with
  | zero => exact h.still (.refl s)
  | succ budget ih =>
    have word := h.executeWord s
    unfold Machine.executeRun
    split <;> rename_i executed <;> rw [executed] at word
    · exact word
    · exact h.trans word (ih _)

theorem Cues.boundaryNotice (s : State) : R s (boundaryNotice z s) := by
  unfold Machine.boundaryNotice
  simp only []
  split
  · have counted := h.still (Still.modCueRun s z CueRun.countIfWaiting)
    split
    · exact counted
    · exact h.trans counted (h.executeRun _ _)
  · exact h.still (.refl s)

end

section
variable {z : ZoneNo} {R : State → State → Prop} (h : Works z R)
include h

theorem Works.cues : Cues z R := ⟨h.trans, h.still, h.levelled, h.softStop⟩

theorem Works.issueWork {s : State} (playing : (s.zone z).state = .playing) : R s (issueWork z s) := by
  set u := s.modZone z fun r => { r with gain := nextGain r.gain r.target r.gainStep } with gained
  have entry := issue_issued z (s.zone z).gain u
  have step : R s (issue z (s.zone z).gain u).2 := h.trans (h.gained s) (h.issues _ u)
  obtain ⟨⟨e, v⟩, issued⟩ : ∃ p, issue z (s.zone z).gain u = p := ⟨_, rfl⟩
  rw [issued] at entry step
  have later : Only [.source, .tap, .speakers, .air] v (firstSends z e (tapIssue z e v)) :=
    (Only.tapIssue z e v).then (Only.firstSends z e _)
  have sent : R s (firstSends z e (tapIssue z e v)) := h.trans step (h.still later.still)
  rw [issueWork_issued issued]
  simp only []
  split
  · refine h.trans sent (h.drains ?_)
    rw [later.zone_eq, entry.zone, gained]
    simp [ZoneRun.addEntry, playing]
  · exact sent

theorem Works.playingSteps (s : State) : R s (playingSteps z s) := by
  unfold Machine.playingSteps
  simp only []
  split
  · exact h.trans (h.cues.boundaryNotice s) (h.issueWork ‹_›)
  · exact h.cues.boundaryNotice s

theorem Works.primingWork {s : State} (priming : (s.zone z).state = .priming) : R s (primingWork z s) := by
  have released : R s (releaseDue z s) := h.trimmed _ s
  have still : ((releaseDue z s).zone z).state = .priming := by
    rw [releaseDue_eq, State.releasedTo_zone]
    exact priming
  unfold Machine.primingWork
  simp only []
  split
  · exact released
  · split
    · exact h.trans (h.trans released (h.plays still)) (h.playingSteps _)
    · exact released

theorem Works.drainingWork (s : State) : R s (drainingWork z s) := by
  have settled : R s (Machine.settleDraining z (releaseDue z s)) := h.trans (h.trimmed _ s) (h.settleDraining _)
  unfold Machine.drainingWork
  simp only []
  split
  · exact h.trans settled (h.cues.boundaryNotice _)
  · exact settled

theorem Works.zoneWork (s : State) : R s (zoneWork z s) := by
  unfold Machine.zoneWork
  split
  · exact h.still (.refl s)
  · exact h.primingWork ‹_›
  · exact h.trans (h.trimmed _ s) (h.playingSteps _)
  · exact h.drainingWork s

end

end Sys2Proof.Machine
end

section
/-! The places of the cells, the moves of a cell from one place to another, and what every move keeps: each cell in
one place (R20), CLAIM cells on ordered stacks (R140), AUDIO cells in queues and rings (R20). -/

namespace Sys2Proof.Machine

open Sys2Proof

/-! ### The places -/

/-- Where the cells stand and what they hold, with the banks that give a claim its priority. -/
@[ext] structure Places where
  free : List CellNo
  cells : Vector Cell 1024
  queue : StreamNo → List CellNo
  ring : ZoneNo → List CellNo
  stack : SpeakerNo → List CellNo
  active : Bank
  staged : Bank

/-- The places of a state. -/
def State.places (s : State) : Places where
  free := s.store.freeList
  cells := s.store.cells
  queue st := (s.stream st).queue
  ring z := ringCells (s.zone z).ring
  stack := s.claimStack
  active := s.plan.active
  staged := s.plan.staged

namespace Places

/-- Every place, one after another. -/
def owned (p : Places) : List CellNo :=
  p.free ++ allStreams.flatMap p.queue ++ allZones.flatMap p.ring ++ allSpeakers.flatMap p.stack

/-- Every cell is in exactly one place. -/
def Partitioned (p : Places) : Prop := ∀ c : CellNo, p.owned.count c = 1

/-- The record that a cell holds. -/
def claim (p : Places) (c : CellNo) : Option ClaimCell :=
  match tblGet p.cells c with
  | .claim r => some r
  | .audio _ => none
  | .blank => none

/-- The audio that a cell holds. -/
def audio (p : Places) (c : CellNo) : Option AudioCell :=
  match tblGet p.cells c with
  | .audio a => some a
  | .claim _ => none
  | .blank => none

/-- The records of a stack, from the top down. -/
def records (p : Places) (sp : SpeakerNo) : List ClaimCell := (p.stack sp).filterMap p.claim

/-- The banks are within their ranges. -/
def BanksLegal (p : Places) : Prop := p.active.Legal ∧ p.staged.Legal

/-- Stacks hold CLAIM cells, whose priorities fall strictly from the top down between 3 and 1. -/
structure ClaimsLawful (p : Places) : Prop where
  typed : ∀ sp, ∀ c ∈ p.stack sp, (p.claim c).isSome
  ordered : ∀ sp, ((p.records sp).map ClaimCell.priority).Pairwise (· > ·)
  ranged : ∀ sp, ∀ r ∈ p.records sp, 1 ≤ r.priority ∧ r.priority ≤ 3

/-- Queues and rings hold AUDIO cells. -/
structure AudioLawful (p : Places) : Prop where
  queues : ∀ st, ∀ c ∈ p.queue st, (p.audio c).isSome
  rings : ∀ z, ∀ c ∈ p.ring z, (p.audio c).isSome

end Places

theorem State.places_claim (s : State) : s.places.claim = s.claimCell := by
  funext c
  have same : tblGet s.places.cells c = s.cell c := rfl
  cases held : s.cell c <;> rw [held] at same <;> simp only [Places.claim, State.claimCell, same, held]

theorem State.places_audio (s : State) : s.places.audio = s.audioCell := by
  funext c
  have same : tblGet s.places.cells c = s.cell c := rfl
  cases held : s.cell c <;> rw [held] at same <;> simp only [Places.audio, State.audioCell, same, held]

theorem State.places_records (s : State) (sp : SpeakerNo) : s.places.records sp = s.records sp :=
  congrArg (s.claimStack sp).filterMap s.places_claim

theorem cellsPartitioned_iff (s : State) : s.CellsPartitioned ↔ s.places.Partitioned := Iff.rfl

theorem claimsLawful_iff (s : State) : s.ClaimsTyped ∧ s.StacksOrdered ↔ s.places.ClaimsLawful := by
  have claim := s.places_claim
  constructor
  · rintro ⟨typed, ordered⟩
    refine ⟨fun sp c hc => ?_, fun sp => ?_, fun sp r hr => ?_⟩
    · rw [claim]
      exact typed c (List.mem_flatMap.mpr ⟨sp, mem_allSpeakers sp, hc⟩)
    · rw [s.places_records]
      exact (ordered sp).1
    · rw [s.places_records] at hr
      exact (ordered sp).2 _ (List.mem_map_of_mem hr)
  · rintro ⟨typed, ordered, ranged⟩
    simp only [claim, s.places_records] at typed ordered ranged
    refine ⟨fun c hc => ?_, fun sp => ⟨ordered sp, fun q hq => ?_⟩⟩
    · obtain ⟨sp, -, member⟩ := List.mem_flatMap.mp hc
      exact typed sp c member
    · obtain ⟨r, hr, rfl⟩ := List.mem_map.mp hq
      exact ranged sp r hr

theorem audioTyped_iff (s : State) : s.AudioTyped ↔ s.places.AudioLawful := by
  have audio := s.places_audio
  constructor
  · intro typed
    refine ⟨fun st c hc => ?_, fun z c hc => ?_⟩ <;> rw [audio]
    · exact typed c (List.mem_append_left _ (List.mem_flatMap.mpr ⟨st, mem_allStreams st, hc⟩))
    · exact typed c (List.mem_append_right _ (List.mem_flatMap.mpr ⟨z, mem_allZones z, hc⟩))
  · rintro ⟨queues, rings⟩ c hc
    rw [audio] at queues rings
    rcases List.mem_append.mp hc with member | member
    · obtain ⟨st, -, member⟩ := List.mem_flatMap.mp member
      exact queues st c member
    · obtain ⟨z, -, member⟩ := List.mem_flatMap.mp member
      exact rings z c member

/-! ### The moves -/

open Function (update)

/-- A cell, or cells, moved from one place to another; or what the cells hold, or the banks, changed. `copies` says
that a concealment copy is known to be of an AUDIO cell; `claims`, that the Claim Stacks or the banks may change. -/
inductive Move (copies claims : Prop) (p : Places) : Places → Prop where
  | dequeued (st : StreamNo) {freed kept : List CellNo} (parts : (freed ++ kept).Perm (p.queue st)) :
      Move copies claims p { p with free := freed ++ p.free, queue := update p.queue st kept }
  | unringed (z : ZoneNo) {freed kept : List CellNo} (parts : (freed ++ kept).Perm (p.ring z)) :
      Move copies claims p { p with free := freed ++ p.free, ring := update p.ring z kept }
  | unstacked (allowed : claims) (sp : SpeakerNo) {freed kept : List CellNo} (parts : (freed ++ kept).Perm (p.stack sp))
      (inOrder : kept.Sublist (p.stack sp)) :
      Move copies claims p { p with free := freed ++ p.free, stack := update p.stack sp kept }
  | queued (st : StreamNo) {c : CellNo} {rest : List CellNo} (free : p.free = c :: rest) (a : AudioCell) :
      Move copies claims p { p with
        free := rest, cells := tblSet p.cells c (.audio a), queue := update p.queue st (p.queue st ++ [c]) }
  | copied (z : ZoneNo) {c : CellNo} {rest : List CellNo} (free : p.free = c :: rest) {x : Cell}
      (audio : copies → ∃ a, x = .audio a) :
      Move copies claims p { p with
        free := rest, cells := tblSet p.cells c x, ring := update p.ring z (p.ring z ++ [c]) }
  | claimed (allowed : claims) (sp : SpeakerNo) {c : CellNo} {rest : List CellNo} (free : p.free = c :: rest)
      {z : ZoneNo} (overlay : (p.active.zone z).kind = .overlay) {r : ClaimCell}
      (priority : r.priority = (p.active.zone z).priority)
      (above : ∀ top, (p.stack sp).head?.bind p.claim = some top → top.priority < r.priority) :
      Move copies claims p { p with
        free := rest, cells := tblSet p.cells c (.claim r), stack := update p.stack sp (c :: p.stack sp) }
  | passed (st : StreamNo) (z : ZoneNo) {c : CellNo} {rest : List CellNo} (head : p.queue st = c :: rest) :
      Move copies claims p { p with queue := update p.queue st rest, ring := update p.ring z (p.ring z ++ [c]) }
  | marked {c : CellNo} {a : AudioCell} (audio : p.audio c = some a) (b : AudioCell) :
      Move copies claims p { p with cells := tblSet p.cells c (.audio b) }
  | planned (allowed : claims) {active staged : Bank} (legal : p.BanksLegal → active.Legal ∧ staged.Legal) :
      Move copies claims p { p with active := active, staged := staged }
  | emptied (allowed : claims) {cells : Vector Cell 1024} {active staged : Bank}
      (legal : p.BanksLegal → active.Legal ∧ staged.Legal) :
      Move copies claims p
        { free := ascendingCells, cells := cells, queue := fun _ => [], ring := fun _ => [], stack := fun _ => []
          active := active, staged := staged }

/-- Moves one after another. -/
def Moves (copies claims : Prop) : Places → Places → Prop := Relation.ReflTransGen (Move copies claims)

/-! ### Every cell in one place -/

theorem count_flatMap_update {α : Type} [DecidableEq α] (f : α → List CellNo) (i : α) (l : List CellNo)
    (c : CellNo) {places : List α} (nodup : places.Nodup) (mem : i ∈ places) :
    (places.flatMap (update f i l)).count c + (f i).count c = (places.flatMap f).count c + l.count c := by
  induction places with
  | nil => cases mem
  | cons a places ih =>
    obtain ⟨apart, nodup⟩ := List.nodup_cons.mp nodup
    simp only [List.flatMap_cons, List.count_append]
    by_cases here : i = a
    · subst here
      have others : places.flatMap (update f i l) = places.flatMap f := by
        rw [List.flatMap_def, List.flatMap_def]
        refine congrArg List.flatten (List.map_congr_left fun b hb => ?_)
        exact Function.update_of_ne (ne_of_mem_of_not_mem hb apart) _ _
      rw [others, Function.update_self]
      omega
    · have later := ih nodup ((List.mem_cons.mp mem).resolve_left here)
      rw [Function.update_of_ne (Ne.symm here)]
      omega

theorem nodup_allZones : allZones.Nodup := by decide

theorem Move.partitioned {copies claims : Prop} {p q : Places} (h : Move copies claims p q) (hp : p.Partitioned) :
    q.Partitioned := by
  intro c
  have one := hp c
  have queue (st : StreamNo) (l : List CellNo) := count_flatMap_update p.queue st l c nodup_allStreams
    (mem_allStreams st)
  have ring (z : ZoneNo) (l : List CellNo) := count_flatMap_update p.ring z l c nodup_allZones (mem_allZones z)
  have stack (sp : SpeakerNo) (l : List CellNo) := count_flatMap_update p.stack sp l c nodup_allSpeakers
    (mem_allSpeakers sp)
  simp only [Places.owned, List.count_append] at one ⊢
  cases h with
  | @dequeued st freed kept parts =>
    have moved := parts.count_eq c
    have written := queue st kept
    simp only [List.count_append] at moved ⊢
    omega
  | @unringed z freed kept parts =>
    have moved := parts.count_eq c
    have written := ring z kept
    simp only [List.count_append] at moved ⊢
    omega
  | @unstacked allowed sp freed kept parts inOrder =>
    have moved := parts.count_eq c
    have written := stack sp kept
    simp only [List.count_append] at moved ⊢
    omega
  | @queued st d rest free a =>
    have written := queue st (p.queue st ++ [d])
    simp only [free, List.count_append, List.count_cons, List.count_nil] at one written ⊢
    omega
  | @copied z d rest free x audio =>
    have written := ring z (p.ring z ++ [d])
    simp only [free, List.count_append, List.count_cons, List.count_nil] at one written ⊢
    omega
  | @claimed allowed sp d rest free z overlay r priority above =>
    have written := stack sp (d :: p.stack sp)
    simp only [free, List.count_cons] at one written ⊢
    omega
  | @passed st z d rest head =>
    have taken := queue st rest
    have written := ring z (p.ring z ++ [d])
    simp only [head, List.count_append, List.count_cons, List.count_nil] at taken written ⊢
    omega
  | marked => exact one
  | planned => exact one
  | emptied =>
    have none {α : Type} (l : List α) : l.flatMap (fun _ => ([] : List CellNo)) = [] := by simp
    simp [count_ascendingCells, none]

/-- A free cell is in no queue, ring or stack. -/
theorem Places.Partitioned.free_alone {p : Places} (hp : p.Partitioned) {c : CellNo} {rest : List CellNo}
    (free : p.free = c :: rest) : (∀ st, c ∉ p.queue st) ∧ (∀ z, c ∉ p.ring z) ∧ ∀ sp, c ∉ p.stack sp := by
  have one := hp c
  simp only [Places.owned, List.count_append, free, List.count_cons_self] at one
  refine ⟨fun st member => ?_, fun z member => ?_, fun sp member => ?_⟩
  · have := List.count_pos_iff.mpr (List.mem_flatMap.mpr ⟨st, mem_allStreams st, member⟩)
    omega
  · have := List.count_pos_iff.mpr (List.mem_flatMap.mpr ⟨z, mem_allZones z, member⟩)
    omega
  · have := List.count_pos_iff.mpr (List.mem_flatMap.mpr ⟨sp, mem_allSpeakers sp, member⟩)
    omega

/-! ### Claims -/

theorem Move.banksLegal {copies claims : Prop} {p q : Places} (h : Move copies claims p q) (hp : p.BanksLegal) :
    q.BanksLegal := by
  cases h with
  | planned allowed legal => exact legal hp
  | emptied allowed legal => exact legal hp
  | _ => exact hp

/-- Stacks that lost cells, and whose cells hold what they held. -/
theorem Places.ClaimsLawful.fewer {p q : Places} (h : p.ClaimsLawful)
    (inOrder : ∀ sp, (q.stack sp).Sublist (p.stack sp)) (same : ∀ sp, ∀ c ∈ q.stack sp, q.claim c = p.claim c) :
    q.ClaimsLawful := by
  have records (sp : SpeakerNo) : (q.records sp).Sublist (p.records sp) := by
    rw [Places.records, List.filterMap_congr (same sp)]
    exact (inOrder sp).filterMap _
  refine ⟨fun sp c hc => ?_, fun sp => ?_, fun sp r hr => ?_⟩
  · rw [same sp c hc]
    exact h.typed sp c ((inOrder sp).subset hc)
  · exact (h.ordered sp).sublist ((records sp).map _)
  · exact h.ranged sp r ((records sp).subset hr)

theorem Places.claim_setCell_other (p : Places) {c d : CellNo} (x : Cell) (h : c ≠ d) :
    { p with cells := tblSet p.cells c x : Places }.claim d = p.claim d := by
  simp only [Places.claim, tblGet_tblSet_other _ _ h]

theorem Places.audio_setCell_other (p : Places) {c d : CellNo} (x : Cell) (h : c ≠ d) :
    { p with cells := tblSet p.cells c x : Places }.audio d = p.audio d := by
  simp only [Places.audio, tblGet_tblSet_other _ _ h]

/-- What a free cell comes to hold leaves what the stacks hold. -/
theorem Places.Partitioned.claim_free {p : Places} (hp : p.Partitioned) {c : CellNo} {rest : List CellNo}
    (free : p.free = c :: rest) (x : Cell) (sp : SpeakerNo) (d : CellNo) (hd : d ∈ p.stack sp) :
    { p with cells := tblSet p.cells c x : Places }.claim d = p.claim d := by
  obtain ⟨-, -, apart⟩ := hp.free_alone free
  exact p.claim_setCell_other x (Ne.symm (ne_of_mem_of_not_mem hd (apart sp)))

/-- The new top of a stack is above the others. -/
theorem Places.ClaimsLawful.pushed {p : Places} (h : p.ClaimsLawful) (hp : p.Partitioned) {c : CellNo}
    {rest : List CellNo} (free : p.free = c :: rest) {sp : SpeakerNo} {r : ClaimCell}
    (range : 1 ≤ r.priority ∧ r.priority ≤ 3)
    (above : ∀ top, (p.stack sp).head?.bind p.claim = some top → top.priority < r.priority) :
    { p with free := rest, cells := tblSet p.cells c (.claim r),
             stack := update p.stack sp (c :: p.stack sp) : Places }.ClaimsLawful := by
  set q : Places := { p with
    free := rest, cells := tblSet p.cells c (.claim r), stack := update p.stack sp (c :: p.stack sp) } with written
  have same (o : SpeakerNo) (d : CellNo) (hd : d ∈ p.stack o) : q.claim d = p.claim d :=
    hp.claim_free free (.claim r) o d hd
  have pushed : q.claim c = some r := by simp [written, Places.claim]
  have other {o : SpeakerNo} (ho : o ≠ sp) : q.stack o = p.stack o := Function.update_of_ne ho _ _
  have here : q.stack sp = c :: p.stack sp := Function.update_self _ _ _
  have recordsOther {o : SpeakerNo} (ho : o ≠ sp) : q.records o = p.records o := by
    rw [Places.records, other ho, List.filterMap_congr (same o)]
    rfl
  have recordsHere : q.records sp = r :: p.records sp := by
    rw [Places.records, here, List.filterMap_cons_some pushed, List.filterMap_congr (same sp)]
    rfl
  have highest : ∀ x ∈ p.records sp, x.priority < r.priority := by
    have ordered := h.ordered sp
    have typed := h.typed sp
    unfold Places.records at ordered ⊢
    cases stack : p.stack sp with
    | nil => simp
    | cons top below =>
      rw [stack] at ordered typed
      obtain ⟨t, held⟩ := Option.isSome_iff_exists.mp (typed top List.mem_cons_self)
      have first : t.priority < r.priority := above t (by rw [stack]; exact held)
      rw [List.filterMap_cons_some held] at ordered ⊢
      intro x hx
      rcases List.mem_cons.mp hx with rfl | hx
      · exact first
      · exact lt_trans ((List.pairwise_cons.mp ordered).1 _ (List.mem_map_of_mem hx)) first
  refine ⟨fun o d hd => ?_, fun o => ?_, fun o x hx => ?_⟩ <;> by_cases ho : o = sp
  · subst ho
    rw [here] at hd
    rcases List.mem_cons.mp hd with rfl | hd
    · simp [pushed]
    · rw [same o d hd]
      exact h.typed o d hd
  · rw [other ho] at hd
    rw [same o d hd]
    exact h.typed o d hd
  · subst ho
    rw [recordsHere, List.map_cons, List.pairwise_cons]
    refine ⟨fun n hn => ?_, h.ordered o⟩
    obtain ⟨x, hx, rfl⟩ := List.mem_map.mp hn
    exact highest x hx
  · rw [recordsOther ho]
    exact h.ordered o
  · subst ho
    rw [recordsHere] at hx
    rcases List.mem_cons.mp hx with rfl | hx
    · exact range
    · exact h.ranged o x hx
  · rw [recordsOther ho] at hx
    exact h.ranged o x hx

/-- An AUDIO cell is in no stack. -/
theorem Places.ClaimsLawful.audio_apart {p : Places} (h : p.ClaimsLawful) {c : CellNo} {a : AudioCell}
    (audio : p.audio c = some a) (sp : SpeakerNo) : c ∉ p.stack sp := by
  intro member
  have held := h.typed sp c member
  unfold Places.claim at held
  unfold Places.audio at audio
  split at audio <;> rename_i cell
  · rw [cell] at held
    cases held
  · cases audio
  · cases audio

theorem Move.claimsLawful {copies claims : Prop} {p q : Places} (h : Move copies claims p q) (hp : p.Partitioned)
    (legal : p.BanksLegal) (claims : p.ClaimsLawful) : q.ClaimsLawful := by
  cases h with
  | dequeued => exact claims.fewer (fun _ => .refl _) fun _ _ _ => rfl
  | unringed => exact claims.fewer (fun _ => .refl _) fun _ _ _ => rfl
  | passed => exact claims.fewer (fun _ => .refl _) fun _ _ _ => rfl
  | planned => exact claims.fewer (fun _ => .refl _) fun _ _ _ => rfl
  | emptied => exact claims.fewer (fun _ => List.nil_sublist _) fun _ _ hc => by cases hc
  | queued st free a => exact claims.fewer (fun _ => .refl _) fun sp c hc => hp.claim_free free _ sp c hc
  | copied z free audio => exact claims.fewer (fun _ => .refl _) fun sp c hc => hp.claim_free free _ sp c hc
  | @marked c a audio b =>
    exact claims.fewer (fun _ => .refl _) fun sp d hd =>
      p.claim_setCell_other _ (Ne.symm (ne_of_mem_of_not_mem hd (claims.audio_apart audio sp)))
  | @unstacked allowed sp freed kept parts inOrder =>
    refine claims.fewer (fun o => ?_) fun _ _ _ => rfl
    show (update p.stack sp kept o).Sublist (p.stack o)
    by_cases ho : o = sp
    · subst ho
      rwa [Function.update_self]
    · rw [Function.update_of_ne ho]
  | claimed allowed sp free overlay priority above =>
    obtain ⟨-, -, -, -, -, -, -, range⟩ := legal.1.1 _
    obtain ⟨least, most, -⟩ := range overlay
    exact claims.pushed hp free (by rw [priority]; exact ⟨least, most⟩) above

/-- A move that may not change the claims leaves every stack with what its cells hold, and the active bank. -/
theorem Move.quiet {copies : Prop} {p q : Places} (h : Move copies False p q) (hp : p.Partitioned)
    (claims : p.ClaimsLawful) :
    q.stack = p.stack ∧ (∀ sp, q.records sp = p.records sp) ∧ q.active = p.active := by
  have written {c : CellNo} (x : Cell) (apart : ∀ sp, c ∉ p.stack sp) (sp : SpeakerNo) :
      (p.stack sp).filterMap { p with cells := tblSet p.cells c x : Places }.claim = p.records sp :=
    List.filterMap_congr fun d hd => p.claim_setCell_other x (Ne.symm (ne_of_mem_of_not_mem hd (apart sp)))
  cases h with
  | dequeued => exact ⟨rfl, fun _ => rfl, rfl⟩
  | unringed => exact ⟨rfl, fun _ => rfl, rfl⟩
  | passed => exact ⟨rfl, fun _ => rfl, rfl⟩
  | queued st free a => exact ⟨rfl, written _ (hp.free_alone free).2.2, rfl⟩
  | copied z free audio => exact ⟨rfl, written _ (hp.free_alone free).2.2, rfl⟩
  | marked audio b => exact ⟨rfl, written _ (claims.audio_apart audio), rfl⟩
  | unstacked allowed => exact allowed.elim
  | claimed allowed => exact allowed.elim
  | planned allowed => exact allowed.elim
  | emptied allowed => exact allowed.elim

/-! ### Audio -/

/-- Queues and rings that gained only AUDIO cells, their others holding audio as they did. -/
theorem Places.AudioLawful.moved {p q : Places} (h : p.AudioLawful)
    (queues : ∀ st, ∀ c ∈ q.queue st, (q.audio c).isSome ∨ (∃ o, c ∈ p.queue o) ∧ q.audio c = p.audio c)
    (rings : ∀ z, ∀ c ∈ q.ring z,
      (q.audio c).isSome ∨ ((∃ o, c ∈ p.queue o) ∨ ∃ o, c ∈ p.ring o) ∧ q.audio c = p.audio c) :
    q.AudioLawful := by
  refine ⟨fun st c hc => ?_, fun z c hc => ?_⟩
  · rcases queues st c hc with held | ⟨⟨o, ho⟩, same⟩
    · exact held
    · rw [same]; exact h.queues o c ho
  · rcases rings z c hc with held | ⟨⟨o, ho⟩ | ⟨o, ho⟩, same⟩
    · exact held
    · rw [same]; exact h.queues o c ho
    · rw [same]; exact h.rings o c ho

theorem mem_update {α : Type} [DecidableEq α] {f : α → List CellNo} {i j : α} {l : List CellNo} {c : CellNo}
    (h : c ∈ update f i l j) : c ∈ l ∨ c ∈ f j := by
  by_cases here : j = i
  · subst here
    rw [Function.update_self] at h
    exact .inl h
  · rw [Function.update_of_ne here] at h
    exact .inr h

/-- What a free cell comes to hold leaves what the queues and rings hold. -/
theorem Places.Partitioned.audio_free {p : Places} (hp : p.Partitioned) {c : CellNo} {rest : List CellNo}
    (free : p.free = c :: rest) (x : Cell) {d : CellNo} (hd : (∃ st, d ∈ p.queue st) ∨ ∃ z, d ∈ p.ring z) :
    { p with cells := tblSet p.cells c x : Places }.audio d = p.audio d := by
  obtain ⟨queues, rings, -⟩ := hp.free_alone free
  rcases hd with ⟨st, hd⟩ | ⟨z, hd⟩
  · exact p.audio_setCell_other x (Ne.symm (ne_of_mem_of_not_mem hd (queues st)))
  · exact p.audio_setCell_other x (Ne.symm (ne_of_mem_of_not_mem hd (rings z)))

theorem Places.audio_setCell_same (p : Places) (c : CellNo) (a : AudioCell) :
    { p with cells := tblSet p.cells c (.audio a) : Places }.audio c = some a := by
  simp [Places.audio]

theorem Move.audioLawful {claims : Prop} {p q : Places} (h : Move True claims p q) (hp : p.Partitioned)
    (audio : p.AudioLawful) :
    q.AudioLawful := by
  cases h with
  | planned => exact ⟨audio.queues, audio.rings⟩
  | emptied => exact ⟨fun _ _ hc => (nomatch hc), fun _ _ hc => (nomatch hc)⟩
  | @dequeued st freed kept parts =>
    refine audio.moved (fun o c hc => .inr ⟨?_, rfl⟩) fun o c hc => .inr ⟨.inr ⟨o, hc⟩, rfl⟩
    rcases mem_update hc with kept | old
    · exact ⟨st, parts.subset (List.mem_append_right _ kept)⟩
    · exact ⟨o, old⟩
  | @unringed z freed kept parts =>
    refine audio.moved (fun o c hc => .inr ⟨⟨o, hc⟩, rfl⟩) fun o c hc => .inr ⟨.inr ?_, rfl⟩
    rcases mem_update hc with kept | old
    · exact ⟨z, parts.subset (List.mem_append_right _ kept)⟩
    · exact ⟨o, old⟩
  | unstacked => exact ⟨audio.queues, audio.rings⟩
  | @passed st z c rest head =>
    refine audio.moved (fun o d hd => .inr ⟨?_, rfl⟩) fun o d hd => .inr ⟨?_, rfl⟩
    · rcases mem_update hd with kept | old
      · exact ⟨st, head ▸ List.mem_cons_of_mem _ kept⟩
      · exact ⟨o, old⟩
    · rcases mem_update hd with joined | old
      · rcases List.mem_append.mp joined with old | new
        · exact .inr ⟨z, old⟩
        · exact .inl ⟨st, by rw [head, List.mem_singleton.mp new]; exact List.mem_cons_self⟩
      · exact .inr ⟨o, old⟩
  | @queued st c rest free a =>
    refine audio.moved (fun o d hd => ?_) fun o d hd =>
      .inr ⟨.inr ⟨o, hd⟩, hp.audio_free free (.audio a) (.inr ⟨o, hd⟩)⟩
    have kept {o d} (hd : d ∈ p.queue o) := hp.audio_free free (.audio a) (.inl ⟨o, hd⟩)
    rcases mem_update hd with joined | old
    · rcases List.mem_append.mp joined with old | new
      · exact .inr ⟨⟨st, old⟩, kept old⟩
      · rw [List.mem_singleton.mp new]
        exact .inl (Option.isSome_iff_exists.mpr ⟨a, p.audio_setCell_same c a⟩)
    · exact .inr ⟨⟨o, old⟩, kept old⟩
  | @copied z c rest free x copy =>
    obtain ⟨a, rfl⟩ := copy trivial
    refine audio.moved (fun o d hd => .inr ⟨⟨o, hd⟩, hp.audio_free free (.audio a) (.inl ⟨o, hd⟩)⟩)
      fun o d hd => ?_
    have kept {o d} (hd : d ∈ p.ring o) := hp.audio_free free (.audio a) (.inr ⟨o, hd⟩)
    rcases mem_update hd with joined | old
    · rcases List.mem_append.mp joined with old | new
      · exact .inr ⟨.inr ⟨z, old⟩, kept old⟩
      · rw [List.mem_singleton.mp new]
        exact .inl (Option.isSome_iff_exists.mpr ⟨a, p.audio_setCell_same c a⟩)
    · exact .inr ⟨.inr ⟨o, old⟩, kept old⟩
  | @claimed allowed sp c rest free z overlay r priority above =>
    exact audio.moved (fun o d hd => .inr ⟨⟨o, hd⟩, hp.audio_free free (.claim r) (.inl ⟨o, hd⟩)⟩)
      fun o d hd => .inr ⟨.inr ⟨o, hd⟩, hp.audio_free free (.claim r) (.inr ⟨o, hd⟩)⟩
  | @marked c a held b =>
    have holds {d} (hd : (p.audio d).isSome) :
        ({ p with cells := tblSet p.cells c (.audio b) : Places }.audio d).isSome := by
      by_cases here : c = d
      · subst here
        rw [p.audio_setCell_same]
        rfl
      · rwa [p.audio_setCell_other _ here]
    exact ⟨fun o d hd => holds (audio.queues o d hd), fun o d hd => holds (audio.rings o d hd)⟩

/-! ### Moves one after another -/

namespace Moves

variable {copies claims : Prop} {p q : Places}

theorem partitioned (h : Moves copies claims p q) (hp : p.Partitioned) : q.Partitioned := by
  induction h with
  | refl => exact hp
  | tail _ move ih => exact move.partitioned ih

theorem claimsLawful (h : Moves copies claims p q) (hp : p.Partitioned) (legal : p.BanksLegal)
    (lawful : p.ClaimsLawful) : q.BanksLegal ∧ q.ClaimsLawful := by
  induction h with
  | refl => exact ⟨legal, lawful⟩
  | tail before move ih =>
    exact ⟨move.banksLegal ih.1, move.claimsLawful (partitioned before hp) ih.1 ih.2⟩

theorem quiet (h : Moves copies False p q) (hp : p.Partitioned) (legal : p.BanksLegal) (lawful : p.ClaimsLawful) :
    q.stack = p.stack ∧ (∀ sp, q.records sp = p.records sp) ∧ q.active = p.active := by
  induction h with
  | refl => exact ⟨rfl, fun _ => rfl, rfl⟩
  | tail before move ih =>
    obtain ⟨stack, records, active⟩ := ih
    obtain ⟨stack', records', active'⟩ := move.quiet (partitioned before hp)
      (claimsLawful before hp legal lawful).2
    exact ⟨stack'.trans stack, fun sp => (records' sp).trans (records sp), active'.trans active⟩

theorem audioLawful (h : Moves True claims p q) (hp : p.Partitioned) (audio : p.AudioLawful) : q.AudioLawful := by
  induction h with
  | refl => exact audio
  | tail before move ih => exact move.audioLawful (partitioned before hp) ih

end Moves

end Sys2Proof.Machine
end

section
/-! Every operation moves cells from place to place, one `Move` after another; with what a move keeps, every step keeps
each cell in one place, and the Claim Stacks ordered. -/

namespace Sys2Proof.Machine

open Sys2Proof
open Function (update)

/-! ### The places after an update of the state -/

theorem Still.places {s t : State} (h : Still s t) : t.places = s.places := by
  obtain ⟨free, cells, queues, zones, claims, active, staged, -, -⟩ := h
  unfold State.places
  rw [free, cells, active, staged, funext queues]
  simp only [State.zone, zones]
  rw [show t.claimStack = s.claimStack from funext fun sp => by rw [State.claimStack, claims]; rfl]

theorem State.places_modStream (s : State) (st : StreamNo) (f : Stream → Stream) :
    (s.modStream st f).places = { s.places with queue := update s.places.queue st (f (s.stream st)).queue } := by
  refine Places.ext rfl rfl (funext fun o => ?_) rfl rfl rfl rfl
  show ((s.modStream st f).stream o).queue = update s.places.queue st (f (s.stream st)).queue o
  rw [State.stream_modStream, Function.update_apply]
  split
  · rw [if_pos (Eq.symm ‹_›)]
  · rw [if_neg (Ne.symm ‹_›)]; rfl

theorem State.places_modZone (s : State) (z : ZoneNo) (f : ZoneRun → ZoneRun) :
    (s.modZone z f).places = { s.places with ring := update s.places.ring z (ringCells (f (s.zone z)).ring) } := by
  refine Places.ext rfl rfl rfl (funext fun o => ?_) rfl rfl rfl
  show ringCells ((s.modZone z f).zone o).ring = update s.places.ring z (ringCells (f (s.zone z)).ring) o
  rw [State.zone_modZone, Function.update_apply]
  split
  · rw [if_pos (Eq.symm ‹_›)]
  · rw [if_neg (Ne.symm ‹_›)]; rfl

theorem State.places_setClaimStack (s : State) (sp : SpeakerNo) (l : List CellNo) :
    (s.setClaimStack sp l).places = { s.places with stack := update s.places.stack sp l } := by
  refine Places.ext rfl rfl rfl rfl (funext fun o => ?_) rfl rfl
  show (s.setClaimStack sp l).claimStack o = update s.places.stack sp l o
  rw [State.claimStack, State.setClaimStack, State.modOverlay, tblGet_tblSet, Function.update_apply]
  split
  · rw [if_pos (Eq.symm ‹_›)]
  · rw [if_neg (Ne.symm ‹_›)]; rfl

theorem State.places_setCell (s : State) (c : CellNo) (x : Cell) :
    (s.setCell c x).places = { s.places with cells := tblSet s.places.cells c x } := rfl

theorem places_releaseCells (cs : List CellNo) (s : State) :
    (releaseCells cs s).places = { s.places with free := cs.reverse ++ s.places.free } := by
  rw [releaseCells_eq]
  rfl

theorem places_releaseCell (c : CellNo) (s : State) :
    (releaseCell c s).places = { s.places with free := c :: s.places.free } := places_releaseCells [c] s

/-- A take hands out the head of the free list (R25). -/
theorem takeCell_places {kind : TakeKind} {s t : State} {c : CellNo} (h : takeCell kind s = some (c, t)) :
    ∃ rest, s.places.free = c :: rest ∧ t.places = { s.places with free := rest } := by
  unfold takeCell at h
  split at h
  · cases h
  · rename_i d rest free
    split at h
    · cases h
      have checked (u : State) : Still u (depletionCheck u) := by
        unfold depletionCheck
        split
        · exact (Still.modStore rfl rfl).trans (Still.offerEvent _ _ _ _)
        · exact .refl u
      exact ⟨rest, free, (checked _).places⟩
    · cases h

/-! ### Operations as moves -/

/-- The operation moves cells from place to place. -/
def Moved (copies claims : Prop) (s t : State) : Prop := Moves copies claims s.places t.places

namespace Moved

variable {copies claims : Prop} {s t u : State}

theorem trans (h : Moved copies claims s t) (k : Moved copies claims t u) : Moved copies claims s u :=
  Relation.ReflTransGen.trans h k

theorem same (h : t.places = s.places) : Moved copies claims s t := by
  unfold Moved
  rw [h]
  exact .refl

theorem still (h : Still s t) : Moved copies claims s t := same h.places

theorem single {q : Places} (h : Move copies claims s.places q) (e : t.places = q) : Moved copies claims s t := by
  unfold Moved
  rw [e]
  exact .single h

theorem forEach {α : Type} (f : α → State → State) (each : ∀ a s, Moved copies claims s (f a s)) (l : List α)
    (s : State) : Moved copies claims s (s.forEach l f) := by
  induction l generalizing s with
  | nil => exact same rfl
  | cons a l ih => exact (each a s).trans (ih (f a s))

/-- A zone changed, its ring left. -/
theorem modZone (s : State) (z : ZoneNo) {f : ZoneRun → ZoneRun} (ring : (f (s.zone z)).ring = (s.zone z).ring) :
    Moved copies claims s (s.modZone z f) := by
  refine same ?_
  rw [State.places_modZone, ring]
  exact Places.ext rfl rfl rfl (Function.update_eq_self _ _) rfl rfl rfl

theorem emptyQueue (st : StreamNo) (s : State) : Moved copies claims s (emptyQueue st s) := by
  have freed : ((s.stream st).queue.reverse ++ []).Perm (s.stream st).queue := by simp [List.reverse_perm]
  refine single (.dequeued st freed) ?_
  · rw [Machine.emptyQueue, State.places_modStream, places_releaseCells]

theorem markHead (st : StreamNo) (s : State) : Moved copies claims s (markHead st s) := by
  unfold Machine.markHead
  split
  · exact same rfl
  · split
    · rename_i c _ _ _ a audio
      refine single (.marked (c := c) (a := a) ?_ _) rfl
      rw [s.places_audio, audio]
    · exact same rfl

theorem overflow (st : StreamNo) (s : State) : Moved copies claims s (overflow st s) := by
  unfold Machine.overflow
  split
  · exact same rfl
  · rename_i c rest queue
    refine trans (single (.dequeued st (freed := [c]) (kept := rest) ?_) ?_) (markHead st _)
    · exact List.Perm.of_eq queue.symm
    · rw [State.places_modStream, places_releaseCell]
      rfl

theorem appendFrame {c : CellNo} (taken : takeCell .intake s = some (c, t)) (st : StreamNo) (f : SourceFrame)
    (gap : Nat) (discontinuity : Bool) : Moved copies claims s (appendFrame st f gap discontinuity c t) := by
  obtain ⟨rest, free, places⟩ := takeCell_places taken
  have joined : Moved copies claims s ((t.setCell c (.audio (audioCellOf st f discontinuity))).modStream st fun d =>
      d.append c f gap) := by
    refine single (.queued st free (audioCellOf st f discontinuity)) ?_
    have queue : (t.stream st).queue = (s.stream st).queue := congrFun (congrArg Places.queue places) st
    rw [State.places_modStream, State.places_setCell, places]
    show _ = _
    simp only [Stream.append, State.places]
    rw [← queue]
    rfl
  unfold Machine.appendFrame
  simp only []
  split
  · exact joined.trans (still (Only.observe _ _ _).still)
  · exact joined

/-- Entries of a ring, the cells of the others released (R110, R111). -/
theorem trimRing (z : ZoneNo) (keep : IssueEntry → Bool) (s : State) : Moved copies claims s (trimRing z keep s) := by
  set ring := (s.zone z).ring with written
  have parts : ((ringCells (ring.filter fun e => !keep e)).reverse ++ ringCells (ring.filter keep)).Perm
      (s.places.ring z) := by
    refine ((List.reverse_perm _).append_right _).trans ?_
    unfold ringCells
    rw [← List.filterMap_append]
    refine List.Perm.filterMap _ (List.perm_append_comm.trans ?_)
    exact List.filter_append_perm keep ring
  refine single (.unringed z parts) ?_
  rw [Machine.trimRing, places_releaseCells, State.places_modZone]

/-! #### Zones -/

theorem enterDraining (z : ZoneNo) (s : State) : Moved copies claims s (enterDraining z s) := modZone s z rfl

theorem releaseRecord (allowed : claims) {sp : SpeakerNo} {c : CellNo} {s : State} (member : c ∈ s.claimStack sp) :
    Moved copies claims s (releaseRecord sp c s) := by
  refine single (.unstacked allowed sp (freed := [c]) (kept := (s.claimStack sp).erase c) ?_ List.erase_sublist) ?_
  · exact (List.perm_cons_erase member).symm
  · rw [Machine.releaseRecord, places_releaseCell, State.places_setClaimStack]
    rfl

theorem endClaim (allowed : claims) (z : ZoneNo) (sp : SpeakerNo) (s : State) :
    Moved copies claims s (endClaim z sp s) := by
  unfold Machine.endClaim
  split
  · exact same rfl
  · rename_i c found
    have released : Moved copies claims s (Machine.releaseRecord sp c s) :=
      releaseRecord allowed (List.mem_of_find?_eq_some found)
    split
    · exact released.trans (still (Only.refresh _ _).still)
    · exact released

theorem reachIdle (allowed : claims) (z : ZoneNo) (s : State) : Moved copies claims s (reachIdle z s) := by
  have ended : Moved copies claims s (endTap z (Machine.offerEvent .zoneEnded z.val
      [f2 ((s.modZone z fun r => { r with state := .idle }).zone z).issueNumber.toNat, f6 s.block]
      (s.modZone z fun r => { r with state := .idle }))) :=
    ((modZone s z rfl).trans (still (Still.offerEvent _ _ _ _))).trans (still (Only.endTap _ _).still)
  unfold Machine.reachIdle
  simp only []
  split
  · exact ended.trans (forEach _ (endClaim allowed z) _ _)
  · exact ended

theorem judgeClaim (allowed : claims) {z : ZoneNo} {q : Nat} {s : State} (overlay : (s.activeZone z).kind = .overlay)
    (priority : q = (s.activeZone z).priority) (role : Role) (sp : SpeakerNo) :
    Moved copies claims s (judgeClaim z q role sp s) := by
  unfold Machine.judgeClaim
  split
  · exact still ((Still.modClaimCounters _ _ _).trans (Still.offerEvent _ _ _ _))
  · rename_i above
    split
    · rename_i c t taken
      obtain ⟨rest, free, places⟩ := takeCell_places taken
      unfold claimMade
      simp only []
      set r : ClaimCell := { zone := z, priority := q, role := role, claimedAt := t.block } with record
      have pushed : Moved copies claims s
          ((t.setCell c (.claim r)).setClaimStack sp (c :: (t.setCell c (.claim r)).claimStack sp)) := by
        refine single (.claimed allowed sp free (z := z) (r := r) overlay priority fun top first => ?_) ?_
        · have top : s.topClaim sp = some top := by
            rw [State.topClaim, ← s.places_claim]
            exact first
          rw [State.stackPriority, top] at above
          exact not_le.mp above
        · have stack : t.claimStack sp = s.claimStack sp := congrFun (congrArg Places.stack places) sp
          rw [State.places_setClaimStack, State.places_setCell, places]
          show _ = _
          simp only [State.places]
          rw [← stack]
          rfl
      have counted := pushed.trans (still (Still.modClaimCounters _ z fun k => { k with made := bump k.made 1 }))
      exact counted.trans (still ((Only.cut sp _).then (m := [.speakers, .air]) (Only.refresh sp _)).still)
    · exact still ((Still.modClaimCounters _ _ _).trans (Still.offerEvent _ _ _ _))

/-- The members judged one after another: the plan stands all the while. -/
theorem judgeClaims (allowed : claims) {z : ZoneNo} {q : Nat} (role : Role) (l : List SpeakerNo) {s : State}
    (overlay : (s.activeZone z).kind = .overlay) (priority : q = (s.activeZone z).priority) :
    Moved copies claims s (s.forEach l (Machine.judgeClaim z q role)) := by
  induction l generalizing s with
  | nil => exact same rfl
  | cons sp l ih =>
    have plan : (Machine.judgeClaim z q role sp s).activeZone z = s.activeZone z :=
      congrArg (fun p : Plan => tblGet p.active.zones z) (Only.judgeClaim z q role sp s).plan_eq
    rw [← plan] at overlay priority
    exact (judgeClaim allowed (plan ▸ overlay) (plan ▸ priority) role sp).trans (ih overlay priority)

theorem enterPlaying (allowed : claims) (z : ZoneNo) (s : State) : Moved copies claims s (enterPlaying z s) := by
  have entered (f : ZoneRun → ZoneRun) (ring : (f (s.zone z)).ring = (s.zone z).ring) :
      Moved copies claims s (s.modZone z f) := modZone s z ring
  unfold Machine.enterPlaying
  simp only []
  split
  · rename_i overlay
    exact ((entered _ rfl).trans (judgeClaims allowed _ _ overlay rfl)).trans (still (Still.offerEvent _ _ _ _))
  · exact (entered _ rfl).trans (still (Still.offerEvent _ _ _ _))

/-- A SILENT entry is issued without a cell. -/
theorem silentAdded (s : State) (z : ZoneNo) {e : IssueEntry} (silent : e.cell = none) :
    Moved copies claims s (s.modZone z fun r => r.addEntry e) := by
  refine same ?_
  rw [State.places_modZone]
  refine Places.ext rfl rfl rfl ?_ rfl rfl rfl
  refine (congrArg (update _ z) ?_).trans (Function.update_eq_self _ _)
  simp [ringCells, ZoneRun.addEntry, silent, State.places]

/-- The cell that an entry adds to the places of its ring. -/
theorem ringCells_addEntry (r : ZoneRun) {e : IssueEntry} {c : CellNo} (h : e.cell = some c) :
    ringCells (r.addEntry e).ring = ringCells r.ring ++ [c] := by simp [ringCells, ZoneRun.addEntry, h]

theorem issueConcealed (z : ZoneNo) (gainStart : Nat) (s : State)
    (known : copies → (s.zone z).prevKind = some .normal → ∃ a, s.copyOfNewest z = .audio a) :
    Moved copies claims s (issueConcealed z gainStart s).2 := by
  unfold Machine.issueConcealed
  simp only []
  split
  · rename_i normal
    split
    · rename_i c t taken
      obtain ⟨rest, free, places⟩ := takeCell_places taken
      refine single (.copied z free (x := s.copyOfNewest z) fun h => known h normal) ?_
      rw [State.places_modZone, ringCells_addEntry _ (e := repeatEntry (s.zone z) s.block gainStart c) rfl,
        State.places_setCell, places]
      have ring : ringCells (t.zone z).ring = ringCells (s.zone z).ring := congrFun (congrArg Places.ring places) z
      show _ = _
      simp only [State.places]
      rw [← ring]
      rfl
    · exact silentAdded s z rfl
  · exact silentAdded s z rfl

/-- A queue's head handed to a zone that issues. -/
theorem issueAnswer_some {st : StreamNo} {s t : State} {c : CellNo} (h : issueAnswer st s = (some c, t)) :
    ∃ rest, s.places.queue st = c :: rest
      ∧ t.places = { s.places with queue := update s.places.queue st rest } := by
  unfold issueAnswer at h
  split at h
  · rename_i d rest queue
    cases h
    have checked (u : State) : Still u (demandCheck st u) := by
      unfold demandCheck
      simp only []
      split
      · exact Still.demandReport _ _
      · exact .refl u
    exact ⟨rest, queue, by rw [(checked _).places, State.places_modStream]⟩
  · cases h

theorem issueAnswer_none {st : StreamNo} {s t : State} (h : issueAnswer st s = (none, t)) : Still s t := by
  unfold issueAnswer at h
  split at h
  · cases h
  · cases h
    refine Still.modStream ?_
    split <;> rfl

theorem issue (z : ZoneNo) (gainStart : Nat) (s : State)
    (known : copies → (s.zone z).prevKind = some .normal → ∃ a, s.copyOfNewest z = .audio a) :
    Moved copies claims s (issue z gainStart s).2 := by
  unfold Machine.issue
  split
  · exact silentAdded s z rfl
  · rename_i st _
    split
    · rename_i c t answer
      obtain ⟨rest, head, places⟩ := issueAnswer_some answer
      refine single (.passed st z head) ?_
      rw [Machine.issueNormal, State.places_modZone,
        ringCells_addEntry _ (e := normalEntry (t.zone z) t.block gainStart c (t.audioCell c)) rfl, places]
      have ring : ringCells (t.zone z).ring = ringCells (s.zone z).ring := congrFun (congrArg Places.ring places) z
      show _ = _
      simp only [State.places]
      rw [← ring]
    · rename_i t answer
      have kept := issueAnswer_none answer
      split
      · refine (still kept).trans (issueConcealed z gainStart t fun h normal => ?_)
        have zone : t.zone z = s.zone z := congrArg (tblGet · z) kept.zones
        have audio : t.audioCell = s.audioCell := by
          rw [← t.places_audio, ← s.places_audio, kept.places]
        rw [zone] at normal
        rw [State.copyOfNewest, zone, audio]
        exact known h normal
      · unfold issueStarved
        exact ((still kept).trans (silentAdded t z rfl)).trans (still (Still.offerEvent _ _ _ _))

end Moved

/-- What the STOPs of a zone do is made of moves. -/
theorem Moved.stops (copies : Prop) (z : ZoneNo) : Stops z (Moved copies True) where
  trans := Moved.trans
  still := Moved.still
  drains _ := Moved.enterDraining z _
  idles _ _ := Moved.reachIdle trivial z _
  trimmed keep s := Moved.trimRing z keep s

/-- What the cues of a zone do is made of moves. -/
theorem Moved.cues (copies : Prop) (z : ZoneNo) : Cues z (Moved copies True) where
  trans := Moved.trans
  still := Moved.still
  levelled s _ _ _ _ := Moved.modZone s z rfl
  stopped := (Moved.stops copies z).softStop

/-- What the work of a zone does is made of moves. -/
theorem Moved.works (z : ZoneNo) : Works z (Moved False True) where
  toStops := Moved.stops False z
  levelled s _ _ _ _ := Moved.modZone s z rfl
  gained s := Moved.modZone s z rfl
  plays _ := Moved.enterPlaying trivial z _
  issues gainStart s := Moved.issue z gainStart s False.elim

end Sys2Proof.Machine
end

section
/-! RESTART and a swap as moves; each cell stays in one place across every step (O7). -/

namespace Sys2Proof.Machine

open Sys2Proof

/-! ### RESTART -/

/-- What RESTART leaves of what the laws of cells, zones and records read (R201). -/
structure Restarted (s t : State) : Prop where
  free : t.store.freeList = ascendingCells
  queues : ∀ st : StreamNo, (t.stream st).queue = []
  zones : ∀ z : ZoneNo, t.zone z = { s.zone z with state := .idle, prevKind := none, ring := [] }
  claims : ∀ sp : SpeakerNo, t.claimStack sp = []
  active : t.plan.active = s.plan.active
  staged : t.plan.staged = s.plan.staged
  block : t.timeline.block = s.timeline.block
  due : t.agenda.zones = s.agenda.zones

theorem restartTimeline_still (s : State) : Still s (restartTimeline s) :=
  (Still.modTimeline rfl).trans (Still.modAgenda _ _)

/-- RESTART empties every queue (R57). -/
theorem restartStreams_queue (s : State) (st : StreamNo) : ((restartStreams s).stream st).queue = [] := by
  have each (o : StreamNo) (t : State) : Still t (restartDemand o t) := by
    unfold restartDemand
    split
    · exact Still.demandReport _ _
    · exact .refl t
  unfold restartStreams
  simp only []
  rw [(Still.forEach _ each _ _).queues st]
  simp [State.stream]

/-- What RESTART does to Zone Playout: zones at rest, and speakers' runtime state besides (R138). -/
theorem restartPlayout_still (s : State) : Still (restartZones s) (restartPlayout s) :=
  (Still.forEach _ (fun sp t => ((Only.cut sp t).then (m := [.speakers, .air]) (Only.resyncNotice sp _)).still) _
    _).trans (Still.forEach _ (fun sp t => (Only.recompute sp t).still) _ _)

theorem restartZones_zone (s : State) (z : ZoneNo) :
    (restartZones s).zone z = { s.zone z with state := .idle, prevKind := none, ring := [] } :=
  tblGet_tblMap _ _ z

theorem restartBlocks_restarted (s : State) : Restarted s (restartBlocks s) := by
  unfold restartBlocks
  simp only []
  have first := restartTimeline_still s
  generalize restartTimeline s = a at first
  have streams := Only.restartStreams (rebuildStore a)
  have queues := restartStreams_queue (rebuildStore a)
  generalize restartStreams (rebuildStore a) = b at streams queues
  have plan : Still b (restartPlan (restartTracker b)) :=
    (Only.restartTracker b).still.trans (Only.restartPlan _).still
  generalize restartPlan (restartTracker b) = c at plan
  have links : Still (restartClaims c) (restartAir (restartCues (restartClaims c))) :=
    (Only.restartCues _).still.trans (Only.modAir _ _).still
  generalize restartAir (restartCues (restartClaims c)) = d at links
  have playout := restartPlayout_still d
  generalize restartPlayout d = t at playout
  have rebuilt : b.store.freeList = ascendingCells := by
    rw [streams.store_eq]
    simp only [rebuildStore, State.modStore_store]
  have zones : d.playout.zones = s.playout.zones := by
    rw [links.zones, ← first.zones]
    exact plan.zones.trans (streams.same .zones (by decide))
  refine ⟨?_, fun st => ?_, fun z => ?_, fun sp => ?_, ?_, ?_, ?_, ?_⟩
  · exact playout.free.trans (links.free.trans (plan.free.trans rebuilt))
  · exact (playout.queues st).trans ((links.queues st).trans ((plan.queues st).trans (queues st)))
  · rw [show t.zone z = (restartZones d).zone z from congrArg (tblGet · z) playout.zones, restartZones_zone,
      show d.zone z = s.zone z from congrArg (tblGet · z) zones]
  · have emptied : d.claimStack sp = [] := by
      rw [State.claimStack, links.claims]
      exact tblGet_replicate _ sp
    exact (congrArg (tblGet · sp) playout.claims).trans emptied
  · exact playout.active.trans (links.active.trans (plan.active.trans (by rw [streams.plan_eq]; exact first.active)))
  · exact playout.staged.trans (links.staged.trans (plan.staged.trans (by rw [streams.plan_eq]; exact first.staged)))
  · exact playout.block.trans (links.block.trans (plan.block.trans (by rw [streams.timeline_eq]; exact first.block)))
  · exact playout.due.trans (links.due.trans (plan.due.trans (by rw [streams.agenda_eq]; exact first.due)))

/-- Every cell is free, and every other place empty, after RESTART. -/
theorem Restarted.places {s t : State} (h : Restarted s t) :
    t.places = { free := ascendingCells, cells := t.store.cells, queue := fun _ => [], ring := fun _ => [],
                 stack := fun _ => [], active := s.plan.active, staged := s.plan.staged } := by
  refine Places.ext ?_ rfl (funext h.queues) (funext fun z => ?_) (funext h.claims) h.active h.staged
  · simpa only [State.places] using h.free
  show ringCells (t.zone z).ring = []
  rw [h.zones z]
  rfl

theorem State.reset_places (rstLow : Bool) (pending : List Instr) :
    ({ State.reset with rstLow := rstLow, pending := pending } : State).places =
      { free := ascendingCells, cells := State.reset.store.cells, queue := fun _ => [], ring := fun _ => [],
        stack := fun _ => [], active := Bank.reset, staged := Bank.reset } := by
  refine Places.ext ?_ rfl (funext fun st => ?_) (funext fun z => ?_) (funext fun sp => ?_) rfl rfl
  · simpa only [State.places] using reset_freeList
  · exact congrArg Stream.queue (tblGet_replicate _ st)
  · exact congrArg (fun r : ZoneRun => ringCells r.ring) (tblGet_replicate _ z)
  · exact tblGet_replicate _ sp

/-! ### The swap -/

/-- A relation that holds across the switch of the banks and the notices of a swap holds across a completed swap. -/
theorem completeSwap_closed {R : State → State → Prop} (trans : ∀ {s t u}, R s t → R t u → R s u)
    (still : ∀ {s t}, Still s t → R s t)
    (activated : ∀ s, R s (s.modPlan fun p => { p with active := p.staged, swapPending := false }))
    (noticed : ∀ old z s, R s (zoneNotice old z s)) (unclaimed : ∀ sp s, R s (removeClaims sp s))
    (emptied : ∀ st s, R s (emptyQueue st s)) (s : State) : R s (completeSwap s) := by
  have forEach {α : Type} {f : α → State → State} (each : ∀ a s, R s (f a s)) (l : List α) (s : State) :
      R s (s.forEach l f) := by
    induction l generalizing s with
    | nil => exact still (.refl s)
    | cons a l ih => exact trans (each a s) (ih (f a s))
  have speaker (old sp) (t : State) : R t (speakerNotice old sp t) := by
    have readdressed (u : State) : Still u (speakerReaddressed old sp u) :=
      ((Only.cutAt _ _ _).then (m := [.speakers, .air, .entries]) (Only.removeEntry _ _)).still.trans
        (Only.presenceNotice _ _).still
    unfold speakerNotice
    simp only []
    split
    · split
      · refine still ?_
        split
        · split
          · exact (readdressed t).trans (Only.refresh _ _).still
          · exact (Only.refresh _ _).still
        · split
          · exact readdressed t
          · exact .refl t
      · refine trans (unclaimed sp t) (still ?_)
        exact ((Only.cutAt _ _ _).then (m := [.speakers, .air, .entries]) (Only.recompute _ _)).still.trans
          ((Only.removeEntry _ _).still.trans (Only.setAccessed _ _ _).still)
    · split
      · exact still (Only.presenceNotice _ _).still
      · exact still (.refl t)
  have stream (old st) (t : State) : R t (streamNotice old st t) := by
    unfold streamNotice flushQueue
    simp only []
    split
    · split
      · exact trans (emptied st t) (still (Still.demandReport _ _))
      · exact emptied st t
    · exact still (.refl t)
  unfold completeSwap
  simp only []
  have roles (l : List SpeakerNo) (t : State) : Still t (t.forEach l followRole) :=
    Still.forEach _ (fun sp u => (Only.modSpeaker u sp _).still) l t
  have reported := trans (activated s) (still (Still.offerEvent .swapDone 0
    [f6 (s.modPlan fun p => { p with active := p.staged, swapPending := false }).block] _))
  exact trans (trans (trans (trans reported (still (roles _ _))) (forEach (noticed _) _ _)) (forEach (speaker _) _ _))
    (forEach (stream _) _ _)

namespace Moved

variable {copies claims : Prop}

theorem removeClaims (allowed : claims) (sp : SpeakerNo) (s : State) : Moved copies claims s (removeClaims sp s) := by
  have freed : ((s.claimStack sp).reverse ++ []).Perm (s.claimStack sp) := by simp [List.reverse_perm]
  refine single (.unstacked allowed sp freed (List.nil_sublist _)) ?_
  rw [Machine.removeClaims, places_releaseCells, State.places_setClaimStack]

theorem zoneNotice (old : Bank) (z : ZoneNo) (s : State) : Moved copies claims s (zoneNotice old z s) := by
  unfold Machine.zoneNotice
  simp only []
  split
  · exact modZone s z rfl
  · exact same rfl

/-- The staged bank becomes active. -/
theorem activate (allowed : claims) (s : State) :
    Moved copies claims s (s.modPlan fun p => { p with active := p.staged, swapPending := false }) :=
  single (.planned allowed (active := s.plan.staged) (staged := s.plan.staged) fun ⟨_, legal⟩ => ⟨legal, legal⟩) rfl

theorem swap (allowed : claims) {s : State} (valid : validateSwap s = none) : Moved copies claims s (takeSwap s) := by
  rw [takeSwap_completed valid]
  exact (still (Still.modAgenda s _)).trans (completeSwap_closed (R := Moved copies claims) trans still
    (activate allowed) zoneNotice (removeClaims allowed) emptyQueue _)

end Moved

/-! ### Every step -/

theorem Moved.outsideWork (copies : Prop) : OutsideWork (Moved copies True) where
  trans := Moved.trans
  still := Moved.still
  emptied := Moved.emptyQueue
  overflowed := Moved.overflow
  appended taken := Moved.appendFrame taken
  staged legal := Moved.single (.planned trivial fun banks => ⟨banks.1, legal banks⟩) rfl
  swapped := Moved.swap trivial
  started _ := (Moved.still (Still.modCueRun _ _ _)).trans (Moved.modZone _ _ rfl)
  levelled s z _ _ _ _ := Moved.modZone s z rfl
  stopped z s := (Moved.stops copies z).softStop s
  halted z s := (Moved.stops copies z).hardStop s
  opened _ := Moved.same rfl
  restarted s := Moved.single (.emptied trivial fun banks => banks) (restartBlocks_restarted s).places
  reset _ rstLow pending :=
    Moved.single (.emptied trivial fun _ => ⟨Bank.reset_legal, Bank.reset_legal⟩) (State.reset_places rstLow pending)

theorem Moved.stepClosed : StepClosed (Moved False True) where
  toOutsideWork := Moved.outsideWork False
  worked _ := (Moved.same (t := State.workTaken _ _) rfl).trans ((Moved.works _).zoneWork _)

end Sys2Proof.Machine

open Sys2Proof Sys2Proof.Machine

/-- Settles O7: every step is made of moves of cells, and each move keeps every cell in one place. -/
theorem stepKeepsCells : Obligations.StepKeepsCells := fun _ _ cells next =>
  (Moved.stepClosed.step next).partitioned cells
end

section
/-! The records of the Claim Stacks stay on distinct overlay zones in play (O11). -/

namespace Sys2Proof.Machine

open Sys2Proof

/-! ### What is carried along -/

/-- A zone is PLAYING or DRAINING. -/
def ZoneRun.InPlay (r : ZoneRun) : Prop := r.state = .playing ∨ r.state = .draining

/-- The law of the claim records, with what makes every operation keep it. -/
structure ClaimLaws (s : State) : Prop where
  cells : s.places.Partitioned
  banks : s.BanksLegal
  claims : s.places.ClaimsLawful
  members : s.MembersPresent
  records : s.RecordsLawful

/-- No two records of a stack name one zone, and each names a present overlay that is in play, or `z`. -/
structure RecordsBut (z : ZoneNo → Prop) (s : State) : Prop where
  moving : ∀ y, (s.zone y).state ≠ .idle → (s.activeZone y).present = true
  absent : ∀ sp, (s.activeSpeaker sp).present = false → s.claimStack sp = []
  distinct : ∀ sp, (s.recordZones sp).Nodup
  named : ∀ sp, ∀ y ∈ s.recordZones sp, (s.activeZone y).present = true ∧ (s.activeZone y).kind = .overlay
    ∧ (z y ∨ (s.zone y).InPlay)

theorem recordsLawful_iff (s : State) : s.RecordsLawful ↔ RecordsBut (fun _ => False) s := by
  constructor
  · rintro ⟨moving, each⟩
    exact ⟨moving, fun sp => (each sp).1, fun sp => (each sp).2.1, fun sp y hy => by
      obtain ⟨present, overlay, playing⟩ := (each sp).2.2 y hy
      exact ⟨present, overlay, .inr playing⟩⟩
  · rintro ⟨moving, absent, distinct, named⟩
    exact ⟨moving, fun sp => ⟨absent sp, distinct sp, fun y hy => by
      obtain ⟨present, overlay, playing⟩ := named sp y hy
      exact ⟨present, overlay, playing.resolve_left id⟩⟩⟩

theorem State.recordZones_eq (s : State) (sp : SpeakerNo) :
    s.recordZones sp = (s.places.records sp).map ClaimCell.zone := by
  rw [s.places_records]
  rfl

/-- Stacks that lost records, on the same bank; the zones they name are still in play, or excused. -/
theorem RecordsBut.fewer {s t : State} {z z' : ZoneNo → Prop} (h : RecordsBut z s)
    (active : t.plan.active = s.plan.active)
    (moving : ∀ y, (t.zone y).state ≠ .idle → (s.zone y).state ≠ .idle ∨ (s.activeZone y).present = true)
    (empties : ∀ sp, s.claimStack sp = [] → t.claimStack sp = [])
    (records : ∀ sp, (t.recordZones sp).Sublist (s.recordZones sp))
    (named : ∀ sp, ∀ y ∈ t.recordZones sp, z y ∨ (s.zone y).InPlay → z' y ∨ (t.zone y).InPlay) :
    RecordsBut z' t := by
  have zone (y : ZoneNo) : t.activeZone y = s.activeZone y := congrArg (fun b : Bank => tblGet b.zones y) active
  have speaker (sp : SpeakerNo) : t.activeSpeaker sp = s.activeSpeaker sp :=
    congrArg (fun b : Bank => tblGet b.speakers sp) active
  refine ⟨fun y hy => ?_, fun sp gone => ?_, fun sp => (h.distinct sp).sublist (records sp), fun sp y hy => ?_⟩
  · rw [zone]
    exact (moving y hy).elim (h.moving y) id
  · rw [speaker] at gone
    exact empties sp (h.absent sp gone)
  · obtain ⟨present, overlay, playing⟩ := h.named sp y ((records sp).subset hy)
    rw [zone]
    exact ⟨present, overlay, named sp y hy playing⟩

theorem MembersPresent.of_active {s t : State} (h : s.MembersPresent) (active : t.plan.active = s.plan.active) :
    t.MembersPresent := by
  unfold State.MembersPresent State.activeZone State.activeSpeaker at *
  rwa [active]

namespace ClaimLaws

variable {s t : State}

/-- What moves leave of the laws of cells and claims. -/
theorem moved (h : ClaimLaws s) {copies claims : Prop} (m : Moved copies claims s t) (members : t.MembersPresent)
    (records : t.RecordsLawful) : ClaimLaws t := by
  obtain ⟨banks, lawful⟩ := Moves.claimsLawful m h.cells h.banks h.claims
  exact ⟨Moves.partitioned m h.cells, banks, lawful, members, records⟩

/-- Moves that leave the claims; zones may start, where present, and end only where they are in no record. -/
theorem quiet (h : ClaimLaws s) (m : Moved False False s t)
    (moving : ∀ y, (t.zone y).state ≠ .idle → (s.zone y).state ≠ .idle ∨ (s.activeZone y).present = true)
    (inPlay : ∀ y, (s.zone y).InPlay → (t.zone y).InPlay) : ClaimLaws t := by
  obtain ⟨stack, records, active⟩ := Moves.quiet m h.cells h.banks h.claims
  refine h.moved m (MembersPresent.of_active h.members active) ((recordsLawful_iff t).mpr ?_)
  refine ((recordsLawful_iff s).mp h.records).fewer active moving (fun sp empty => ?_) (fun sp => ?_)
    fun _ y _ playing => .inr (inPlay y (playing.resolve_left id))
  · exact (congrFun stack sp).trans empty
  · rw [t.recordZones_eq, records sp, ← s.recordZones_eq]

/-- Moves that leave the claims and every zone's state. -/
theorem same (h : ClaimLaws s) (m : Moved False False s t) (zones : ∀ y, (t.zone y).state = (s.zone y).state) :
    ClaimLaws t :=
  h.quiet m (fun y moving => .inl (zones y ▸ moving)) fun y playing => by
    unfold ZoneRun.InPlay
    rw [zones y]
    exact playing

theorem still (h : ClaimLaws s) (k : Still s t) : ClaimLaws t :=
  h.same (Moved.still k) fun y => congrArg (fun r => (tblGet r y).state) k.zones

theorem only (h : ClaimLaws s) (m : Moved False False s t) {l : List Part} (k : Only l s t)
    (zones : l.contains .zones = false := by decide) : ClaimLaws t :=
  h.same m fun y => by rw [k.zone_eq zones]

/-- A change of one zone that leaves its ring; where its state changes, the zone is present, or in play as before. -/
theorem modZone (h : ClaimLaws s) {z : ZoneNo} {f : ZoneRun → ZoneRun}
    (ring : (f (s.zone z)).ring = (s.zone z).ring)
    (moving : (f (s.zone z)).state ≠ .idle → (s.zone z).state ≠ .idle ∨ (s.activeZone z).present = true)
    (inPlay : (s.zone z).InPlay → (f (s.zone z)).InPlay) : ClaimLaws (s.modZone z f) := by
  refine h.quiet (Moved.modZone s z ring) (fun y => ?_) fun y => ?_ <;> rw [State.zone_modZone] <;> split
  · rename_i here
    subst here
    exact moving
  · exact .inl
  · rename_i here
    subst here
    exact inPlay
  · exact id

/-! ### A zone's end (R145, R146) -/

end ClaimLaws

theorem endClaim_stack (z : ZoneNo) (sp : SpeakerNo) (s : State) (o : SpeakerNo) :
    (endClaim z sp s).claimStack o =
      if sp = o then (s.claimStack sp).eraseP (s.namesZone z) else s.claimStack o := by
  have released (c : CellNo) : (releaseRecord sp c s).claimStack o =
      if sp = o then (s.claimStack sp).erase c else s.claimStack o := by
    have overlay : (releaseRecord sp c s).overlay = (s.setClaimStack sp ((s.claimStack sp).erase c)).overlay :=
      (Only.releaseCell c _).overlay_eq
    rw [State.claimStack, overlay]
    exact tblGet_tblSet _ _ _ _
  have refreshed (t : State) : (refresh sp t).claimStack o = t.claimStack o :=
    congrArg (fun v : Overlay => tblGet v.claimStacks o) (Only.refresh sp t).overlay_eq
  unfold endClaim
  split
  · rename_i none
    rw [List.eraseP_of_forall_not fun c hc => by simpa using List.find?_eq_none.mp none c hc]
    split
    · subst_vars; rfl
    · rfl
  · rename_i c found
    have erased : (s.claimStack sp).eraseP (s.namesZone z) = (s.claimStack sp).erase c := by
      obtain ⟨names, above, below, stack, others⟩ := List.find?_eq_some_iff_append.mp found
      have apart : c ∉ above := fun member => by simpa [names] using others c member
      rw [stack, List.eraseP_append_right _ (fun b hb => by simpa using others b hb), List.eraseP_cons_of_pos names,
        List.erase_append_right _ apart, List.erase_cons_head]
    rw [erased]
    split
    · rw [refreshed, released]
    · exact released c

theorem endClaim_cells (z : ZoneNo) (sp : SpeakerNo) (s : State) : (endClaim z sp s).store.cells = s.store.cells := by
  have released (c : CellNo) : (releaseRecord sp c s).store.cells = s.store.cells := by
    rw [releaseRecord, releaseCell, State.modStore_store, CellStore.rearm_eq]
    rfl
  unfold endClaim
  split
  · rfl
  · split
    · rw [(Only.refresh sp _).store_eq, released]
    · exact released _

/-- The first record that names a zone gone from a stack, no other names it. -/
theorem not_mem_eraseP {l : List CellNo} {claim : CellNo → Option ClaimCell} {z : ZoneNo} {names : CellNo → Bool}
    (names_iff : ∀ c, names c = true ↔ ∃ r, claim c = some r ∧ r.zone = z)
    (distinct : ((l.filterMap claim).map ClaimCell.zone).Nodup) :
    z ∉ ((l.eraseP names).filterMap claim).map ClaimCell.zone := by
  induction l with
  | nil => simp
  | cons c l ih =>
    by_cases here : names c = true
    · obtain ⟨r, held, rfl⟩ := (names_iff c).mp here
      rw [List.filterMap_cons_some held, List.map_cons, List.nodup_cons] at distinct
      rw [List.eraseP_cons_of_pos here]
      exact distinct.1
    · rw [List.eraseP_cons_of_neg here]
      cases held : claim c with
      | none =>
        rw [List.filterMap_cons_none held] at distinct ⊢
        exact ih distinct
      | some r =>
        rw [List.filterMap_cons_some held, List.map_cons] at distinct ⊢
        have other : r.zone ≠ z := fun e => here ((names_iff c).mpr ⟨r, held, e⟩)
        exact List.not_mem_cons_of_ne_of_not_mem (Ne.symm other) (ih (List.nodup_cons.mp distinct).2)

theorem State.namesZone_iff (s : State) (z : ZoneNo) (c : CellNo) :
    s.namesZone z c = true ↔ ∃ r, s.claimCell c = some r ∧ r.zone = z := by
  unfold State.namesZone
  split <;> rename_i held <;> simp [held]

theorem State.records_of_cells {s t : State} (cells : t.store.cells = s.store.cells) : t.claimCell = s.claimCell := by
  funext c
  unfold State.claimCell State.cell
  rw [cells]

/-- Each present speaker's record of the zone is gone; the other stacks stand. -/
theorem endedNotice_stack (z : ZoneNo) (s : State) (sp : SpeakerNo) :
    (endedNotice z s).claimStack sp =
      if (s.activeSpeaker sp).present then (s.claimStack sp).eraseP (s.namesZone z) else s.claimStack sp := by
  have other (a b : SpeakerNo) (u : State) (apart : a ≠ b) : (endClaim z a u).claimStack b = u.claimStack b := by
    rw [endClaim_stack, if_neg apart]
  unfold endedNotice
  split
  · rename_i present
    have member : sp ∈ s.presentSpeakers := List.mem_filter.mpr ⟨mem_allSpeakers sp, present⟩
    obtain ⟨u, cells, before, after⟩ := forEach_place State.claimStack (endClaim z)
      (fun u => u.store.cells = s.store.cells) (fun a u hu => (endClaim_cells z a u).trans hu)
      (fun a b u _ apart => other a b u apart) sp s.presentSpeakers s (nodup_allSpeakers.filter _) member rfl
    have names : u.namesZone z = s.namesZone z := by
      unfold State.namesZone
      rw [State.records_of_cells cells]
    rw [after, endClaim_stack, if_pos rfl, before, names]
  · rename_i absent
    have apart : ∀ l : List SpeakerNo, sp ∉ l → ∀ u : State, (u.forEach l (endClaim z)).claimStack sp =
        u.claimStack sp := by
      intro l
      induction l with
      | nil => exact fun _ _ => rfl
      | cons a l ih =>
        intro apart u
        obtain ⟨first, rest⟩ := not_or.mp (mt List.mem_cons.mpr apart)
        rw [State.forEach_cons, ih rest, other a sp u (Ne.symm first)]
    exact apart _ (fun member => absent (List.mem_filter.mp member).2) s

theorem endedNotice_cells (z : ZoneNo) (s : State) : (endedNotice z s).store.cells = s.store.cells :=
  State.forEach_unchanged (fun u => u.store.cells) _ _ (fun sp u => endClaim_cells z sp u) s

/-- After the ended notice of an overlay, no record names it. -/
theorem RecordsBut.endedNotice {z : ZoneNo} {s : State} (h : RecordsBut (· = z) s) :
    RecordsBut (fun _ => False) (endedNotice z s) := by
  have only : Only [.store, .overlay, .speakers, .air] s (Machine.endedNotice z s) := Only.endedNotice z s
  have claim := State.records_of_cells (endedNotice_cells z s)
  have gone (sp : SpeakerNo) : z ∉ (Machine.endedNotice z s).recordZones sp := by
    unfold State.recordZones
    rw [claim, endedNotice_stack]
    split
    · exact not_mem_eraseP (s.namesZone_iff z) (h.distinct sp)
    · rename_i absent
      rw [h.absent sp (by simpa using absent)]
      simp
  refine h.fewer (only.same .active (by decide)) (fun y hy => .inl (by rwa [only.zone_eq] at hy))
    (fun sp empty => ?_) (fun sp => ?_) fun sp y hy playing => .inr ?_
  · rw [endedNotice_stack, empty]
    split <;> rfl
  · unfold State.recordZones
    rw [claim, endedNotice_stack]
    refine List.Sublist.map _ (List.Sublist.filterMap _ ?_)
    split
    · exact List.eraseP_sublist
    · exact .refl _
  · rw [only.zone_eq]
    exact playing.resolve_left (ne_of_mem_of_not_mem hy (gone sp))

/-- A zone that reaches IDLE: its state, the report and the tap, then the ended notice of an overlay (R114). -/
theorem reachIdle_stages (z : ZoneNo) (s : State) :
    ∃ v, Only [.source, .tap] (s.inState z .idle) v
      ∧ Machine.reachIdle z s = if (s.activeZone z).kind = .overlay then Machine.endedNotice z v else v := by
  set u := s.inState z .idle with idled
  have only : Only [.source, .tap] u (endTap z (offerEvent .zoneEnded z.val
      [f2 (u.zone z).issueNumber.toNat, f6 u.block] u)) := (Only.offerEvent _ _ _ u).then (Only.endTap z _)
  refine ⟨_, only, ?_⟩
  rw [show (s.activeZone z).kind = ((endTap z (offerEvent .zoneEnded z.val
      [f2 (u.zone z).issueNumber.toNat, f6 u.block] u)).activeZone z).kind by
    rw [State.activeZone, State.activeZone, only.plan_eq]; rfl]
  rfl

/-- A zone at rest, its end not yet noticed: the records that name it are excused. -/
theorem RecordsBut.inState_idle {z : ZoneNo} {s v : State} (h : RecordsBut (fun _ => False) s)
    (only : Only [.source, .tap] (s.inState z .idle) v) (excused : ZoneNo → Prop)
    (named : ∀ sp, z ∈ s.recordZones sp → excused z) : RecordsBut excused v := by
  have zone (y : ZoneNo) : v.zone y = if z = y then { s.zone z with state := .idle } else s.zone y :=
    (only.zone_eq (z := y)).trans (tblGet_tblSet _ _ _ _)
  have claims (sp : SpeakerNo) : v.claimStack sp = s.claimStack sp := by
    rw [State.claimStack, only.overlay_eq]
    rfl
  have records (sp : SpeakerNo) : v.recordZones sp = s.recordZones sp := by
    have claim : v.claimCell = s.claimCell :=
      State.records_of_cells (by rw [only.store_eq]; rfl)
    rw [State.recordZones, claims, claim]
    rfl
  refine h.fewer (by rw [only.plan_eq]; rfl) (fun y hy => ?_) (fun sp empty => (claims sp).trans empty)
    (fun sp => by rw [records]) fun sp y hy playing => ?_
  · rw [zone] at hy
    split at hy
    · exact (hy rfl).elim
    · exact .inl hy
  · by_cases here : z = y
    · subst here
      exact .inl (named sp (records sp ▸ hy))
    · rw [zone, if_neg here]
      exact .inr (playing.resolve_left id)

namespace ClaimLaws

variable {s t : State}

theorem reachIdle (h : ClaimLaws s) (z : ZoneNo) : ClaimLaws (reachIdle z s) := by
  have lawful := (recordsLawful_iff s).mp h.records
  refine h.moved (Moved.reachIdle (copies := False) trivial z s)
    (MembersPresent.of_active h.members (by rw [(Only.reachIdle z s).plan_eq])) ?_
  rw [recordsLawful_iff]
  obtain ⟨v, only, stages⟩ := reachIdle_stages z s
  rw [stages]
  split
  · exact (lawful.inState_idle only (· = z) fun _ _ => rfl).endedNotice
  · rename_i program
    exact lawful.inState_idle only _ fun sp member => program (lawful.named sp z member).2.1

end ClaimLaws

/-! ### A zone enters PLAYING (R141, R142) -/

/-- What judging one member leaves: the claims as they were, or one more record on the member's own stack. -/
theorem judgeClaim_records {z : ZoneNo} {q : Nat} {role : Role} {sp : SpeakerNo} {s : State} (h : ClaimLaws s) :
    (∀ o, (judgeClaim z q role sp s).claimStack o = s.claimStack o
        ∧ (judgeClaim z q role sp s).recordZones o = s.recordZones o)
      ∨ ((judgeClaim z q role sp s).recordZones sp = z :: s.recordZones sp
        ∧ ∀ o, o ≠ sp → (judgeClaim z q role sp s).claimStack o = s.claimStack o
          ∧ (judgeClaim z q role sp s).recordZones o = s.recordZones o) := by
  have kept {t : State} (k : Still s t) (o : SpeakerNo) :
      t.claimStack o = s.claimStack o ∧ t.recordZones o = s.recordZones o := by
    have claims : t.claimStack o = s.claimStack o := congrArg (tblGet · o) k.claims
    exact ⟨claims, by rw [State.recordZones, claims, State.records_of_cells k.cells]; rfl⟩
  unfold judgeClaim
  split
  · exact .inl (kept ((Still.modClaimCounters _ _ _).trans (Still.offerEvent _ _ _ _)))
  · split
    · rename_i c t taken
      obtain ⟨rest, free, places⟩ := takeCell_places taken
      set r : ClaimCell := { zone := z, priority := q, role := role, claimedAt := t.block } with record
      set u := (t.setCell c (.claim r)).setClaimStack sp (c :: (t.setCell c (.claim r)).claimStack sp) with pushed
      have later : Still u (claimMade z q role sp c t) :=
        (Still.modClaimCounters u z _).trans
          ((Only.cut sp _).then (m := [.speakers, .air]) (Only.refresh sp _)).still
      have after := later.places
      have written : u.places = { s.places with
          free := rest, cells := tblSet s.places.cells c (.claim r)
          stack := Function.update s.places.stack sp (c :: s.places.stack sp) } := by
        have own : t.claimStack sp = s.claimStack sp := congrFun (congrArg Places.stack places) sp
        rw [pushed, State.places_setClaimStack, State.places_setCell, places]
        show _ = _
        simp only [State.places]
        rw [← own]
        rfl
      have claims (o : SpeakerNo) : (claimMade z q role sp c t).claimStack o =
          Function.update s.places.stack sp (c :: s.places.stack sp) o :=
        congrFun (congrArg Places.stack (after.trans written)) o
      have zones (o : SpeakerNo) : (claimMade z q role sp c t).recordZones o =
          ((Function.update s.places.stack sp (c :: s.places.stack sp) o).filterMap
            { s.places with cells := tblSet s.places.cells c (.claim r) : Places }.claim).map ClaimCell.zone := by
        rw [State.recordZones_eq, Places.records, after, written]
        rfl
      have others (o : SpeakerNo) := List.filterMap_congr (h.cells.claim_free free (.claim r) o)
      refine .inr ⟨?_, fun o other => ⟨?_, ?_⟩⟩
      · have new : { s.places with cells := tblSet s.places.cells c (.claim r) : Places }.claim c = some r := by
          simp [Places.claim]
        rw [zones, Function.update_self, List.filterMap_cons_some new, others, List.map_cons, ← Places.records,
          ← s.recordZones_eq]
      · rw [claims, Function.update_of_ne other]
        rfl
      · rw [zones, Function.update_of_ne other, others, ← Places.records, ← s.recordZones_eq]
    · exact .inl (kept ((Still.modClaimCounters _ _ _).trans (Still.offerEvent _ _ _ _)))

/-- A member judged by an overlay that plays, and that its stack does not name. -/
theorem ClaimLaws.judgeClaim {s : State} (h : ClaimLaws s) {z : ZoneNo} (overlay : (s.activeZone z).kind = .overlay)
    (playing : (s.zone z).state = .playing) {sp : SpeakerNo} (present : (s.activeSpeaker sp).present = true)
    (fresh : z ∉ s.recordZones sp) (role : Role) :
    ClaimLaws (judgeClaim z (s.activeZone z).priority role sp s) := by
  set t := Machine.judgeClaim z (s.activeZone z).priority role sp s with judged
  have only := Only.judgeClaim z (s.activeZone z).priority role sp s
  have plan : t.plan = s.plan := only.plan_eq
  have zone (y : ZoneNo) : t.zone y = s.zone y := only.zone_eq (z := y)
  have lawful := (recordsLawful_iff s).mp h.records
  refine h.moved (Moved.judgeClaim (copies := False) trivial overlay rfl role sp)
    (MembersPresent.of_active h.members (by rw [plan])) ((recordsLawful_iff t).mpr ?_)
  have activeZone (y : ZoneNo) : t.activeZone y = s.activeZone y := by rw [State.activeZone, plan]; rfl
  have activeSpeaker (o : SpeakerNo) : t.activeSpeaker o = s.activeSpeaker o := by
    rw [State.activeSpeaker, plan]; rfl
  have cases := judgeClaim_records (z := z) (q := (s.activeZone z).priority) (role := role) (sp := sp) h
  rw [← judged] at cases
  refine ⟨fun y hy => ?_, fun o gone => ?_, fun o => ?_, fun o y hy => ?_⟩
  · rw [zone] at hy
    rw [activeZone]
    exact lawful.moving y hy
  · rw [activeSpeaker] at gone
    have other : o ≠ sp := fun e => by rw [e, present] at gone; cases gone
    obtain kept | ⟨-, others⟩ := cases
    · rw [(kept o).1]; exact lawful.absent o gone
    · rw [(others o other).1]; exact lawful.absent o gone
  · obtain kept | ⟨made, others⟩ := cases
    · rw [(kept o).2]; exact lawful.distinct o
    · by_cases here : o = sp
      · rw [here, made]; exact List.nodup_cons.mpr ⟨fresh, lawful.distinct sp⟩
      · rw [(others o here).2]; exact lawful.distinct o
  · have old (member : y ∈ s.recordZones o) : (t.activeZone y).present = true ∧ (t.activeZone y).kind = .overlay
        ∧ (False ∨ (t.zone y).InPlay) := by
      rw [activeZone, zone]
      exact lawful.named o y member
    obtain kept | ⟨made, others⟩ := cases
    · exact old ((kept o).2 ▸ hy)
    · by_cases here : o = sp
      · rw [here, made] at hy
        rcases List.mem_cons.mp hy with rfl | member
        · rw [activeZone, zone]
          exact ⟨lawful.moving y (by rw [playing]; decide), overlay, .inr (.inl playing)⟩
        · exact old (here ▸ member)
      · exact old ((others o here).2 ▸ hy)

end Sys2Proof.Machine
end

section
/-! The claim laws across the works of a zone, a swap and RESTART, and so across every step (O11). -/

namespace Sys2Proof.Machine

open Sys2Proof

/-- The members that an overlay names, judged one after another (R141). -/
theorem ClaimLaws.judgeClaims {z : ZoneNo} {d : ZoneDesc} (role : Role) (l : List SpeakerNo) (once : l.Nodup)
    {s : State} (h : ClaimLaws s) (desc : s.activeZone z = d) (overlay : d.kind = .overlay)
    (playing : (s.zone z).state = .playing) (present : ∀ sp ∈ l, (s.activeSpeaker sp).present = true)
    (fresh : ∀ sp ∈ l, z ∉ s.recordZones sp) : ClaimLaws (s.forEach l (Machine.judgeClaim z d.priority role)) := by
  induction l generalizing s with
  | nil => exact h
  | cons sp l ih =>
    obtain ⟨apart, once⟩ := List.nodup_cons.mp once
    have here : sp ∈ sp :: l := List.mem_cons_self
    have judged := h.judgeClaim (by rw [desc]; exact overlay) playing (present sp here) (fresh sp here) role
    rw [desc] at judged
    have only := Only.judgeClaim z d.priority role sp s
    have plan : (Machine.judgeClaim z d.priority role sp s).plan = s.plan := only.plan_eq
    rw [State.forEach_cons]
    refine ih once judged ?_ ?_ (fun o ho => ?_) fun o ho => ?_
    · rw [State.activeZone, plan]
      exact desc
    · rw [only.zone_eq]
      exact playing
    · rw [State.activeSpeaker, plan]
      exact present o (List.mem_cons_of_mem _ ho)
    · have same : (Machine.judgeClaim z d.priority role sp s).recordZones o = s.recordZones o := by
        rcases judgeClaim_records (z := z) (q := d.priority) (role := role) (sp := sp) h with kept | ⟨-, others⟩
        · exact (kept o).2
        · exact (others o (ne_of_mem_of_not_mem ho apart)).2
      rw [same]
      exact fresh o (List.mem_cons_of_mem _ ho)

theorem membersOf_nodup (set : BitVec 24) : (membersOf set).Nodup := nodup_allSpeakers.filter _

/-- A PRIMING zone enters PLAYING: no record names it yet, and its members are present. -/
theorem ClaimLaws.enterPlaying {s : State} (h : ClaimLaws s) {z : ZoneNo} (priming : (s.zone z).state = .priming) :
    ClaimLaws (enterPlaying z s) := by
  unfold Machine.enterPlaying
  simp only []
  set u := s.modZone z fun r =>
    { r with state := .playing, runningLead := (s.activeZone z).lead, runningPrime := (s.activeZone z).primeDepth }
    with entered
  have laws : ClaimLaws u := by
    refine h.modZone rfl (fun _ => .inl (by rw [priming]; decide)) fun playing => ?_
    rcases playing with playing | draining <;> simp_all
  split
  · rename_i overlay
    refine ClaimLaws.still ?_ (Still.offerEvent _ _ _ _)
    have named := ((recordsLawful_iff s).mp h.records).named
    refine laws.judgeClaims _ _ (membersOf_nodup _) rfl overlay ?_ (fun sp member => ?_) fun sp _ member => ?_
    · rw [entered, State.zone_modZone, if_pos rfl]
    · refine laws.members z ?_ overlay sp (mem_membersOf.mp member)
      exact ((recordsLawful_iff s).mp h.records).moving z (by rw [priming]; decide)
    · obtain ⟨-, -, playing⟩ := named sp z member
      rcases playing.resolve_left id with playing | draining <;> simp_all
  · exact laws.still (Still.offerEvent _ _ _ _)

/-! ### The swap (R96, R99, R100) -/

/-- What validation holds of the zones in play and of the overlays' members (Table 38, rows 2 and 5). -/
theorem validateSwap_admits {s : State} (valid : validateSwap s = none) :
    (∀ z, ¬ s.Busy z) ∧ ∀ z sp, ¬ s.plan.staged.AbsentMember z sp := by
  unfold validateSwap at valid
  simp only [Option.orElse_eq_orElse, Option.orElse_eq_or, Option.or_eq_none_iff] at valid
  obtain ⟨-, busy, -, -, absent⟩ := valid
  refine ⟨fun z held => ?_, fun z sp held => ?_⟩
  · have passed := List.findSome?_eq_none_iff.mp busy z (mem_allZones z)
    rw [zoneBusy_some held] at passed
    cases passed
  · have passed := List.findSome?_eq_none_iff.mp absent z (mem_allZones z)
    obtain ⟨present, overlay, member, gone⟩ := held
    unfold absentMember at passed
    rw [if_pos ⟨present, overlay⟩] at passed
    split at passed
    · cases passed
    · rename_i found
      have here := List.find?_eq_none.mp found sp (mem_membersOf.mpr member)
      rw [gone] at here
      exact here rfl

/-- A swap writes no cell. -/
theorem takeSwap_cells {s : State} (valid : validateSwap s = none) : (takeSwap s).store.cells = s.store.cells := by
  have stages : takeSwap s = completeSwap s.swapOpened :=
    (takeSwap_completed valid).trans (completeSwap_eq s.swapOpened).symm
  have kept := completeSwap_closed (R := fun u v => v.store.cells = u.store.cells) (fun h k => k.trans h) Still.cells
    (fun _ => rfl) (fun old z u => by rw [(Only.zoneNotice old z u).store_eq])
    (fun sp u => by rw [removeClaims_eq]; rfl) (fun st u => by rw [emptyQueue_eq]; rfl) s.swapOpened
  exact (congrArg (fun u : State => u.store.cells) stages).trans kept

theorem takeSwap_active {s : State} (valid : validateSwap s = none) :
    (takeSwap s).plan.active = s.plan.staged := by
  rw [takeSwap_completed valid]
  exact (Only.noticeSwap _ _).same .active (by decide)

theorem takeSwap_zone {s : State} (valid : validateSwap s = none) (z : ZoneNo) :
    (takeSwap s).zone z =
      if (s.plan.active.zone z).present = true ∧ (s.plan.staged.zone z).present = true
          ∧ (s.plan.active.zone z).stream ≠ (s.plan.staged.zone z).stream ∧ (s.zone z).state ≠ .idle then
        { s.zone z with state := .priming, primingBegan := s.timeline.block, prevKind := none }
      else s.zone z := by
  rw [takeSwap_stages valid]
  exact swapped_zone s z

theorem takeSwap_claims {s : State} (valid : validateSwap s = none) (sp : SpeakerNo) :
    (takeSwap s).claimStack sp =
      if Removes s.plan.active s.plan.staged sp then [] else s.claimStack sp := by
  rw [takeSwap_stages valid]
  exact (swapped_noticed s sp).stack

theorem ClaimLaws.takeSwap {s : State} (h : ClaimLaws s) (valid : validateSwap s = none) :
    ClaimLaws (takeSwap s) := by
  obtain ⟨free, whole⟩ := validateSwap_admits valid
  have lawful := (recordsLawful_iff s).mp h.records
  have active := takeSwap_active valid
  have claim := State.records_of_cells (takeSwap_cells valid)
  have zone (z : ZoneNo) : (Machine.takeSwap s).activeZone z = s.plan.staged.zone z := by
    rw [State.activeZone, active]; rfl
  have speaker (sp : SpeakerNo) : (Machine.takeSwap s).activeSpeaker sp = s.plan.staged.speaker sp := by
    rw [State.activeSpeaker, active]; rfl
  -- A zone that is not IDLE stays present, of its kind, and, if an overlay, on its stream.
  have stays (z : ZoneNo) (moving : (s.zone z).state ≠ .idle) : (s.plan.staged.zone z).present = true
      ∧ (s.plan.staged.zone z).kind = (s.plan.active.zone z).kind
      ∧ ((s.plan.active.zone z).kind = .overlay →
        (s.plan.staged.zone z).stream = (s.plan.active.zone z).stream) := by
    have busy := free z
    have present : (s.plan.active.zone z).present = true := lawful.moving z moving
    unfold State.Busy at busy
    simp only [present, moving, not_and, not_or, ne_eq, not_not, true_implies, not_false_eq_true,
      Bool.not_eq_false] at busy
    exact busy
  have idle (z : ZoneNo) : ((Machine.takeSwap s).zone z).state ≠ .idle → (s.zone z).state ≠ .idle := by
    rw [takeSwap_zone valid]
    split
    · rename_i rebound
      exact fun _ => rebound.2.2.2
    · exact id
  have records (sp : SpeakerNo) : ((Machine.takeSwap s).recordZones sp).Sublist (s.recordZones sp) := by
    unfold State.recordZones
    rw [claim, takeSwap_claims valid]
    split
    · exact List.nil_sublist _
    · exact .refl _
  refine h.moved (Moved.swap (copies := False) trivial valid) (fun z present overlay sp member => ?_)
    ((recordsLawful_iff _).mpr ⟨fun z moving => ?_, fun sp gone => ?_,
      fun sp => (lawful.distinct sp).sublist (records sp), fun sp z member => ?_⟩)
  · rw [zone] at present overlay member
    rw [speaker]
    by_contra gone
    exact whole z sp ⟨present, overlay, member, by simpa using gone⟩
  · rw [zone]
    exact (stays z (idle z moving)).1
  · rw [speaker] at gone
    rw [takeSwap_claims valid]
    by_cases was : (s.plan.active.speaker sp).present = true
    · rw [if_pos ⟨was, gone⟩]
    · rw [if_neg fun removed => was removed.1]
      exact lawful.absent sp (Bool.eq_false_iff.mpr was)
  · obtain ⟨-, overlay, playing⟩ := lawful.named sp z ((records sp).subset member)
    have inPlay := playing.resolve_left id
    have moving : (s.zone z).state ≠ .idle := by
      rcases inPlay with state | state <;> rw [state] <;> decide
    obtain ⟨present, kind, stream⟩ := stays z moving
    rw [zone, takeSwap_zone valid, if_neg fun rebound => rebound.2.2.1 (stream overlay).symm]
    exact ⟨present, kind.trans overlay, playing⟩

/-! ### RESTART and reset -/

/-- With no zone moving and no record standing, the law is met. -/
theorem RecordsBut.of_rest {s : State} (idle : ∀ z, (s.zone z).state = .idle) (claims : ∀ sp, s.claimStack sp = []) :
    RecordsBut (fun _ => False) s := by
  have none (sp : SpeakerNo) : s.recordZones sp = [] := by rw [State.recordZones, claims]; rfl
  exact ⟨fun z moving => (moving (idle z)).elim, fun sp _ => claims sp, fun sp => by rw [none]; exact List.nodup_nil,
    fun sp z member => by rw [none] at member; cases member⟩

theorem ClaimLaws.restarted {s : State} (h : ClaimLaws s) : ClaimLaws (restartBlocks s) := by
  have rest := restartBlocks_restarted s
  refine h.moved ((Moved.outsideWork False).restarted s) (MembersPresent.of_active h.members rest.active)
    ((recordsLawful_iff _).mpr (.of_rest (fun z => ?_) rest.claims))
  rw [rest.zones]

theorem ClaimLaws.reset {s : State} (h : ClaimLaws s) (rstLow : Bool) (pending : List Instr) :
    ClaimLaws { State.reset with rstLow := rstLow, pending := pending } :=
  h.moved ((Moved.outsideWork False).reset s rstLow pending) reset_planValid.2.2.2 reset_recordsLawful

/-! ### Every step -/

theorem Only.appendFrame {s t : State} {c : CellNo} (taken : Machine.takeCell .intake s = some (c, t)) (st : StreamNo)
    (f : SourceFrame) (gap : Nat) (discontinuity : Bool) :
    Only [.store, .source, .tap, .intake, .entries] s (appendFrame st f gap discontinuity c t) := by
  have written : Only [.store, .source, .tap, .intake, .entries] s
      ((t.setCell c (.audio (audioCellOf st f discontinuity))).modStream st fun d => d.append c f gap) :=
    ((Only.takeCell taken).then (m := [.store, .source, .tap, .intake]) (Only.setCell _ _ _)).then
      (Only.modStream _ _ _)
  unfold Machine.appendFrame
  simp only []
  split
  · exact written.then (Only.observe _ _ _)
  · exact written

/-- The claim laws hold across an operation. -/
def KeepsClaims (s t : State) : Prop := ClaimLaws s → ClaimLaws t

theorem KeepsClaims.stops (z : ZoneNo) : Stops z KeepsClaims where
  trans h k laws := k (h laws)
  still k laws := laws.still k
  drains moving laws := laws.modZone rfl (fun _ => .inl moving) fun _ => .inr rfl
  idles _ _ laws := laws.reachIdle z
  trimmed keep s laws := laws.same (Moved.trimRing z keep s) fun y => by
    have written : (trimRing z keep s).zone y =
        (s.modZone z fun r => { r with ring := (s.zone z).ring.filter keep }).zone y :=
      (Only.releaseCells _ _).zone_eq (z := y)
    rw [written, State.zone_modZone]
    split
    · subst_vars; rfl
    · rfl

theorem KeepsClaims.works (z : ZoneNo) : Works z KeepsClaims where
  toStops := KeepsClaims.stops z
  levelled _ _ _ _ _ laws := laws.modZone rfl .inl id
  gained _ laws := laws.modZone rfl .inl id
  plays priming laws := laws.enterPlaying priming
  issues gainStart s laws := laws.same (Moved.issue z gainStart s False.elim) fun y => by
    rw [State.zone, (issue_issued z gainStart s).zones, tblGet_tblSet]
    split
    · subst_vars; rfl
    · rfl

theorem KeepsClaims.stepClosed : StepClosed KeepsClaims where
  trans h k laws := k (h laws)
  still k laws := laws.still k
  emptied st s laws := laws.only (Moved.emptyQueue st s) (Only.emptyQueue st s)
  overflowed st s laws := laws.only (Moved.overflow st s) (Only.overflow st s)
  appended taken st f gap discontinuity laws := laws.only
    (Moved.appendFrame taken st f gap discontinuity) (Only.appendFrame taken st f gap discontinuity)
  staged legal laws := laws.moved (copies := False) ((Moved.outsideWork False).staged legal)
    (MembersPresent.of_active laws.members rfl) laws.records
  swapped valid laws := laws.takeSwap valid
  started := fun {s z} taken laws => by
    obtain ⟨present, idle⟩ := startRefusal_none taken
    refine (laws.still (Still.modCueRun s z _)).modZone rfl (fun _ => .inr present) fun playing => ?_
    rcases playing with state | state <;> exact absurd (idle.symm.trans state) (by decide)
  levelled _ _ _ _ _ _ laws := laws.modZone rfl .inl id
  stopped z s := (KeepsClaims.stops z).softStop s
  halted z s := (KeepsClaims.stops z).hardStop s
  opened _ laws := laws.same (Moved.same rfl) fun _ => rfl
  restarted _ laws := laws.restarted
  reset _ rstLow pending laws := laws.reset rstLow pending
  worked _ laws := (KeepsClaims.works _).zoneWork _ (laws.same (t := State.workTaken _ _) (Moved.same rfl) fun _ => rfl)

/-- Priorities that fall strictly between 3 and 1 are at most 3. -/
theorem length_le_three {l : List Nat} (falling : l.Pairwise (· > ·)) (range : ∀ q ∈ l, 1 ≤ q ∧ q ≤ 3) :
    l.length ≤ 3 := by
  have within : l ⊆ [3, 2, 1] := fun q hq => by
    obtain ⟨least, most⟩ := range q hq
    simp only [List.mem_cons, List.not_mem_nil, or_false]
    omega
  exact (List.subperm_of_subset (falling.imp ne_of_gt) within).length_le

end Sys2Proof.Machine

open Sys2Proof Sys2Proof.Machine

/-- Settles O11: moves keep the order of the stacks, and every operation the law of the records. -/
theorem stepKeepsClaimStacks : Obligations.StepKeepsClaimStacks := by
  intro s t cells typed banks ordered next
  have claims := (claimsLawful_iff s).mp ⟨typed, ordered⟩
  obtain ⟨typed', ordered'⟩ := (claimsLawful_iff t).mpr
    (Moves.claimsLawful (Moved.stepClosed.step next) cells banks claims).2
  refine ⟨⟨typed', ordered', fun sp => ?_⟩, fun plan records => ?_⟩
  · have whole : (t.stackPriorities sp).length = (t.claimStack sp).length := by
      rw [State.stackPriorities, List.length_map, List.filterMap_length_eq_length]
      exact fun c hc => typed' c (List.mem_flatMap.mpr ⟨sp, mem_allSpeakers sp, hc⟩)
    rw [← whole]
    exact length_le_three (ordered' sp).1 (ordered' sp).2
  · exact (KeepsClaims.stepClosed.step next ⟨cells, banks, claims, plan.2.2.2, records⟩).records
end

section
/-! The laws of one zone's run: what its settings and its ring hold, and what releases, stops, cues and issues leave
of it (R112 to R120). -/

namespace Sys2Proof.Machine

open Sys2Proof

/-! ### The laws -/

/-- Gains and leads within their ranges, the ring empty or not by the state, cells by the kind of the entry. -/
structure ZoneRun.Sound (r : ZoneRun) : Prop where
  gains : r.gain ≤ 32767 ∧ r.target ≤ 32767 ∧ r.gainStep ≤ 4095
  leads : 4 ≤ r.runningLead ∧ r.runningLead ≤ 48 ∧ 1 ≤ r.runningPrime ∧ r.runningPrime ≤ 96
  idle : r.state = .idle → r.ring = []
  draining : r.state = .draining → r.ring ≠ []
  typed : ∀ e ∈ r.ring, e.cell = none ↔ e.kind = .silent

/-- The law of R116 at block `m`, the zone's work of the boundary being due as `due` says, 0 or 1; but for the length
of the ring, which follows. -/
structure ZoneRun.RingLaw (r : ZoneRun) (m due : Nat) : Prop where
  order : r.ring.Pairwise fun a b => a.block < b.block ∧ r.issuesSince b < r.issuesSince a
  window : ∀ e ∈ r.ring, m < e.block + due ∧ e.block + due ≤ m + r.runningLead
    ∧ r.issuesSince e + e.block + due ≤ m + 48
  priming : r.state = .priming → r.prevKind = none
  playing : r.state = .playing → ∀ k, r.prevKind = some k →
    ∃ e, r.ring.getLast? = some e ∧ e.kind = k ∧ e.block + due = m + r.runningLead

/-- Blocks that rise strictly within the running lead are at most as many. -/
theorem length_le_of_window {l : List IssueEntry} {m due lead : Nat} (order : l.Pairwise fun a b => a.block < b.block)
    (window : ∀ e ∈ l, m < e.block + due ∧ e.block + due ≤ m + lead) : l.length ≤ lead := by
  have distinct : (l.map fun e => e.block + due).Nodup :=
    List.pairwise_map.mpr (order.imp fun h => by omega)
  have within : l.map (fun e => e.block + due) ⊆ List.range' (m + 1) lead := fun n hn => by
    obtain ⟨e, he, rfl⟩ := List.mem_map.mp hn
    obtain ⟨above, below⟩ := window e he
    rw [List.mem_range'_1]
    omega
  simpa using (List.subperm_of_subset distinct within).length_le

theorem ZoneRun.RingLaw.length {r : ZoneRun} {m due : Nat} (h : r.RingLaw m due) : r.ring.length ≤ r.runningLead :=
  length_le_of_window (h.order.imp And.left) fun e he =>
    ⟨(h.window e he).1, (h.window e he).2.1⟩

theorem soundZones_iff (s : State) :
    s.GainsBounded ∧ s.LeadsBounded ∧ s.RingsMatchStates ∧ s.EntriesTyped ↔ ∀ z, (s.zone z).Sound := by
  constructor
  · rintro ⟨gains, leads, rings, typed⟩ z
    exact ⟨gains z, leads z, (rings z).1, (rings z).2, typed z⟩
  · intro h
    exact ⟨fun z => (h z).gains, fun z => (h z).leads, fun z => ⟨(h z).idle, (h z).draining⟩, fun z => (h z).typed⟩

theorem ringsLawful_iff (s : State) : s.RingsLawful ↔ ∀ z, (s.zone z).RingLaw s.block (s.workDue z) := by
  constructor
  · intro h z
    obtain ⟨-, order, window, priming, playing⟩ := h z
    exact ⟨order, window, priming, playing⟩
  · intro h z
    exact ⟨(h z).length, (h z).order, (h z).window, (h z).priming, (h z).playing⟩

/-- The law with the work due, once the entries due at the current block are released. -/
structure ZoneRun.Left (r : ZoneRun) (m : Nat) : Prop where
  law : r.RingLaw m 1
  ahead : ∀ e ∈ r.ring, m < e.block

/-- A zone that does not play has done its work with the release. -/
theorem ZoneRun.Left.done {r : ZoneRun} {m : Nat} (h : r.Left m) (still : r.state ≠ .playing) : r.RingLaw m 0 := by
  refine ⟨h.law.order, fun e he => ?_, h.law.priming, fun playing => (still playing).elim⟩
  have ahead := h.ahead e he
  obtain ⟨-, within, since⟩ := h.law.window e he
  omega

/-! ### Releases -/

/-- The entries due released (R111 step 1). -/
def ZoneRun.afterRelease (r : ZoneRun) (m : Nat) : ZoneRun :=
  { r with ring := r.ring.filter fun e => decide (m < e.block) }

theorem ZoneRun.RingLaw.released {r : ZoneRun} {m : Nat} (h : r.RingLaw m 1) (leads : 4 ≤ r.runningLead) :
    (r.afterRelease m).Left m := by
  have kept {e : IssueEntry} (he : e ∈ (r.afterRelease m).ring) : e ∈ r.ring ∧ m < e.block := by
    simpa using List.mem_filter.mp he
  refine ⟨⟨h.order.sublist List.filter_sublist, fun e he => h.window e (kept he).1, h.priming,
    fun playing k prev => ?_⟩, fun e he => (kept he).2⟩
  obtain ⟨e, last, kind, block⟩ := h.playing playing k prev
  obtain ⟨before, ring⟩ := List.getLast?_eq_some_iff.mp last
  refine ⟨e, ?_, kind, block⟩
  have ahead : m < e.block := by
    have : (r.afterRelease m).runningLead = r.runningLead := rfl
    omega
  simp [ZoneRun.afterRelease, ring, List.filter_append, ahead]

/-! ### Stops and cues -/

/-- The run after a stop, a cue, or nothing: its ring kept with its state, or cut down with the state to match. -/
structure ZoneRun.Calm (r r' : ZoneRun) : Prop where
  gains : r.gain ≤ 32767 ∧ r.target ≤ 32767 ∧ r.gainStep ≤ 4095 →
    r'.gain ≤ 32767 ∧ r'.target ≤ 32767 ∧ r'.gainStep ≤ 4095
  leads : r'.runningLead = r.runningLead ∧ r'.runningPrime = r.runningPrime
  number : r'.issueNumber = r.issueNumber
  ring : r'.ring.Sublist r.ring
  state : (r'.state = r.state ∧ r'.prevKind = r.prevKind ∧ r'.ring = r.ring) ∨ (r'.state = .idle ∧ r'.ring = [])
    ∨ r'.state = .draining ∧ r'.ring ≠ []

theorem ZoneRun.Calm.refl (r : ZoneRun) : r.Calm r := ⟨id, ⟨rfl, rfl⟩, rfl, .refl _, .inl ⟨rfl, rfl, rfl⟩⟩

theorem ZoneRun.Calm.trans {r r' r'' : ZoneRun} (h : r.Calm r') (k : r'.Calm r'') : r.Calm r'' := by
  refine ⟨k.gains ∘ h.gains, ⟨k.leads.1.trans h.leads.1, k.leads.2.trans h.leads.2⟩, k.number.trans h.number,
    k.ring.trans h.ring, ?_⟩
  rcases k.state with ⟨state, prev, ring⟩ | idle | draining
  · rw [state, prev, ring]
    exact h.state
  · exact .inr (.inl idle)
  · exact .inr (.inr draining)

/-- A run that starts to prime, anew or for another stream (R108, R115). -/
structure ZoneRun.Primes (r r' : ZoneRun) : Prop where
  gains : r.gain ≤ 32767 ∧ r.target ≤ 32767 ∧ r.gainStep ≤ 4095 →
    r'.gain ≤ 32767 ∧ r'.target ≤ 32767 ∧ r'.gainStep ≤ 4095
  leads : r'.runningLead = r.runningLead ∧ r'.runningPrime = r.runningPrime
  number : r'.issueNumber = r.issueNumber
  ring : r'.ring = r.ring
  state : r'.state = .priming
  prev : r'.prevKind = none

theorem ZoneRun.issuesSince_of_number {r r' : ZoneRun} (number : r'.issueNumber = r.issueNumber) (e : IssueEntry) :
    r'.issuesSince e = r.issuesSince e := by
  unfold ZoneRun.issuesSince
  rw [number]

/-- A ring that lost entries, the issue number and the lead standing. -/
theorem ZoneRun.RingLaw.fewer {r r' : ZoneRun} {m due : Nat} (h : r.RingLaw m due)
    (lead : r'.runningLead = r.runningLead) (number : r'.issueNumber = r.issueNumber)
    (ring : r'.ring.Sublist r.ring) (priming : r'.state = .priming → r'.prevKind = none)
    (playing : r'.state = .playing → ∀ k, r'.prevKind = some k →
      ∃ e, r'.ring.getLast? = some e ∧ e.kind = k ∧ e.block + due = m + r'.runningLead) : r'.RingLaw m due := by
  refine ⟨?_, fun e he => ?_, priming, playing⟩
  · simp only [ZoneRun.issuesSince_of_number number]
    exact h.order.sublist ring
  · rw [lead, ZoneRun.issuesSince_of_number number]
    exact h.window e (ring.subset he)

theorem ZoneRun.Calm.ringLaw {r r' : ZoneRun} (k : r.Calm r') {m due : Nat} (h : r.RingLaw m due) :
    r'.RingLaw m due := by
  obtain ⟨-, ⟨lead, -⟩, number, ring, state⟩ := k
  refine h.fewer lead number ring (fun priming => ?_) fun playing => ?_
  · rcases state with ⟨same, prev, -⟩ | ⟨idle, -⟩ | ⟨draining, -⟩
    · rw [prev]; exact h.priming (same ▸ priming)
    · rw [idle] at priming; cases priming
    · rw [draining] at priming; cases priming
  · rcases state with ⟨same, prev, kept⟩ | ⟨idle, -⟩ | ⟨draining, -⟩
    · rw [prev, kept, lead]; exact h.playing (same ▸ playing)
    · rw [idle] at playing; cases playing
    · rw [draining] at playing; cases playing

theorem ZoneRun.Calm.not_playing {r r' : ZoneRun} (k : r.Calm r') (h : r.state ≠ .playing) : r'.state ≠ .playing := by
  rcases k.state with ⟨same, -⟩ | ⟨idle, -⟩ | ⟨draining, -⟩
  · rwa [same]
  · rw [idle]; decide
  · rw [draining]; decide

theorem ZoneRun.Calm.left {r r' : ZoneRun} (k : r.Calm r') {m : Nat} (h : r.Left m) : r'.Left m :=
  ⟨k.ringLaw h.law, fun e he => h.ahead e (k.ring.subset he)⟩

theorem ZoneRun.Calm.sound {r r' : ZoneRun} (k : r.Calm r') (h : r.Sound) : r'.Sound := by
  obtain ⟨gains, ⟨lead, prime⟩, -, ring, state⟩ := k
  refine ⟨gains h.gains, by rw [lead, prime]; exact h.leads, fun idle => ?_, fun draining => ?_,
    fun e he => h.typed e (ring.subset he)⟩
  · rcases state with ⟨same, -, kept⟩ | ⟨-, empty⟩ | ⟨draining, -⟩
    · rw [kept]; exact h.idle (same ▸ idle)
    · exact empty
    · rw [draining] at idle; cases idle
  · rcases state with ⟨same, -, kept⟩ | ⟨idle, -⟩ | ⟨-, some⟩
    · rw [kept]; exact h.draining (same ▸ draining)
    · rw [idle] at draining; cases draining
    · exact some

theorem ZoneRun.Primes.ringLaw {r r' : ZoneRun} (k : r.Primes r') {m due : Nat} (h : r.RingLaw m due) :
    r'.RingLaw m due :=
  h.fewer k.leads.1 k.number (by rw [k.ring]) (fun _ => k.prev) fun playing => by
    rw [k.state] at playing
    cases playing

theorem ZoneRun.Primes.sound {r r' : ZoneRun} (k : r.Primes r') (h : r.Sound) : r'.Sound := by
  refine ⟨k.gains h.gains, by rw [k.leads.1, k.leads.2]; exact h.leads, fun idle => ?_, fun draining => ?_, ?_⟩
  · rw [k.state] at idle; cases idle
  · rw [k.state] at draining; cases draining
  · rw [k.ring]; exact h.typed

/-! ### A zone enters PLAYING (R111) -/

/-- The run of a zone that enters PLAYING with the lead and the prime depth of its descriptor. -/
def ZoneRun.entered (r : ZoneRun) (d : ZoneDesc) : ZoneRun :=
  { r with state := .playing, runningLead := d.lead, runningPrime := d.primeDepth }

theorem ZoneRun.Sound.entered {r : ZoneRun} (h : r.Sound) {d : ZoneDesc} (legal : d.Legal) : (r.entered d).Sound := by
  obtain ⟨-, least, most, short, long, -⟩ := legal
  exact ⟨h.gains, ⟨short, long, least, most⟩, fun idle => (nomatch idle), fun draining => (nomatch draining), h.typed⟩

/-- Where the newest entry is within the new lead, all are. -/
theorem ZoneRun.Left.entered {r : ZoneRun} {m : Nat} (h : r.Left m) (priming : r.state = .priming) {d : ZoneDesc}
    (clear : ∀ e, r.ring.getLast? = some e → e.block < m + d.lead) : (r.entered d).Left m := by
  refine ⟨⟨h.law.order, fun e he => ?_, fun state => (nomatch state), fun _ k prev => ?_⟩, h.ahead⟩
  · obtain ⟨above, -, since⟩ := h.law.window e he
    refine ⟨above, ?_, since⟩
    show e.block + 1 ≤ m + d.lead
    have member : e ∈ r.ring := he
    cases last : r.ring.getLast? with
    | none => rw [List.getLast?_eq_none_iff.mp last] at member; cases member
    | some newest =>
      have within := clear newest last
      obtain ⟨before, ring⟩ := List.getLast?_eq_some_iff.mp last
      have order := h.law.order
      rw [ring] at order member
      rcases List.mem_append.mp member with earlier | same
      · have := ((List.pairwise_append.mp order).2.2 e earlier newest (List.mem_singleton.mpr rfl)).1
        omega
      · rw [List.mem_singleton.mp same]
        omega
  · have none := h.law.priming priming
    rw [show (r.entered d).prevKind = r.prevKind from rfl, none] at prev
    cases prev

/-! ### An issue (R112, R117 to R120) -/

theorem nextGain_le {gain target gainStep : Nat} (hg : gain ≤ 32767) (ht : target ≤ 32767) :
    nextGain gain target gainStep ≤ 32767 := by
  unfold nextGain
  split
  · exact ht
  · split
    · omega
    · split <;> omega

theorem ZoneRun.Sound.gained {r : ZoneRun} (h : r.Sound) :
    ({ r with gain := nextGain r.gain r.target r.gainStep } : ZoneRun).Sound :=
  ⟨⟨nextGain_le h.gains.1 h.gains.2.1, h.gains.2⟩, h.leads, h.idle, h.draining, h.typed⟩

theorem ZoneRun.Left.gained {r : ZoneRun} {m : Nat} (h : r.Left m) :
    ({ r with gain := nextGain r.gain r.target r.gainStep } : ZoneRun).Left m :=
  ⟨⟨h.law.order, h.law.window, h.law.priming, h.law.playing⟩, h.ahead⟩

theorem ZoneRun.Sound.addEntry {r : ZoneRun} (h : r.Sound) (playing : r.state = .playing) {e : IssueEntry}
    (typed : e.cell = none ↔ e.kind = .silent) : (r.addEntry e).Sound := by
  refine ⟨h.gains, h.leads, fun idle => ?_, fun draining => ?_, fun x hx => ?_⟩
  · rw [show (r.addEntry e).state = r.state from rfl, playing] at idle; cases idle
  · rw [show (r.addEntry e).state = r.state from rfl, playing] at draining; cases draining
  · rcases List.mem_append.mp hx with old | new
    · exact h.typed x old
    · rw [List.mem_singleton.mp new]
      exact typed

/-- One issue on, an entry has one issue more behind it. -/
theorem ZoneRun.issuesSince_addEntry {r : ZoneRun} {e x : IssueEntry} (number : e.number = r.issueNumber + 1)
    (few : r.issuesSince x < 65535) : (r.addEntry e).issuesSince x = r.issuesSince x + 1 := by
  unfold ZoneRun.issuesSince ZoneRun.addEntry at *
  simp only [number]
  bv_omega

/-- The entry issued is the newest; the zone's work is done with it. -/
theorem ZoneRun.Left.addEntry {r : ZoneRun} {m : Nat} (h : r.Left m)
    (leads : 4 ≤ r.runningLead ∧ r.runningLead ≤ 48) (playing : r.state = .playing) {e : IssueEntry}
    (number : e.number = r.issueNumber + 1) (block : e.block = m + r.runningLead) : (r.addEntry e).RingLaw m 0 := by
  have since {x : IssueEntry} (hx : x ∈ r.ring) : (r.addEntry e).issuesSince x = r.issuesSince x + 1 := by
    obtain ⟨-, -, few⟩ := h.law.window x hx
    have ahead := h.ahead x hx
    exact ZoneRun.issuesSince_addEntry number (by omega)
  have now : (r.addEntry e).issuesSince e = 0 := by simp [ZoneRun.issuesSince, ZoneRun.addEntry]
  refine ⟨?_, fun x hx => ?_, fun priming => ?_, fun _ k prev => ⟨e, ?_, ?_, block⟩⟩
  · refine List.pairwise_append.mpr ⟨?_, List.pairwise_singleton _ _, fun a ha b hb => ?_⟩
    · refine h.law.order.imp_of_mem fun {a b} ha hb both => ⟨both.1, ?_⟩
      rw [since ha, since hb]
      omega
    · rw [List.mem_singleton.mp hb, since ha, now, block]
      obtain ⟨-, within, -⟩ := h.law.window a ha
      omega
  · show m < x.block + 0 ∧ x.block + 0 ≤ m + r.runningLead ∧ _
    rcases List.mem_append.mp hx with old | new
    · obtain ⟨-, within, few⟩ := h.law.window x old
      have ahead := h.ahead x old
      rw [since old]
      omega
    · rw [List.mem_singleton.mp new, now, block]
      omega
  · rw [show (r.addEntry e).state = r.state from rfl, playing] at priming
    cases priming
  · simp [ZoneRun.addEntry]
  · exact Option.some.inj prev

/-- END leaves the zone DRAINING with the entry it issued. -/
theorem ZoneRun.calm_drains {r : ZoneRun} (some : r.ring ≠ []) : r.Calm { r with state := .draining } :=
  ⟨id, ⟨rfl, rfl⟩, rfl, .refl _, .inr (.inr ⟨rfl, some⟩)⟩

end Sys2Proof.Machine
end

section
/-! What the STOPs, the cues and the work of a zone leave of its run, and of the AUDIO cells (R20, R111 to R116). -/

namespace Sys2Proof.Machine

open Sys2Proof

/-! ### The zone after each operation -/

theorem reachIdle_zone (z : ZoneNo) (s : State) (y : ZoneNo) :
    (reachIdle z s).zone y = if z = y then { s.zone z with state := .idle } else s.zone y := by
  rw [reachIdle_eq, (ended_only s z _).zone_eq]
  exact tblGet_tblSet _ _ _ _

theorem trimRing_zone (z : ZoneNo) (keep : IssueEntry → Bool) (s : State) (y : ZoneNo) :
    (trimRing z keep s).zone y =
      if z = y then { s.zone z with ring := (s.zone z).ring.filter keep } else s.zone y := by
  have written : (trimRing z keep s).zone y =
      (s.modZone z fun r => { r with ring := (s.zone z).ring.filter keep }).zone y :=
    (Only.releaseCells _ _).zone_eq (z := y)
  rw [written, State.zone_modZone]

theorem enterPlaying_zone (z : ZoneNo) (s : State) (y : ZoneNo) :
    (enterPlaying z s).zone y = if z = y then (s.zone z).entered (s.activeZone z) else s.zone y := by
  have written (u : State) (only : Only [.store, .overlay, .speakers, .air, .source, .tap] (s.modZone z fun r =>
      { r with state := .playing, runningLead := (s.activeZone z).lead, runningPrime := (s.activeZone z).primeDepth })
      u) : u.zone y = if z = y then (s.zone z).entered (s.activeZone z) else s.zone y := by
    rw [only.zone_eq, State.zone_modZone]
    rfl
  unfold enterPlaying
  simp only []
  split
  · exact written _ ((Only.entryNotice z _).then (Only.offerEvent _ _ _ _))
  · exact written _ (Only.offerEvent _ _ _ _).widen

theorem issue_zone (z : ZoneNo) (gainStart : Nat) (s : State) (y : ZoneNo) :
    (issue z gainStart s).2.zone y =
      if z = y then (s.zone z).addEntry (issue z gainStart s).1 else s.zone y := by
  rw [State.zone, (issue_issued z gainStart s).zones]
  exact tblGet_tblSet _ _ _ _

/-- The other zones stand. -/
def Elsewhere (z : ZoneNo) (s t : State) : Prop := ∀ y, y ≠ z → t.zone y = s.zone y

theorem Elsewhere.stops (z : ZoneNo) : Stops z (Elsewhere z) where
  trans h k y other := (k y other).trans (h y other)
  still k y _ := congrArg (tblGet · y) k.zones
  drains _ _ other := (State.zone_modZone _ _ _ _).trans (if_neg (Ne.symm other))
  idles _ _ _ other := (reachIdle_zone _ _ _).trans (if_neg (Ne.symm other))
  trimmed _ _ _ other := (trimRing_zone _ _ _ _).trans (if_neg (Ne.symm other))

/-- A zone's work leaves the other zones. -/
theorem Elsewhere.works (z : ZoneNo) : Works z (Elsewhere z) where
  toStops := Elsewhere.stops z
  levelled _ _ _ _ _ _ other := (State.zone_modZone _ _ _ _).trans (if_neg (Ne.symm other))
  gained _ _ other := (State.zone_modZone _ _ _ _).trans (if_neg (Ne.symm other))
  plays _ _ other := (enterPlaying_zone _ _ _).trans (if_neg (Ne.symm other))
  issues _ _ _ other := (issue_zone _ _ _ _).trans (if_neg (Ne.symm other))

/-! ### Stops and cues -/

/-- A zone that drains with what is left of its ring, or is at its end. -/
theorem settleDraining_calm {z : ZoneNo} {u : State} {r : ZoneRun} {l : List IssueEntry}
    (zone : u.zone z = { r with state := .draining, ring := l }) (cut : l.Sublist r.ring) :
    r.Calm ((settleDraining z u).zone z) := by
  unfold settleDraining
  split
  · rename_i empty
    rw [reachIdle_zone, if_pos rfl]
    refine ⟨?_, ?_, ?_, ?_, .inr (.inl ⟨rfl, empty.2⟩)⟩ <;> rw [zone]
    · exact id
    · exact ⟨rfl, rfl⟩
    · exact cut
  · rename_i held
    rw [zone] at held ⊢
    exact ⟨id, ⟨rfl, rfl⟩, rfl, cut, .inr (.inr ⟨rfl, fun empty => held ⟨rfl, empty⟩⟩)⟩

theorem softStop_calm (z : ZoneNo) (s : State) : (s.zone z).Calm ((softStop z s).zone z) := by
  have entered : (enterDraining z s).zone z = { s.zone z with state := .draining, ring := (s.zone z).ring } :=
    (State.zone_modZone _ _ _ _).trans (if_pos rfl)
  unfold softStop
  split
  · exact settleDraining_calm entered (.refl _)
  · exact settleDraining_calm entered (.refl _)
  · exact .refl _
  · exact .refl _

theorem hardStop_calm (z : ZoneNo) (s : State) : (s.zone z).Calm ((hardStop z s).zone z) := by
  unfold hardStop
  split
  · exact .refl _
  · refine settleDraining_calm (l := (s.zone z).ring.filter fun e =>
      decide (e.block < s.block + s.store.refillMargin)) ?_ List.filter_sublist
    rw [(Only.forEach _ (fun sp t => Only.cut sp t) _ _).zone_eq, trimRing_zone, if_pos rfl]
    have entered : (enterDraining z s).zone z = { s.zone z with state := .draining } :=
      (State.zone_modZone _ _ _ _).trans (if_pos rfl)
    rw [entered]
    rfl

/-- What a cue run leaves of its zone (R155 to R163). -/
theorem boundaryNotice_calm (z : ZoneNo) (s : State) : (s.zone z).Calm ((boundaryNotice z s).zone z) := by
  have cues : Cues z fun s t => (s.zone z).Calm (t.zone z) :=
    { trans := .trans
      still := fun {s t} k => by
        rw [show t.zone z = s.zone z from congrArg (tblGet · z) k.zones]
        exact .refl _
      levelled := fun s target gainStep ht hg => by
        rw [State.zone_modZone, if_pos rfl]
        exact ⟨fun gains => ⟨gains.1, ht, hg⟩, ⟨rfl, rfl⟩, rfl, .refl _, .inl ⟨rfl, rfl, rfl⟩⟩
      stopped := softStop_calm z }
  exact cues.boundaryNotice s

/-! ### The work of a zone -/

/-- A zone within its work, the entries due at the current block released. -/
structure InWork (ring audio : Prop) (z : ZoneNo) (s : State) : Prop where
  banks : s.BanksLegal
  sound : (s.zone z).Sound
  left : ring → (s.zone z).Left s.block
  cells : audio → s.places.Partitioned ∧ s.places.AudioLawful

/-- A zone whose work is done. -/
structure WorkDone (ring audio : Prop) (z : ZoneNo) (s : State) : Prop where
  sound : (s.zone z).Sound
  law : ring → (s.zone z).RingLaw s.block 0
  cells : audio → s.places.Partitioned ∧ s.places.AudioLawful

theorem Moved.audio {claims : Prop} {s t : State} (m : Moved True claims s t)
    (h : s.places.Partitioned ∧ s.places.AudioLawful) : t.places.Partitioned ∧ t.places.AudioLawful :=
  ⟨Moves.partitioned m h.1, Moves.audioLawful m h.1 h.2⟩

section
variable {ring audio : Prop} {z : ZoneNo} {s t : State}

theorem InWork.done (h : InWork ring audio z s) (still : (s.zone z).state ≠ .playing) : WorkDone ring audio z s :=
  ⟨h.sound, fun r => (h.left r).done still, h.cells⟩

theorem InWork.calm (h : InWork ring audio z s) (m : Moved True True s t) (plan : t.plan = s.plan)
    (block : t.block = s.block) (calm : (s.zone z).Calm (t.zone z)) : InWork ring audio z t := by
  refine ⟨?_, calm.sound h.sound, fun r => ?_, fun a => m.audio (h.cells a)⟩
  · rw [State.BanksLegal, plan]
    exact h.banks
  · rw [block]
    exact calm.left (h.left r)

theorem InWork.boundaryNotice (h : InWork ring audio z s) : InWork ring audio z (boundaryNotice z s) :=
  h.calm ((Moved.cues True z).boundaryNotice s) (Only.boundaryNotice z s).plan_eq (Only.boundaryNotice z s).block_eq
    (boundaryNotice_calm z s)

/-- A concealment copy is of an AUDIO cell: the newest entry is the NORMAL one issued before it. -/
theorem InWork.copyOfNewest (h : InWork ring audio z s) (r : ring) (a : audio) (playing : (s.zone z).state = .playing)
    (normal : (s.zone z).prevKind = some .normal) : ∃ x, s.copyOfNewest z = .audio x := by
  obtain ⟨e, last, kind, -⟩ := (h.left r).law.playing playing .normal normal
  have member : e ∈ (s.zone z).ring := List.mem_of_getLast? last
  obtain ⟨c, cell⟩ : ∃ c, e.cell = some c := by
    cases cell : e.cell with
    | none => rw [(h.sound.typed e member).mp cell] at kind; cases kind
    | some c => exact ⟨c, rfl⟩
  have held := (h.cells a).2.rings z c (List.mem_filterMap.mpr ⟨e, member, cell⟩)
  rw [s.places_audio] at held
  obtain ⟨x, audio⟩ := Option.isSome_iff_exists.mp held
  exact ⟨_, State.copyOfNewest_eq last cell audio⟩

theorem InWork.issueWork (h : InWork ring audio z s) (needs : audio → ring) (playing : (s.zone z).state = .playing) :
    WorkDone ring audio z (issueWork z s) := by
  set u := s.modZone z fun r => { r with gain := nextGain r.gain r.target r.gainStep } with gained
  have zone : u.zone z = { s.zone z with gain := nextGain (s.zone z).gain (s.zone z).target (s.zone z).gainStep } :=
    (State.zone_modZone _ _ _ _).trans (if_pos rfl)
  have block : u.block = s.block := rfl
  have inWork : InWork ring audio z u :=
    ⟨h.banks, by rw [zone]; exact h.sound.gained, fun r => by rw [zone, block]; exact (h.left r).gained,
      fun a => (Moved.modZone (claims := False) s z rfl).audio (h.cells a)⟩
  have plays : (u.zone z).state = .playing := by rw [zone]; exact playing
  have entry := issue_issued z (s.zone z).gain u
  have moved (a : audio) : Moved True True u (issue z (s.zone z).gain u).2 :=
    Moved.issue z _ u fun _ normal => inWork.copyOfNewest (needs a) a plays normal
  have clock := (Only.issue z (s.zone z).gain u).block_eq
  obtain ⟨⟨e, v⟩, issued⟩ : ∃ p, issue z (s.zone z).gain u = p := ⟨_, rfl⟩
  rw [issued] at entry moved clock
  have later : Only [.source, .tap, .speakers, .air] v (firstSends z e (tapIssue z e v)) :=
    (Only.tapIssue z e v).then (Only.firstSends z e _)
  have sent : WorkDone ring audio z (firstSends z e (tapIssue z e v)) := by
    refine ⟨?_, fun r => ?_, fun a => ((moved a).trans (Moved.still later.still)).audio (inWork.cells a)⟩
    · rw [later.zone_eq, entry.zone]
      exact inWork.sound.addEntry plays entry.typed
    · rw [later.zone_eq, entry.zone, later.block_eq, clock]
      obtain ⟨least, most, -⟩ := inWork.sound.leads
      exact (inWork.left r).addEntry ⟨least, most⟩ plays entry.number entry.block
  rw [issueWork_issued issued]
  simp only []
  split
  · have drains : ((firstSends z e (tapIssue z e v)).zone z).Calm
        (((firstSends z e (tapIssue z e v)).inState z .draining).zone z) := by
      rw [State.inState_zone]
      refine ZoneRun.calm_drains ?_
      rw [later.zone_eq, entry.zone]
      simp [ZoneRun.addEntry]
    exact ⟨drains.sound sent.sound, fun r => drains.ringLaw (sent.law r),
      fun a => (Moved.enterDraining (claims := False) z _).audio (sent.cells a)⟩
  · exact sent

theorem InWork.playingSteps (h : InWork ring audio z s) (needs : audio → ring) :
    WorkDone ring audio z (playingSteps z s) := by
  unfold Machine.playingSteps
  simp only []
  split
  · exact h.boundaryNotice.issueWork needs ‹_›
  · exact h.boundaryNotice.done ‹_›

theorem InWork.enterPlaying (h : InWork ring audio z s) (priming : (s.zone z).state = .priming)
    (primed : s.primed z = true) : InWork ring audio z (enterPlaying z s) := by
  have zone : (Machine.enterPlaying z s).zone z = (s.zone z).entered (s.activeZone z) :=
    (enterPlaying_zone z s z).trans (if_pos rfl)
  have plan : (Machine.enterPlaying z s).plan = s.plan := (Only.enterPlaying z s).plan_eq
  refine ⟨by rw [State.BanksLegal, plan]; exact h.banks, ?_, fun r => ?_,
    fun a => (Moved.enterPlaying (claims := True) trivial z s).audio (h.cells a)⟩
  · rw [zone]
    exact h.sound.entered (h.banks.1.1 z)
  · rw [zone, (Only.enterPlaying z s).block_eq]
    refine (h.left r).entered priming fun e last => ?_
    unfold State.primed at primed
    simp only [last, Bool.and_eq_true, decide_eq_true_eq] at primed
    exact primed.2

/-- The release that begins the work of a zone that moves. -/
theorem InWork.released (banks : s.BanksLegal) (sound : (s.zone z).Sound) (law : ring → (s.zone z).RingLaw s.block 1)
    (cells : audio → s.places.Partitioned ∧ s.places.AudioLawful)
    (state : (s.zone z).state = .priming ∨ (s.zone z).state = .playing) : InWork ring audio z (releaseDue z s) := by
  have zone : (releaseDue z s).zone z = (s.zone z).afterRelease s.block := (trimRing_zone _ _ _ _).trans (if_pos rfl)
  have only : Only [.zones, .store] s (releaseDue z s) := Only.releaseDue z s
  refine ⟨by rw [State.BanksLegal, only.plan_eq]; exact banks, ?_, fun r => ?_,
    fun a => (Moved.trimRing (claims := False) z _ s).audio (cells a)⟩
  · rw [zone]
    refine ⟨sound.gains, sound.leads, fun idle => ?_, fun draining => ?_,
      fun e he => sound.typed e (List.mem_of_mem_filter he)⟩
    · have : (s.zone z).state = .idle := idle
      simp_all
    · have : (s.zone z).state = .draining := draining
      simp_all
  · rw [zone, only.block_eq]
    exact (law r).released sound.leads.1

theorem drainingWork_done (banks : s.BanksLegal) (sound : (s.zone z).Sound)
    (law : ring → (s.zone z).RingLaw s.block 1) (cells : audio → s.places.Partitioned ∧ s.places.AudioLawful)
    (draining : (s.zone z).state = .draining) : WorkDone ring audio z (drainingWork z s) := by
  have zone : (releaseDue z s).zone z = (s.zone z).afterRelease s.block := (trimRing_zone _ _ _ _).trans (if_pos rfl)
  have run : (s.zone z).afterRelease s.block =
      { s.zone z with state := .draining, ring := ((s.zone z).afterRelease s.block).ring } := by
    rw [← draining]
    rfl
  have calm := settleDraining_calm (r := s.zone z) (zone.trans run) List.filter_sublist
  have trimmed := settleDraining_calm (r := (s.zone z).afterRelease s.block) (zone.trans run) (.refl _)
  have only : Only [.zones, .source, .tap, .store, .overlay, .speakers, .air] s
      (settleDraining z (releaseDue z s)) := (Only.releaseDue z s).then (Only.settleDraining z _)
  have moved : Moved True True s (settleDraining z (releaseDue z s)) :=
    (Moved.trimRing z _ s).trans ((Moved.stops True z).settleDraining _)
  have settled : InWork ring audio z (settleDraining z (releaseDue z s)) :=
    ⟨by rw [State.BanksLegal, only.plan_eq]; exact banks, calm.sound sound,
      fun r => by rw [only.block_eq]; exact trimmed.left ((law r).released sound.leads.1),
      fun a => moved.audio (cells a)⟩
  have still := calm.not_playing (by rw [draining]; decide)
  unfold drainingWork
  simp only []
  split
  · exact settled.boundaryNotice.done ((boundaryNotice_calm z _).not_playing still)
  · exact settled.done still

/-- The work of a zone, from the law with the work due to the law with it done. -/
theorem zoneWork_done (needs : audio → ring) (banks : s.BanksLegal) (sound : (s.zone z).Sound)
    (law : ring → (s.zone z).RingLaw s.block 1) (cells : audio → s.places.Partitioned ∧ s.places.AudioLawful) :
    WorkDone ring audio z (zoneWork z s) := by
  unfold zoneWork
  split
  · rename_i idle
    have empty := sound.idle idle
    refine ⟨sound, fun r => ?_, cells⟩
    refine ZoneRun.Left.done ⟨law r, fun e he => ?_⟩ (by rw [idle]; decide)
    rw [empty] at he
    cases he
  · rename_i priming
    have released := InWork.released banks sound law cells (.inl priming)
    have still : ((releaseDue z s).zone z).state = .priming := by
      rw [releaseDue, trimRing_zone, if_pos rfl]
      exact priming
    unfold primingWork
    simp only []
    split
    · exact released.done (by rw [still]; decide)
    · split
      · exact (released.enterPlaying still ‹_›).playingSteps needs
      · exact released.done (by rw [still]; decide)
  · rename_i playing
    exact (InWork.released banks sound law cells (.inr playing)).playingSteps needs
  · rename_i draining
    exact drainingWork_done banks sound law cells draining

end

end Sys2Proof.Machine
end

section
/-! The zone laws across every operation, and so across every step (O9). -/

namespace Sys2Proof.Machine

open Sys2Proof

/-- The laws of the zones: with `ring`, the law of R116 besides; with `audio`, that queues and rings hold AUDIO
cells, each cell standing in one place. -/
structure ZoneLaws (ring audio : Prop) (s : State) : Prop where
  banks : s.BanksLegal
  zones : ∀ z, (s.zone z).Sound
  rings : ring → ∀ z, (s.zone z).RingLaw s.block (s.workDue z)
  cells : audio → s.places.Partitioned ∧ s.places.AudioLawful

theorem Moves.banksLegal {copies claims : Prop} {p q : Places} (h : Moves copies claims p q) (hp : p.BanksLegal) :
    q.BanksLegal := by
  induction h with
  | refl => exact hp
  | tail _ move ih => exact move.banksLegal ih

theorem workDue_of_due {s t : State} {z : ZoneNo} (due : tblGet t.agenda.zones z = tblGet s.agenda.zones z) :
    t.workDue z = s.workDue z := by
  unfold State.workDue
  rw [due]

section
variable {ring audio : Prop} {s t : State}

/-- Moves at one block, each zone calm or priming anew. -/
theorem ZoneLaws.mild (h : ZoneLaws ring audio s) {claims : Prop} (m : Moved True claims s t)
    (block : t.block = s.block) (due : t.agenda.zones = s.agenda.zones)
    (each : ∀ z, (s.zone z).Calm (t.zone z) ∨ (s.zone z).Primes (t.zone z)) : ZoneLaws ring audio t := by
  refine ⟨Moves.banksLegal m h.banks, fun z => ?_, fun r z => ?_, fun a => m.audio (h.cells a)⟩
  · exact (each z).elim (·.sound (h.zones z)) (·.sound (h.zones z))
  · rw [block, workDue_of_due (s := s) (by rw [due])]
    exact (each z).elim (·.ringLaw (h.rings r z)) (·.ringLaw (h.rings r z))

/-- Moves that change no zone. -/
theorem ZoneLaws.only (h : ZoneLaws ring audio s) {claims : Prop} (m : Moved True claims s t) {l : List Part}
    (k : Only l s t) (zones : l.contains .zones = false := by decide)
    (clock : l.contains .clock = false := by decide) (agenda : l.contains .agenda = false := by decide) :
    ZoneLaws ring audio t :=
  h.mild m (k.block_eq clock) (by rw [k.agenda_eq agenda]) fun z => .inl (by rw [k.zone_eq zones]; exact .refl _)

/-- Moves that change one zone. -/
theorem ZoneLaws.one (h : ZoneLaws ring audio s) {claims : Prop} (m : Moved True claims s t) {z : ZoneNo}
    (block : t.block = s.block) (due : t.agenda.zones = s.agenda.zones) (elsewhere : Elsewhere z s t)
    (here : (s.zone z).Calm (t.zone z) ∨ (s.zone z).Primes (t.zone z)) : ZoneLaws ring audio t :=
  h.mild m block due fun y => by
    by_cases same : y = z
    · rw [same]; exact here
    · rw [elsewhere y same]; exact .inl (.refl _)

theorem ZoneLaws.still (h : ZoneLaws ring audio s) (k : Still s t) : ZoneLaws ring audio t :=
  h.mild (claims := False) (Moved.still k) k.block k.due fun z =>
    .inl (by rw [show t.zone z = s.zone z from congrArg (tblGet · z) k.zones]; exact .refl _)

theorem ZoneLaws.startZone (h : ZoneLaws ring audio s) (z : ZoneNo) : ZoneLaws ring audio (startZone z s) := by
  have zone (y : ZoneNo) : (Machine.startZone z s).zone y = if z = y then { s.zone z with
      gain := (s.activeZone z).startLevel, target := (s.activeZone z).startLevel, gainStep := 0, prevKind := none
      state := .priming, primingBegan := s.block } else s.zone y := State.zone_modZone _ _ _ _
  have moved : Moved True False s (Machine.startZone z s) :=
    (Moved.still (Still.modCueRun _ _ _)).trans (Moved.modZone _ _ rfl)
  obtain ⟨-, -, -, -, -, level, -⟩ := h.banks.1.1 z
  refine h.one (z := z) moved rfl rfl (fun y other => ?_) (.inr ?_)
  · rw [zone, if_neg (Ne.symm other)]
  · rw [zone, if_pos rfl]
    exact ⟨fun _ => ⟨level, level, Nat.zero_le _⟩, ⟨rfl, rfl⟩, rfl, rfl, rfl, rfl⟩

theorem ZoneLaws.takeSwap (h : ZoneLaws ring audio s) (valid : validateSwap s = none) :
    ZoneLaws ring audio (takeSwap s) := by
  have only : Only swapParts s (Machine.takeSwap s) := Only.takeSwap s
  refine h.mild (Moved.swap (claims := True) trivial valid) only.block_eq (by rw [takeSwap_agenda]) fun z => ?_
  rw [takeSwap_zone valid]
  split
  · exact .inr ⟨id, ⟨rfl, rfl⟩, rfl, rfl, rfl, rfl⟩
  · exact .inl (.refl _)

theorem ZoneLaws.restarted (h : ZoneLaws ring audio s) : ZoneLaws ring audio (restartBlocks s) := by
  have rest := restartBlocks_restarted s
  refine h.mild ((Moved.outsideWork True).restarted s) rest.block rest.due fun z => .inl ?_
  rw [rest.zones]
  exact ⟨id, ⟨rfl, rfl⟩, rfl, List.nil_sublist _, .inr (.inl ⟨rfl, rfl⟩)⟩

/-- The part at reset meets the zone laws. -/
theorem ZoneLaws.reset (rstLow : Bool) (pending : List Instr) :
    ZoneLaws ring audio { State.reset with rstLow := rstLow, pending := pending } := by
  obtain ⟨-, -, -, -, cells, -, entries, -, banks, -, -, gains, leads, rings, -, lawful, held, -, -⟩ := resetIsSound
  have laws : ZoneLaws ring audio State.reset :=
    ⟨banks, (soundZones_iff _).mp ⟨gains, leads, rings, entries⟩, fun _ => (ringsLawful_iff _).mp lawful,
      fun _ => ⟨(cellsPartitioned_iff _).mp cells, (audioTyped_iff _).mp held⟩⟩
  have waiting := Still.outside State.reset rstLow pending
  exact laws.still waiting

/-- A boundary opens: the work of every zone falls due, one block on. -/
theorem ZoneRun.RingLaw.opened {r : ZoneRun} {m : Nat} (h : r.RingLaw m 0) : r.RingLaw (m + 1) 1 := by
  refine ⟨h.order, fun e he => ?_, h.priming, fun playing k prev => ?_⟩
  · obtain ⟨above, within, since⟩ := h.window e he
    omega
  · obtain ⟨e, last, kind, block⟩ := h.playing playing k prev
    exact ⟨e, last, kind, by omega⟩

theorem ZoneLaws.opened (h : ZoneLaws ring audio s) (done : ∀ z, tblGet s.agenda.zones z = false) :
    ZoneLaws ring audio (openBoundary s) := by
  refine ⟨h.banks, h.zones, fun r z => ?_, h.cells⟩
  have due : (openBoundary s).workDue z = 1 := by simp [State.workDue, openBoundary, agendaAt]
  have before : s.workDue z = 0 := by simp [State.workDue, done z]
  rw [due]
  exact (before ▸ h.rings r z).opened

/-- The work of a zone that was due. -/
theorem ZoneLaws.worked (h : ZoneLaws ring audio s) (needs : audio → ring) {z : ZoneNo}
    (due : tblGet s.agenda.zones z = true) : ZoneLaws ring audio (zoneWork z (s.workTaken z)) := by
  have was : s.workDue z = 1 := by simp [State.workDue, due]
  have done := zoneWork_done (s := s.workTaken z) (ring := ring) (audio := audio) needs h.banks (h.zones z)
    (fun r => was ▸ h.rings r z) h.cells
  have only := Only.zoneWork z (s.workTaken z)
  have elsewhere := (Elsewhere.works z).zoneWork (s.workTaken z)
  have moved := (Moved.works z).zoneWork (s.workTaken z)
  have taken (y : ZoneNo) : (zoneWork z (s.workTaken z)).workDue y = if z = y then 0 else s.workDue y := by
    have agenda : (zoneWork z (s.workTaken z)).agenda = (s.workTaken z).agenda := only.agenda_eq
    unfold State.workDue
    rw [agenda]
    show (if tblGet (tblSet s.agenda.zones z false) y then 1 else 0) = _
    rw [tblGet_tblSet]
    split <;> simp
  refine ⟨Moves.banksLegal moved h.banks, fun y => ?_, fun r y => ?_, done.cells⟩ <;> by_cases same : z = y
  · subst same
    exact done.sound
  · rw [elsewhere y (Ne.symm same)]
    exact h.zones y
  · subst same
    rw [taken, if_pos rfl]
    exact done.law r
  · rw [elsewhere y (Ne.symm same), taken, if_neg same, only.block_eq]
    exact h.rings r y

end

/-- The zone laws hold across an operation. -/
def KeepsZones (ring audio : Prop) (s t : State) : Prop := ZoneLaws ring audio s → ZoneLaws ring audio t

theorem KeepsZones.stepClosed {ring audio : Prop} (needs : audio → ring) : StepClosed (KeepsZones ring audio) where
  trans h k laws := k (h laws)
  still k laws := laws.still k
  emptied st s laws := laws.only (claims := False) (Moved.emptyQueue st s) (Only.emptyQueue st s)
  overflowed st s laws := laws.only (claims := False) (Moved.overflow st s) (Only.overflow st s)
  appended taken st f gap discontinuity laws := laws.only (claims := False)
    (Moved.appendFrame taken st f gap discontinuity) (Only.appendFrame taken st f gap discontinuity)
  staged legal laws :=
    laws.mild ((Moved.outsideWork True).staged legal) rfl rfl fun _ => .inl (.refl _)
  swapped valid laws := laws.takeSwap valid
  started _ laws := laws.startZone _
  levelled s z target gainStep ht hg laws := by
    refine laws.one (claims := False) (Moved.modZone s z rfl) rfl rfl
      (fun y other => (State.zone_modZone _ _ _ _).trans (if_neg (Ne.symm other))) (.inl ?_)
    rw [State.zone_modZone, if_pos rfl]
    exact ⟨fun gains => ⟨gains.1, ht, hg⟩, ⟨rfl, rfl⟩, rfl, .refl _, .inl ⟨rfl, rfl, rfl⟩⟩
  stopped z s laws := laws.one ((Moved.stops True z).softStop s) (Only.softStop z s).block_eq
    (by rw [(Only.softStop z s).agenda_eq]) ((Elsewhere.stops z).softStop s) (.inl (softStop_calm z s))
  halted z s laws := laws.one ((Moved.stops True z).hardStop s) (Only.hardStop z s).block_eq
    (by rw [(Only.hardStop z s).agenda_eq]) ((Elsewhere.stops z).hardStop s) (.inl (hardStop_calm z s))
  opened done laws := laws.opened done
  restarted _ laws := laws.restarted
  reset _ rstLow pending _ := .reset rstLow pending
  worked due laws := laws.worked needs due

end Sys2Proof.Machine

open Sys2Proof Sys2Proof.Machine

/-- Settles O9: a zone's work takes the law from due to done, and every other operation leaves its zones calm. -/
theorem stepKeepsZones : Obligations.StepKeepsZones := by
  intro s t banks gains leads rings typed next
  have zones := (soundZones_iff s).mp ⟨gains, leads, rings, typed⟩
  have stepped {ring audio : Prop} (needs : audio → ring) (h : ZoneLaws ring audio s) : ZoneLaws ring audio t :=
    (KeepsZones.stepClosed needs).step next h
  refine ⟨(soundZones_iff t).mpr (stepped id ⟨banks, zones, False.elim, False.elim⟩).zones, fun lawful =>
    ⟨(ringsLawful_iff t).mpr ?_, fun cells audio => (audioTyped_iff t).mpr ?_⟩⟩
  · exact (stepped False.elim ⟨banks, zones, fun _ => (ringsLawful_iff s).mp lawful, False.elim⟩).rings trivial
  · have laws := stepped (ring := True) (audio := True) id
      ⟨banks, zones, fun _ => (ringsLawful_iff s).mp lawful, fun _ => ⟨cells, (audioTyped_iff s).mp audio⟩⟩
    exact (laws.cells trivial).2
end

section
/-! A SOURCE frame that is dropped: malformed, stray, old, an overrun or a store drop (R42 to R47, R203). -/

namespace Sys2Proof.Machine

open Sys2Proof

theorem streamIndex_outside {stream : Byte} (h : 16 ≤ stream.toNat) : streamIndex stream = none := by
  simp [streamIndex, h]

/-! ### The checks before the store (R42 to R44, R203) -/

section
variable {s : State} {f : SourceFrame} (high : s.rstLow = false) (up : s.source.up = true)
include high up

theorem execSourceFrame_arrives : exec (.sourceFrame f) s = .next (sourceArrives f s) := by
  show s.onSource (sourceArrives f) = _
  rw [State.onSource, high, up]
  rfl

theorem execSourceFrame_unreceived (unreceived : f.received = false) :
    exec (.sourceFrame f) s = .next s.countMalformed := by
  rw [execSourceFrame_arrives high up, sourceArrives, unreceived]
  rfl

theorem execSourceFrame_stray (received : f.received = true)
    (stray : 16 ≤ f.stream.toNat ∨ ∃ st : StreamNo, f.stream = operandOf st ∧ (s.stream st).present = false) :
    exec (.sourceFrame f) s = .next s.countStray := by
  rw [execSourceFrame_arrives high up, sourceArrives, received]
  rcases stray with unknown | ⟨st, stream, absent⟩
  · rw [streamIndex_outside unknown]
    rfl
  · simp [stream, absent]

theorem execSourceFrame_judged {st : StreamNo} (received : f.received = true)
    (stream : f.stream = operandOf st) (present : (s.stream st).present = true) :
    exec (.sourceFrame f) s = .next (judgeFrame st f s) := by
  rw [execSourceFrame_arrives high up, sourceArrives, received, stream, streamIndex_operandOf]
  simp [present]

end

theorem judgeFrame_lanes {st : StreamNo} {f : SourceFrame} {s : State}
    (other : f.lanes.toNat ≠ (s.stream st).lanes) : judgeFrame st f s = s.countMalformed := if_pos other

/-- A frame behind the expected sequence is counted as old (R44). -/
theorem judgeFrame_old {st : StreamNo} {f : SourceFrame} {s : State} {x : SerialNo}
    (lanes : f.lanes.toNat = (s.stream st).lanes) (expected : (s.stream st).expected = some x)
    (behind : 32768 ≤ (f.seq - x).toNat) :
    judgeFrame st f s = s.modStream st fun d => d.count fun k => { k with old := counted k.old 1 } := by
  have gap : sequenceGap (s.stream st).expected f.seq = none := by
    rw [expected]
    exact if_pos (decide_eq_true behind)
  unfold judgeFrame
  rw [if_neg (not_not.mpr lanes), gap]
  rfl

/-- A frame not behind any expected sequence has a gap, which may be 0 (R44). -/
theorem sequenceGap_inOrder {expected : Option SerialNo} {seq : SerialNo}
    (inOrder : ∀ x, expected = some x → (seq - x).toNat < 32768) :
    ∃ gap, sequenceGap expected seq = some gap := by
  cases expected with
  | none => exact ⟨0, rfl⟩
  | some x => exact ⟨_, sequenceGap_ahead rfl (inOrder x rfl)⟩

/-! ### A full PACED queue, and a refused take (R46, R47) -/

theorem admitFrame_overrun {st : StreamNo} {f : SourceFrame} {gap : Nat} {s : State}
    (paced : (s.stream st).cls = .paced) (full : (s.stream st).quota ≤ (s.stream st).queue.length) :
    admitFrame st f gap s =
      offerEvent .streamOverrun st.val [f2 f.seq.toNat, fQueueCount (s.stream st).queue.length]
        (s.modStream st fun d => d.count fun k => { k with overruns := counted k.overruns 1 }) := by
  unfold admitFrame
  simp only [if_neg (not_lt.mpr full), paced]
  rfl

theorem storeFrame_refused {st : StreamNo} {f : SourceFrame} {gap : Nat} {discontinuity : Bool} {s : State}
    (floor : s.store.freeList.length ≤ s.store.claimReserve) :
    storeFrame st f gap discontinuity s =
      offerEvent .streamStoreDrop st.val [f2 f.seq.toNat, f4 s.store.freeList.length]
        (s.modStream st fun d => d.count fun k => { k with storeDrops := counted k.storeDrops 1 }) := by
  rw [storeFrame, takeCell_refused (kind := .intake) floor]
  rfl

/-- A LIVE queue at its quota drops its oldest cell before the take is judged (R45, R47). -/
theorem admitFrame_overflow {st : StreamNo} {f : SourceFrame} {gap : Nat} {s : State}
    (live : (s.stream st).cls = .live) (full : (s.stream st).quota ≤ (s.stream st).queue.length) :
    ∃ discontinuity, admitFrame st f gap s = storeFrame st f gap discontinuity (overflow st s) := by
  unfold admitFrame
  simp only [if_neg (not_lt.mpr full), live]
  exact ⟨_, rfl⟩

/-- What a cell holds after the head of a queue was marked: the head the mark, every other what it held. -/
theorem tblGet_cellsMarked (s : State) (queue : List CellNo) (h : CellNo) :
    tblGet (s.cellsMarked queue) h =
      match s.audioCell h with
      | none => s.cell h
      | some a => if queue.head? = some h then .audio { a with discontinuity := true } else s.cell h := by
  have written (x : CellNo) (c : Cell) : tblGet (tblSet s.store.cells x c) h = if x = h then c else s.cell h :=
    tblGet_tblSet _ _ _ c
  have unwritten : tblGet s.store.cells h = s.cell h := rfl
  unfold State.cellsMarked
  rcases queue.head? with _ | x
  · cases s.audioCell h <;> simp [unwritten]
  · by_cases same : x = h
    · subst same
      cases found : s.audioCell x <;> simp [found, written, unwritten]
    · cases found : s.audioCell x <;> cases s.audioCell h <;> simp [found, written, unwritten, same]

end Sys2Proof.Machine

open Sys2Proof Sys2Proof.Machine

/-- Settles O29. -/
theorem sourceFrameDropped : Obligations.SourceFrameDropped := by
  intro s f high up malformed
  refine ⟨execSourceFrame_unreceived high up, execSourceFrame_stray high up, ?_⟩
  intro st received stream present d put inOrder
  have judged := execSourceFrame_judged high up received stream present
  have admitted (lanes : f.lanes.toNat = d.lanes) (order : inOrder) :
      ∃ gap, exec (.sourceFrame f) s = .next (admitFrame st f gap s) :=
    (sequenceGap_inOrder order).imp fun _ => execSourceFrame_admitted high up received stream present lanes
  refine ⟨fun other => ?lanes, fun lanes ⟨x, expected, behind⟩ => ?old, fun lanes order paced full => ?overrun,
    fun lanes order room floor => ?refused, fun c queue lanes order live full head floor => ?overflow⟩
  case lanes => rw [judged, judgeFrame_lanes other]; rfl
  case old => rw [judged, judgeFrame_old lanes expected behind]; rfl
  case overrun =>
    obtain ⟨gap, taken⟩ := admitted lanes order
    rw [taken, admitFrame_overrun paced full, fQueueCount_eq]
    rfl
  case refused =>
    obtain ⟨gap, taken⟩ := admitted lanes order
    rw [taken, admitFrame, if_pos room, storeFrame_refused floor]
    rfl
  case overflow =>
    obtain ⟨gap, taken⟩ := admitted lanes order
    obtain ⟨discontinuity, stored⟩ := admitFrame_overflow (f := f) (gap := gap) live full
    refine ⟨s.cellsMarked queue, ?_, tblGet_cellsMarked s queue⟩
    rw [taken, stored, storeFrame_refused (by rw [overflow_eq head]; exact floor), overflow_eq head]
    unfold State.modStream State.modIntake
    simp only [tblMod, tblGet_tblSet_same, tblSet_tblSet, CellStore.released_cons, CellStore.released_nil,
      CellStore.rearm_eq]
    rfl
end

section
/-! The power-on values of Stream Intake, the Clock Tracker and the Overlay unit (R56, R82, R152). -/

namespace Sys2Proof.Machine

open Sys2Proof

@[simp] theorem reset_entry (e : EntryNo) : State.reset.entry e = TrackerEntry.reset := tblGet_replicate _ e

@[simp] theorem reset_cell (c : CellNo) : State.reset.cell c = .blank := tblGet_replicate _ c

theorem reset_claimCell (c : CellNo) : State.reset.claimCell c = none := by
  rw [State.claimCell, reset_cell]

theorem reset_claimCounters (z : ZoneNo) :
    tblGet State.reset.overlay.counters z = { made := 0, outranked := 0, failed := 0 } := tblGet_replicate _ z

end Sys2Proof.Machine

open Sys2Proof Sys2Proof.Machine

/-- Settles O2: the release answers `State.reset`, whose tables hold one value each. -/
theorem releaseSetsPowerOnValues : Obligations.ReleaseSetsPowerOnValues := by
  refine fun s => ⟨{ State.reset with pending := s.pending }, rfl, fun st => ?_, rfl, rfl, reset_entry, rfl,
    reset_claimStack, reset_claimCell, reset_claimCounters⟩
  rw [show State.stream { State.reset with pending := s.pending } st = Stream.reset from reset_stream st]
  exact ⟨rfl, rfl, rfl, rfl, rfl, rfl, rfl, rfl, rfl⟩
end

section
/-! OPEN STREAM of an absent stream (R38). -/

namespace Sys2Proof.Machine

open Sys2Proof

/-- The status of OPEN STREAM is that of its two clamps. -/
theorem takenStatus_two {a b x y : Nat} :
    takenStatus (decide (a ≠ x ∨ b ≠ y)) = if a = x ∧ b = y then .ok else .clamped := by
  unfold takenStatus
  by_cases ha : a = x <;> by_cases hb : b = y <;> simp [ha, hb]

/-- An absent stream has an empty queue (R37). -/
theorem State.StreamsLegal.queue_nil {s : State} (h : s.StreamsLegal) {st : StreamNo}
    (absent : (s.stream st).present = false) : (s.stream st).queue = [] := by
  obtain ⟨_, _, _, _, empty, _⟩ := h st
  exact empty absent

theorem openStream_taken {d : Header} {st : StreamNo} {cls : StreamClass} {lanes : Byte} {s : State}
    (rank : d.rank = 0) (absent : (s.stream st).present = false) (coded : lanes = 1 ∨ lanes = 2)
    (quota mark : BitVec 16) :
    openStream d (operandOf st) (BitVec.ofNat 8 cls.code) lanes quota mark s =
      openTaken d st cls lanes.toNat quota.toNat mark.toNat s := by
  unfold openStream
  rw [if_neg (not_rankRefused rank), streamIndex_operandOf, streamClassOf_code]
  simp only [absent, if_pos coded]
  rfl

theorem openTaken_eq {d : Header} {s : State} (h : s.Listening) (st : StreamNo) (cls : StreamClass)
    (lanes quota mark : Nat) :
    let q := max 1 (min 256 quota)
    let m := min q mark
    openTaken d st cls lanes quota mark s =
      openReport st ((s.answered 0x20 d (if q = quota ∧ m = mark then .ok else .clamped) []).withStream st
        ((s.stream st).opened cls lanes q m)) := by
  unfold openTaken
  simp only [clampNat_zero, clampNat_eq (show 1 ≤ 256 by decide), takenStatus_two, h.reply]
  rfl

/-- The report after an OPEN STREAM whose queue is empty: none of a LIVE stream, of a PACED one its whole quota. -/
theorem openReport_opened {s : State} {st : StreamNo} {x : Stream} (empty : x.queue = []) (cls : StreamClass)
    (lanes quota mark : Nat) :
    openReport st (s.withStream st (x.opened cls lanes quota mark)) =
      match cls with
      | .live => s.withStream st (x.opened cls lanes quota mark)
      | .paced =>
          offerEvent .streamDemand st.val [⟨1, 0⟩, ⟨2, quota⟩]
            (s.withStream st (x.opened cls lanes quota mark)) := by
  have length : (x.opened cls lanes quota mark).queue.length = 0 := congrArg List.length empty
  unfold openReport
  rw [State.withStream_stream, demandReport_withStream, length]
  cases cls <;> rfl

end Sys2Proof.Machine

open Sys2Proof Sys2Proof.Machine

/-- Settles O34. -/
theorem streamOpened : Obligations.StreamOpened := by
  intro s d st cls lanes quota mark h legal rank absent coded q m u
  refine (h.onSource (openStream d (operandOf st) (BitVec.ofNat 8 cls.code) lanes quota mark)).trans
    (congrArg _ ?_)
  rw [openStream_taken rank absent coded, openTaken_eq h, openReport_opened (legal.queue_nil absent)]
  cases cls <;> rfl
end

section
/-! The directives of a stream or a speaker that are refused (R38 to R40, R73, R87, R88, R91, R191). -/

namespace Sys2Proof.Machine

open Sys2Proof

/-! ### Operands out of range, and codes of nothing -/

theorem speakerIndex_outside {speaker : Byte} (h : 24 ≤ speaker.toNat) : speakerIndex speaker = none := by
  simp [speakerIndex, h]

/-- A speaker operand in range names a speaker. -/
theorem speakerOperand_named {b : Byte} (h : b.toNat < 24) : ∃ sp : SpeakerNo, b = operandOf sp :=
  ⟨⟨b.toNat, h⟩, (BitVec.ofNat_toNat 8 b).symm⟩

theorem speakerOperand_inj {a b : SpeakerNo} (h : operandOf a = operandOf b) : a = b := by
  simpa using congrArg speakerIndex h

theorem optZoneIndex_outside {b : Byte} (h : ¬ (b.toNat < 8 ∨ b = 0xFF)) : optZoneIndex b = none := by
  obtain ⟨range, other⟩ := not_or.mp h
  rw [optZoneIndex, if_neg other, zoneIndex, dif_neg range]
  rfl

theorem streamClassOf_outside {code : Byte} (h : 2 ≤ code.toNat) : streamClassOf code = none := by
  unfold streamClassOf
  split <;> first | omega | rfl

theorem roleOf_outside {code : Byte} (h : ¬ code.toNat < 4) : roleOf code = none := by
  unfold roleOf
  split <;> first | omega | rfl

theorem validAddress_iff (a : AirAddress) : validAddress a = true ↔ a ≠ 0 ∧ a ≠ 0xFFFF := by
  simp [validAddress]

/-! ### The rank check of a speaker (R87) -/

theorem speakerRank_iff {s : State} {d : Header} {sp : SpeakerNo} :
    s.speakerRank d sp = true ↔ s.SpeakerAdmits d sp := by
  unfold State.speakerRank State.SpeakerAdmits Header.within
  cases (s.activeSpeaker sp).present <;> simp

/-- A directive that reaches the part and is answered with a REPLY alone. -/
theorem State.Listening.answers {s : State} (h : s.Listening) {f : State → State} {kind : Byte} {d : Header}
    {status : Status} {payload : List Field} (e : f s = s.answered kind d status payload) :
    s.onSource f = .next (s.answered kind d status payload) := (h.onSource f).trans (congrArg _ e)

/-! ### OPEN, CLOSE, FLUSH and QUERY STREAM -/

section
variable {d : Header} {s : State} (h : s.Listening)
include h

theorem queryStream_index {stream : Byte} (outside : 16 ≤ stream.toNat) :
    queryStream d stream s = s.answered 0x23 d .index [] := by
  rw [queryStream, streamIndex_outside outside]
  exact h.reply _ _ _ _

section
variable (rank : d.rank = 0)
include rank

theorem openStream_index {stream : Byte} (outside : 16 ≤ stream.toNat) (cls lanes : Byte) (quota mark : BitVec 16) :
    openStream d stream cls lanes quota mark s = s.answered 0x20 d .index [] := by
  rw [openStream, if_neg (not_rankRefused rank), streamIndex_outside outside]
  exact h.reply _ _ _ _

theorem closeStream_index {stream : Byte} (outside : 16 ≤ stream.toNat) :
    closeStream d stream s = s.answered 0x21 d .index [] := by
  rw [closeStream, if_neg (not_rankRefused rank), streamIndex_outside outside]
  exact h.reply _ _ _ _

theorem flushStream_index {stream : Byte} (outside : 16 ≤ stream.toNat) :
    flushStream d stream s = s.answered 0x22 d .index [] := by
  rw [flushStream, if_neg (not_rankRefused rank), streamIndex_outside outside]
  exact h.reply _ _ _ _

variable {st : StreamNo}

theorem openStream_busy (present : (s.stream st).present = true) (cls lanes : Byte) (quota mark : BitVec 16) :
    openStream d (operandOf st) cls lanes quota mark s = s.answered 0x20 d .busy [] := by
  rw [openStream, if_neg (not_rankRefused rank), streamIndex_operandOf]
  exact (if_pos present).trans (h.reply _ _ _ _)

/-- A class of no code is refused before the lanes are judged, and other lanes with the same status (R38). -/
theorem openStream_value (absent : (s.stream st).present = false) {cls lanes : Byte}
    (unfit : 2 ≤ cls.toNat ∨ lanes ≠ 1 ∧ lanes ≠ 2) (quota mark : BitVec 16) :
    openStream d (operandOf st) cls lanes quota mark s = s.answered 0x20 d .value [] := by
  rw [openStream, if_neg (not_rankRefused rank), streamIndex_operandOf, h.reply 0x20 d .value]
  refine (if_neg (by simp [absent])).trans ?_
  rcases unfit with code | other
  · rw [streamClassOf_outside code]
  · cases streamClassOf cls
    · rfl
    · exact if_neg (not_or.mpr other)

theorem closeStream_absent (absent : (s.stream st).present = false) :
    closeStream d (operandOf st) s = s.answered 0x21 d .absent [] := by
  rw [closeStream, if_neg (not_rankRefused rank), streamIndex_operandOf]
  exact (if_pos (by simp [absent])).trans (h.reply _ _ _ _)

theorem flushStream_absent (absent : (s.stream st).present = false) :
    flushStream d (operandOf st) s = s.answered 0x22 d .absent [] := by
  rw [flushStream, if_neg (not_rankRefused rank), streamIndex_operandOf]
  exact (if_pos (by simp [absent])).trans (h.reply _ _ _ _)

/-- A stream that a present zone names is bound to one (R39, R85). -/
theorem closeStream_bound (present : (s.stream st).present = true)
    (bound : ∃ z : ZoneNo, (s.activeZone z).present = true ∧ (s.activeZone z).stream = some st) :
    closeStream d (operandOf st) s = s.answered 0x21 d .bound [] := by
  have named : (s.boundZone st).isSome = true :=
    List.isSome_head?.mpr (Bank.zonesOn_ne_nil.mpr bound)
  rw [closeStream, if_neg (not_rankRefused rank), streamIndex_operandOf]
  exact (if_neg (by simp [present])).trans ((if_pos named).trans (h.reply _ _ _ _))

end

/-! ### SET TRIM, RESYNC SPEAKER and QUERY SPEAKER -/

section
variable {speaker : Byte} (outside : 24 ≤ speaker.toNat)
include outside

theorem setTrim_index (gain : BitVec 16) (delay : BitVec 24) :
    setTrim d speaker gain delay s = s.answered 0x43 d .index [] := by
  rw [setTrim, speakerIndex_outside outside]
  exact h.reply _ _ _ _

theorem resyncSpeaker_index : resyncSpeaker d speaker s = s.answered 0x45 d .index [] := by
  rw [resyncSpeaker, speakerIndex_outside outside]
  exact h.reply _ _ _ _

theorem querySpeaker_index : querySpeaker d speaker s = s.answered 0x35 d .index [] := by
  rw [querySpeaker, speakerIndex_outside outside]
  exact h.reply _ _ _ _

end

variable {sp : SpeakerNo}

theorem setTrim_absent (absent : (s.activeSpeaker sp).present = false) (gain : BitVec 16) (delay : BitVec 24) :
    setTrim d (operandOf sp) gain delay s = s.answered 0x43 d .absent [] := by
  rw [setTrim, speakerIndex_operandOf]
  exact (if_pos (by simp [absent])).trans (h.reply _ _ _ _)

/-- The rank check of RESYNC SPEAKER comes first, and an absent speaker passes it (R73, R87). -/
theorem resyncSpeaker_absent (absent : (s.activeSpeaker sp).present = false) :
    resyncSpeaker d (operandOf sp) s = s.answered 0x45 d .absent [] := by
  have passed : s.speakerRank d sp = true := speakerRank_iff.mpr fun present => by simp [absent] at present
  rw [resyncSpeaker, speakerIndex_operandOf]
  exact (if_neg (by simp [passed])).trans ((if_pos (by simp [absent])).trans (h.reply _ _ _ _))

theorem setTrim_rank (present : (s.activeSpeaker sp).present = true) (outranked : ¬ s.SpeakerAdmits d sp)
    (gain : BitVec 16) (delay : BitVec 24) :
    setTrim d (operandOf sp) gain delay s = s.answered 0x43 d .rank [] := by
  have failed : ¬ s.speakerRank d sp = true := mt speakerRank_iff.mp outranked
  rw [setTrim, speakerIndex_operandOf]
  exact (if_neg (by simp [present])).trans ((if_pos (by simpa using failed)).trans (h.reply _ _ _ _))

theorem resyncSpeaker_rank (outranked : ¬ s.SpeakerAdmits d sp) :
    resyncSpeaker d (operandOf sp) s = s.answered 0x45 d .rank [] := by
  have failed : ¬ s.speakerRank d sp = true := mt speakerRank_iff.mp outranked
  rw [resyncSpeaker, speakerIndex_operandOf]
  exact (if_pos (by simpa using failed)).trans (h.reply _ _ _ _)

/-! ### STAGE SPEAKER (R91) -/

variable {o : SpeakerOperands}

theorem stageSpeaker_index
    (outside : ¬ (o.speaker.toNat < 24 ∧ (o.plannedZone.toNat < 8 ∨ o.plannedZone = 0xFF))) :
    stageSpeaker d o s = s.answered 0x31 d .index [] := by
  rw [stageSpeaker, h.reply 0x31 d .index]
  rcases not_and_or.mp outside with speaker | zone
  · rw [speakerIndex_outside (not_lt.mp speaker)]
  · rw [optZoneIndex_outside zone]
    cases speakerIndex o.speaker <;> rfl

/-- The rank check of STAGE SPEAKER, against the rank that is written and the active one (R87, R91). -/
theorem stageSpeaker_ranked (speaker : o.speaker = operandOf sp)
    (zone : o.plannedZone.toNat < 8 ∨ o.plannedZone = 0xFF) :
    ∃ z, (d.rank.toNat ≤ min 3 o.rank.toNat ∧ s.SpeakerAdmits d sp →
        stageSpeaker d o s = stageSpeakerChecked d o sp z s)
      ∧ (¬ (d.rank.toNat ≤ min 3 o.rank.toNat ∧ s.SpeakerAdmits d sp) →
        stageSpeaker d o s = s.answered 0x31 d .rank []) := by
  have ranked : (s.speakerRank d sp && Header.within d (rankWritten o.rank)) = true ↔
      d.rank.toNat ≤ min 3 o.rank.toNat ∧ s.SpeakerAdmits d sp := by
    rw [Bool.and_eq_true, speakerRank_iff, Header.within, decide_eq_true_iff, rankWritten, clampNat_zero, and_comm]
  unfold stageSpeaker
  rw [speaker, speakerIndex_operandOf, optZoneIndex_read zone, h.reply 0x31 d .rank]
  exact ⟨_, fun passed => if_pos (ranked.mpr passed), fun failed => if_neg (mt ranked.mp failed)⟩

theorem stageSpeakerChecked_value (zone : Option ZoneNo)
    (unfit : ¬ (o.address ≠ 0 ∧ o.address ≠ 0xFFFF ∧ o.role.toNat < 4)) :
    stageSpeakerChecked d o sp zone s = s.answered 0x31 d .value [] := by
  rw [stageSpeakerChecked, h.reply 0x31 d .value]
  by_cases role : o.role.toNat < 4
  · have address : ¬ validAddress o.address = true := fun valid =>
      unfit (and_assoc.mp ⟨(validAddress_iff _).mp valid, role⟩)
    cases roleOf o.role
    · rfl
    · exact if_pos (by simpa using address)
  · rw [roleOf_outside role]

theorem stageSpeakerChecked_busy (zone : Option ZoneNo)
    (fit : o.address ≠ 0 ∧ o.address ≠ 0xFFFF ∧ o.role.toNat < 4) (pending : s.plan.swapPending = true) :
    stageSpeakerChecked d o sp zone s = s.answered 0x31 d .busy [] := by
  obtain ⟨address, role⟩ := and_assoc.mpr fit
  obtain ⟨code, coded⟩ := Option.isSome_iff_exists.mp (roleOf_isSome role)
  rw [stageSpeakerChecked, coded]
  refine (if_neg ?_).trans ((if_pos pending).trans (h.reply _ _ _ _))
  simpa using (validAddress_iff _).mpr address

end

end Sys2Proof.Machine

open Sys2Proof Sys2Proof.Machine

/-- Settles O21. -/
theorem streamAndSpeakerDirectivesRefused : Obligations.StreamAndSpeakerDirectivesRefused := by
  intro s d a b x y delay h
  refine ⟨fun rank => ⟨fun stream outside => ?streamIndex, fun st => ?stream⟩,
    fun stream outside => h.answers (queryStream_index h outside), fun speaker outside => ?speakerIndex,
    fun sp => ⟨fun absent => ?absent, fun present below => ?outranked⟩, fun o => ?stage⟩
  case streamIndex =>
    exact ⟨h.answers (openStream_index h rank outside x y a b), h.answers (closeStream_index h rank outside),
      h.answers (flushStream_index h rank outside)⟩
  case stream =>
    exact ⟨fun present => h.answers (openStream_busy h rank present x y a b),
      fun absent unfit => h.answers (openStream_value h rank absent unfit a b),
      fun absent => ⟨h.answers (closeStream_absent h rank absent), h.answers (flushStream_absent h rank absent)⟩,
      fun present bound => h.answers (closeStream_bound h rank present bound)⟩
  case speakerIndex =>
    exact ⟨h.answers (setTrim_index h outside a delay), h.answers (resyncSpeaker_index h outside),
      h.answers (querySpeaker_index h outside)⟩
  case absent => exact ⟨h.answers (setTrim_absent h absent a delay), h.answers (resyncSpeaker_absent h absent)⟩
  case outranked =>
    have outranked : ¬ s.SpeakerAdmits d sp := fun admits => (admits present).not_gt below
    exact ⟨h.answers (setTrim_rank h present outranked a delay), h.answers (resyncSpeaker_rank h outranked)⟩
  case stage =>
    intro inRange admitted valued reply
    refine ⟨fun outside => h.answers (stageSpeaker_index h outside), ?_⟩
    suffices judged : inRange → (¬ admitted → reply .rank)
        ∧ (admitted → (¬ valued → reply .value) ∧ (valued → s.plan.swapPending = true → reply .busy)) from
      ⟨fun range => (judged range).1, fun range rank => ((judged range).2 rank).1,
        fun range rank => ((judged range).2 rank).2⟩
    rintro ⟨speaker, zone⟩
    obtain ⟨sp, speaker⟩ := speakerOperand_named speaker
    obtain ⟨z, taken, refused⟩ := stageSpeaker_ranked h (d := d) speaker zone
    have admits : admitted ↔ d.rank.toNat ≤ min 3 o.rank.toNat ∧ s.SpeakerAdmits d sp :=
      and_congr_right fun _ => ⟨fun all => all sp speaker,
        fun active _ same => speakerOperand_inj (speaker.symm.trans same) ▸ active⟩
    have checked (rank : admitted) := taken (admits.mp rank)
    exact ⟨fun failed => h.answers (refused (mt admits.mpr failed)),
      fun rank => ⟨fun unfit => h.answers ((checked rank).trans (stageSpeakerChecked_value h z unfit)),
        fun fit pending => h.answers ((checked rank).trans (stageSpeakerChecked_busy h z fit pending))⟩⟩
end

section
/-! The rounding of 5.2, to the nearest integer. -/

namespace Sys2Proof.Machine

open Sys2Proof

/-- For a dividend not below 0, the multiple lies at most half a divisor above it, and less than half below. -/
theorem roundDiv_bounds {a b : Int} (dividend : 0 ≤ a) (divisor : 0 < b) :
    2 * a - b < 2 * (b * roundDiv a b) ∧ 2 * (b * roundDiv a b) ≤ 2 * a + b := by
  have round : roundDiv a b = (2 * a + b) / (2 * b) := by
    rw [roundDiv, if_pos dividend, Int.fdiv_eq_ediv_of_nonneg _ (by omega)]
  have parts := Int.mul_ediv_add_emod (2 * a + b) (2 * b)
  have low := Int.emod_nonneg (2 * a + b) (b := 2 * b) (by omega)
  have high := Int.emod_lt_of_pos (2 * a + b) (b := 2 * b) (by omega)
  rw [round]
  constructor <;> linarith

theorem roundDiv_neg {a : Int} (negative : a < 0) (b : Int) : roundDiv a b = -roundDiv (-a) b := by
  rw [roundDiv, if_neg (by omega), roundDiv, if_pos (by omega)]

end Sys2Proof.Machine

open Sys2Proof Sys2Proof.Machine

/-- Settles O59: for a dividend not below 0 by `roundDiv_bounds`, else by the mirrored dividend. -/
theorem roundTakesNearest : Obligations.RoundTakesNearest := by
  have nearest (a b : Int) (dividend : 0 ≤ a) (divisor : 0 < b) :
      2 * |b * roundDiv a b - a| ≤ b ∧ (2 * |b * roundDiv a b - a| = b → |a| < |b * roundDiv a b|) := by
    obtain ⟨low, high⟩ := roundDiv_bounds dividend divisor
    generalize b * roundDiv a b = m at *
    constructor <;> grind
  intro a b divisor
  rcases le_or_gt 0 a with dividend | negative
  · exact nearest a b dividend divisor
  · have mirrored : b * roundDiv a b - a = -(b * roundDiv (-a) b - -a) := by
      rw [roundDiv_neg negative]
      ring
    have mirror := nearest (-a) b (by omega) divisor
    rwa [mirrored, abs_neg, ← abs_neg a, roundDiv_neg negative, mul_neg, abs_neg (b * _)]
end

section
/-! What an input does to a tracker entry, by its state (R62 to R70), and what it makes known of a speaker (R78). -/

namespace Sys2Proof.Machine

open Sys2Proof

/-! ### The estimate -/

/-- A write of ρ: clamped, and counted where the clamp acts (R58). -/
theorem writeRho_eq (e : TrackerEntry) (v : Int) :
    e.writeRho v =
      { e with
        rho := max (-8192) (min 8192 v)
        clamps := if |v| ≤ 8192 then e.clamps else counted e.clamps 1 } := by
  have kept : max (-8192) (min 8192 v) = v ↔ |v| ≤ 8192 := by
    rw [abs_le]
    omega
  unfold TrackerEntry.writeRho
  simp only [clampRate_eq, kept]
  rfl

/-- The prediction of R68 is the anchor's count, moved by the span and its correction. -/
theorem predict_eq (e : TrackerEntry) (t : Nat) :
    let span : Int := 256 * ((t : Int) - e.anchorT)
    e.predict t = e.anchorL + BitVec.ofInt 32 (span + roundDiv (span * e.rho) 16777216) := by
  unfold TrackerEntry.predict extrapolate
  rw [add_assoc, BitVec.ofInt_add, BitVec.ofInt_natCast, BitVec.ofNat_toNat, BitVec.setWidth_eq]
  rfl

/-! ### The cases of an input -/

section
variable {p : TrackingParams} {e : TrackerEntry} {t : Nat} {l : LocalCount}

theorem input_unlocked (unlocked : e.state = .unlocked) :
    e.input p t l = ((e.acquireFrom t l).countAccepted, []) := by
  unfold TrackerEntry.input
  rw [unlocked]

/-- An input not newer than the raw pair (R62). -/
theorem input_stale (tracking : e.state ≠ .unlocked) (old : e.deltaT t ≤ 0) :
    e.input p t l = ({ e with staleEchoes := counted e.staleEchoes 1 }, []) := by
  unfold TrackerEntry.input
  split
  case h_1 unlocked => exact absurd unlocked tracking
  all_goals exact if_pos old

theorem input_acquiring (acquiring : e.state = .acquiring) (newer : 0 < e.deltaT t) :
    e.input p t l = e.acquire p t l := by
  unfold TrackerEntry.input
  rw [acquiring]
  exact if_neg newer.not_ge

theorem input_follows (follows : e.state = .locked ∨ e.state = .stale) (newer : 0 < e.deltaT t) :
    e.input p t l = e.follow p t l := by
  unfold TrackerEntry.input
  rcases follows with state | state <;> rw [state] <;> exact if_neg newer.not_ge

/-- A gross input restarts acquisition (R64). -/
theorem acquire_gross (gross : 1048576 < e.deltaT t ∨ 16384 < |e.measured t l|) :
    e.acquire p t l =
      ({ e.hardAnchor t l with accepted := 1, outliers := counted e.outliers 1 }, []) := if_pos gross

/-- Any other input halves the distance of ρ to the measured deviation (R65). -/
theorem acquire_taken (near : e.deltaT t ≤ 1048576) (fine : |e.measured t l| ≤ 16384) :
    e.acquire p t l =
      let a : TrackerEntry :=
        { ((e.moveRho (e.measured t l) 1).hardAnchor t l).countAccepted with accepted := e.accepted + 1 }
      if p.acquireCount ≤ e.accepted + 1 then ({ a with state := .locked, outlierRun := 0 }, [.locked])
      else (a, []) := if_neg (not_or.mpr ⟨near.not_gt, fine.not_gt⟩)

/-- What writes the raw pair of a LOCKED or STALE entry leaves it LOCKED (R70). -/
theorem recover_eq {was : TrackState} (follows : was = .locked ∨ was = .stale)
    {x : TrackerEntry × List TrackEvent} (state : x.1.state = was) :
    recover was x =
      ({ x.1 with state := .locked }, x.2 ++ if was = .stale then [.recovered] else []) := by
  unfold recover
  subst state
  obtain ⟨entry, events⟩ := x
  split
  · rfl
  case isFalse fresh =>
    have locked : entry.state = .locked := follows.resolve_right fresh
    simp [← locked]

theorem follow_gap (follows : e.state = .locked ∨ e.state = .stale) (far : 1048576 < e.deltaT t) :
    e.follow p t l =
      ({ (e.gap t l).1 with state := .locked },
        .phaseStep false 0 :: if e.state = .stale then [.recovered] else []) := by
  unfold TrackerEntry.follow
  exact (if_pos far).trans (recover_eq follows rfl)

/-- The third outlier in a row makes an entry reacquire (R67). -/
theorem follow_outlier (near : e.deltaT t ≤ 1048576) (outlier : p.outlierLimit < |e.measured t l - e.rho|) :
    e.follow p t l =
      let x : TrackerEntry := { e with outliers := counted e.outliers 1, outlierRun := e.outlierRun + 1 }
      if e.outlierRun < 2 then (x, []) else (x.acquireFrom t l, [.reacquire]) := by
  have rejected : e.follow p t l = e.reject t l := (if_neg near.not_gt).trans (if_pos outlier)
  rw [rejected, TrackerEntry.reject]
  simp only []
  by_cases early : e.outlierRun < 2
  · rw [if_neg (by omega), if_pos early]
    rfl
  · rw [if_pos (by omega), if_neg early]
    rfl

theorem follow_accepted (near : e.deltaT t ≤ 1048576) (fine : |e.measured t l - e.rho| ≤ p.outlierLimit) :
    e.follow p t l = recover e.state (e.accept p t l) := (if_neg near.not_gt).trans (if_neg fine.not_gt)

/-- Within the phase limit the anchor moves by a share of the phase error (R68, R69). -/
theorem accept_share (within : |(l - e.predict t).toInt| ≤ p.phaseLimit) :
    e.accept p t l =
      ({ e.moveRho (e.measured t l) p.g with
         rawT := t, rawL := l, anchorT := t
         anchorL := e.predict t + BitVec.ofInt 32 (roundDiv (l - e.predict t).toInt (2 ^ p.h))
         outlierRun := 0, echoesAccepted := counted e.echoesAccepted 1 }, []) := by
  unfold TrackerEntry.accept TrackerEntry.movePhase
  rw [if_pos within]
  rfl

/-- Beyond it the anchor is set hard, and the phase step made known. -/
theorem accept_step (beyond : p.phaseLimit < |(l - e.predict t).toInt|) :
    e.accept p t l =
      ({ e.moveRho (e.measured t l) p.g with
         rawT := t, rawL := l, anchorT := t, anchorL := l, outlierRun := 0
         phaseSteps := counted e.phaseSteps 1, echoesAccepted := counted e.echoesAccepted 1 },
       [.phaseStep true (l - e.predict t).toInt]) := by
  unfold TrackerEntry.accept TrackerEntry.movePhase
  rw [if_neg beyond.not_ge]
  rfl

end

/-! ### What an input makes known -/

theorem entrySpeaker_speakerEntry (sp : SpeakerNo) : entrySpeaker (speakerEntry sp) = some sp :=
  dif_pos sp.isLt

theorem entrySpeaker_eq_none {e : EntryNo} (stream : 24 ≤ e.val) : entrySpeaker e = none :=
  dif_neg stream.not_gt

/-- A speaker's entry takes an input and makes known what it gives, one after another (R65 to R70, R78). -/
theorem trackInput_speaker (sp : SpeakerNo) (t : Nat) (l : LocalCount) (s : State) :
    trackInput (speakerEntry sp) t l s =
      (((s.entry (speakerEntry sp)).input s.tracker.params t l).2).foldl (fun u v => speakerEvent sp v u)
        { s with
          tracker := { s.tracker with
            entries := tblSet s.tracker.entries (speakerEntry sp)
              ((s.entry (speakerEntry sp)).input s.tracker.params t l).1 } } := by
  unfold trackInput
  simp only [entrySpeaker_speakerEntry]
  rfl

/-- A stream's entry makes nothing known (R61). -/
theorem trackInput_stream {e : EntryNo} (stream : 24 ≤ e.val) (t : Nat) (l : LocalCount) (s : State) :
    trackInput e t l s =
      { s with
        tracker := { s.tracker with
          entries := tblSet s.tracker.entries e ((s.entry e).input s.tracker.params t l).1 } } := by
  unfold trackInput
  simp only [entrySpeaker_eq_none stream]
  rfl

theorem Only.speaker_eq {m : List Part} {s t : State} (h : Only m s t) (apart : m.contains .speakers = false)
    (sp : SpeakerNo) : t.speaker sp = s.speaker sp :=
  congrArg (tblGet · sp) (h.same .speakers apart : t.playout.speakers = s.playout.speakers)

/-- A phase step sets the speaker's ramp after its report (R66, R68, R78). -/
theorem speakerEvent_phaseStep (sp : SpeakerNo) (phase : Bool) (error : Int) (s : State) :
    let u := offerEvent .speakerPhaseStep sp.val [⟨1, if phase then 1 else 0⟩, ⟨4, error⟩] s
    speakerEvent sp (.phaseStep phase error) s =
      { u with
        playout := { u.playout with
          speakers := tblSet u.playout.speakers sp { s.speaker sp with rampPending := true } } } := by
  intro u
  have reported : u.speaker sp = s.speaker sp := (Only.offerEvent _ _ _ s).speaker_eq (by decide) sp
  have event : speakerEvent sp (.phaseStep phase error) s = setRampPending sp u := by
    unfold speakerEvent
    simp only [fFlag_eq]
    rfl
  rw [event, ← reported]
  rfl

end Sys2Proof.Machine

open Sys2Proof Sys2Proof.Machine

/-- Settles O60, by the cases of an input: first the entry alone, then what it makes known. -/
theorem lockedEntryTracksInput : Obligations.LockedEntryTracksInput := by
  refine ⟨?_, fun s t l => ⟨fun e => ⟨?_, fun stream => trackInput_stream stream t l s⟩, fun sp => ?_⟩⟩
  case refine_1 =>
    intro p e t l dt r span predicted error written rho clamps accepted follows recovered
    have moved (k : Nat) : e.moveRho (e.measured t l) k = { e with rho := rho k, clamps := clamps k } :=
      writeRho_eq _ _
    have predict : e.predict t = predicted := predict_eq e t
    refine ⟨input_unlocked, input_stale, fun acquiring newer gross => ?_,
      fun acquiring newer near fine => ?_, fun following gap => ?_, fun following newer near outlier => ?_,
      fun following newer near fine => ?_⟩
    · rw [input_acquiring acquiring newer, acquire_gross gross]
      rfl
    · rw [input_acquiring acquiring newer, acquire_taken near fine, moved]
      rfl
    · rw [input_follows following (lt_trans (by decide) gap), follow_gap following gap]
      rfl
    · rw [input_follows following newer, follow_outlier near outlier]
      rfl
    · rw [input_follows following newer, follow_accepted near fine]
      refine ⟨fun within => ?_, fun beyond => ?_⟩
      · rw [accept_share (by rwa [predict]), moved, predict, recover_eq following rfl]
        rfl
      · rw [accept_step (by rwa [predict]), moved, predict, recover_eq following rfl]
        rfl
  · rintro sp rfl
    exact trackInput_speaker sp t l s
  · exact ⟨rfl, fun phase error => speakerEvent_phaseStep sp phase error s, rfl, rfl⟩
end

section
/-! The share of a beacon notice by which an entry goes STALE or is lost (R71). -/

namespace Sys2Proof.Machine

open Sys2Proof

/-- An entry with a silence count and a state written. -/
def TrackerEntry.quieted (e : TrackerEntry) (state : TrackState) : TrackerEntry :=
  { e with silence := min 255 (e.silence + 1), state := state }

theorem hush_stale {p : TrackingParams} {e : TrackerEntry} (locked : e.state = .locked)
    (limit : p.staleLimit ≤ min 255 (e.silence + 1)) : e.hush p = (e.quieted .stale, true, false) := by
  unfold TrackerEntry.hush
  rw [locked]
  exact if_pos limit

theorem hush_lost {p : TrackingParams} {e : TrackerEntry} (tracking : e.state = .stale ∨ e.state = .acquiring)
    (limit : p.lostLimit ≤ min 255 (e.silence + 1)) : e.hush p = (e.quieted .unlocked, false, true) := by
  unfold TrackerEntry.hush
  rcases tracking with state | state <;> rw [state] <;> exact if_pos limit

/-- An entry after its due share of a notice, which is taken off the agenda. -/
def State.noticed (s : State) (e : EntryNo) (x : TrackerEntry) : State :=
  { s with
    tracker := { s.tracker with entries := tblSet s.tracker.entries e x }
    agenda := { s.agenda with notices := tblSet s.agenda.notices e false } }

/-- The report of a speaker's entry that a share of a notice moves (R78). -/
def State.noticeReported (s : State) (e : EntryNo) (code : EventCode) (x : TrackerEntry) : State :=
  if e.val < 24 then offerEvent code e.val [⟨1, x.silence⟩, ⟨2, x.rho⟩] (s.noticed e x) else s.noticed e x

/-- A due share that moves an entry writes it, and reports it of a speaker (R71, R78). -/
theorem dueNotice_moved {s : State} {e : EntryNo} {x : TrackerEntry} {code : EventCode}
    (due : tblGet s.agenda.notices e = true)
    (moved : (s.entry e).hush s.tracker.params = (x, true, false) ∧ code = .speakerStale
      ∨ (s.entry e).hush s.tracker.params = (x, false, true) ∧ code = .speakerLost) :
    dueNotice e s = s.noticeReported e code x := by
  let u := s.modAgenda fun a => { a with notices := tblSet a.notices e false }
  have same : (u.entry e).hush u.tracker.params = (s.entry e).hush s.tracker.params := rfl
  rw [dueNotice, if_pos due, takeNotice, same, State.noticeReported]
  by_cases speaker : e.val < 24
  · rw [if_pos speaker, entrySpeaker, dif_pos speaker]
    rcases moved with ⟨hush, rfl⟩ | ⟨hush, rfl⟩ <;> rw [hush] <;> rfl
  · rw [if_neg speaker, entrySpeaker_eq_none (not_lt.mp speaker)]
    rcases moved with ⟨hush, rfl⟩ | ⟨hush, rfl⟩ <;> rw [hush] <;> rfl

theorem exec_silenceStale {s : State} {e : EntryNo} (high : s.rstLow = false)
    (goes : ((s.entry e).hush s.tracker.params).2.1 = true) : exec (.silenceStale e) s = .next (dueNotice e s) :=
  (State.awake_high high (staleEvent e)).trans (congrArg _ (if_pos goes))

theorem exec_silenceLost {s : State} {e : EntryNo} (high : s.rstLow = false)
    (goes : ((s.entry e).hush s.tracker.params).2.2 = true) : exec (.silenceLost e) s = .next (dueNotice e s) :=
  (State.awake_high high (lostEvent e)).trans (congrArg _ (if_pos goes))

end Sys2Proof.Machine

open Sys2Proof Sys2Proof.Machine

/-- Settles O27: each limit reached is a share of `dueNotice_moved`. -/
theorem silenceMovesEntry : Obligations.SilenceMovesEntry := by
  intro s e high due quiet u payload
  refine ⟨fun locked limit => ?_, fun tracking limit => ?_⟩
  · have hush := hush_stale locked limit
    rw [exec_silenceStale high (by rw [hush]), dueNotice_moved due (.inl ⟨hush, rfl⟩)]
    rfl
  · have hush := hush_lost tracking limit
    rw [exec_silenceLost high (by rw [hush]), dueNotice_moved due (.inr ⟨hush, rfl⟩)]
    rfl
end

section
/-! RESYNC SPEAKER and SET TRACKING on a part that listens (R73, R80). -/

namespace Sys2Proof.Machine

open Sys2Proof

section
variable {d : Header} {s : State} (h : s.Listening)
include h

theorem resyncSpeaker_taken {sp : SpeakerNo} (present : (s.activeSpeaker sp).present = true)
    (admits : s.SpeakerAdmits d sp) :
    resyncSpeaker d (operandOf sp) s =
      (s.answered 0x45 d .ok []).modEntry (speakerEntry sp) TrackerEntry.resetEstimate := by
  rw [resyncSpeaker, speakerIndex_operandOf, h.reply 0x45 d .ok]
  exact (if_neg (by simp [speakerRank_iff.mpr admits])).trans (if_neg (by simp [present]))

theorem setTracking_taken (rank : d.rank = 0) (o : TrackingOperands) :
    setTracking d o s =
      (s.answered 0x50 d (if trackingWritten o = trackingRead o then .ok else .clamped) []).modTracker
        fun t => { t with params := trackingWritten o } := by
  have status : takenStatus (trackingWritten o != trackingRead o) =
      if trackingWritten o = trackingRead o then .ok else .clamped := by
    unfold takenStatus
    by_cases same : trackingWritten o = trackingRead o <;> simp [same]
  unfold setTracking
  rw [if_neg (not_rankRefused rank)]
  simp only [status, h.reply]

end

/-- The parameters that SET TRACKING stores, each as a minimum and a maximum (R80, Table 32). -/
theorem trackingWritten_eq (o : TrackingOperands) :
    let stale := max 2 (min 63 o.staleLimit.toNat)
    trackingWritten o =
      { g := min 7 o.g.toNat, h := min 7 o.h.toNat
        outlierLimit := max 16 (min 4096 o.outlierLimit.toNat)
        phaseLimit := max 256 (min 1048576 o.phaseLimit.toNat)
        acquireCount := max 2 (min 15 o.acquireCount.toNat), staleLimit := stale
        lostLimit := max (stale + 1) (min 255 o.lostLimit.toNat) } := by
  have stale : clampNat 2 63 o.staleLimit.toNat = max 2 (min 63 o.staleLimit.toNat) := clampNat_eq (by decide)
  have above : max 2 (min 63 o.staleLimit.toNat) + 1 ≤ 255 := by omega
  unfold trackingWritten
  simp only [stale, clampNat_zero, clampNat_eq above, clampNat_eq (show 16 ≤ 4096 by decide),
    clampNat_eq (show 256 ≤ 1048576 by decide), clampNat_eq (show 2 ≤ 15 by decide)]

end Sys2Proof.Machine

open Sys2Proof Sys2Proof.Machine

/-- Settles O43. Both rows pass their checks, and the reply precedes the write. -/
theorem trackerDirectivesTaken : Obligations.TrackerDirectivesTaken := by
  intro s d h
  refine ⟨fun sp present admits => ?_, fun o rank => ?_⟩
  · exact (h.onSource (resyncSpeaker d (operandOf sp))).trans (congrArg _ (resyncSpeaker_taken h present admits))
  · refine (h.onSource (setTracking d o)).trans (congrArg _ ((setTracking_taken h rank o).trans ?_))
    rw [trackingWritten_eq]
    rfl
end

section
/-! SET TRIM (R88), the stamp of a block (R76) and the samples of a frame (R122 to R125). -/

namespace Sys2Proof.Machine

open Sys2Proof

/-! ### SET TRIM -/

theorem setTrim_taken {s : State} {d : Header} {sp : SpeakerNo} (h : s.Listening)
    (present : (s.activeSpeaker sp).present = true) (admits : s.SpeakerAdmits d sp) (gain : BitVec 16)
    (delay : BitVec 24) :
    let g := min 32767 gain.toNat
    let l := min 1048575 delay.toNat
    setTrim d (operandOf sp) gain delay s =
      writeTrim sp { gain := g, delay := l }
        (s.answered 0x43 d (if g = gain.toNat ∧ l = delay.toNat then .ok else .clamped) []) := by
  intro g l
  rw [setTrim, speakerIndex_operandOf]
  refine (if_neg (by simp [present])).trans ((if_neg (by simp [speakerRank_iff.mpr admits])).trans ?_)
  simp only [clampNat_zero, takenStatus_two, h.reply]
  rfl

/-- A changed delay sets the speaker's ramp (R88). -/
theorem writeTrim_eq (sp : SpeakerNo) (t : Trim) (s : State) :
    writeTrim sp t s =
      { s with
        plan := { s.plan with trims := tblSet s.plan.trims sp t }
        playout :=
          if (s.trim sp).delay = t.delay then s.playout
          else
            { s.playout with
              speakers := tblSet s.playout.speakers sp { s.speaker sp with rampPending := true } } } := by
  unfold writeTrim
  by_cases same : (s.trim sp).delay = t.delay
  · simp only [same, ne_eq, not_true, if_false, if_true]
    rfl
  · simp only [same, ne_eq, not_false_eq_true, if_false, if_true]
    rfl

/-! ### Samples -/

/-- A floor by a positive divisor is the quotient of the claims. -/
theorem floorDiv_eq (a : Int) {b : Int} (h : 0 ≤ b) : floorDiv a b = a / b := Int.fdiv_eq_ediv_of_nonneg a h

theorem mixed_eq (a : AudioCell) (i : Nat) : a.mixed i = (a.lane i 0 + a.lane i 1) / 2 :=
  floorDiv_eq _ (by decide)

/-- The zone gain with the trim, and the ramps in force, each by a floor (R123, R124). -/
theorem rampedGain_eq (rampIn rampOut : Bool) (g : Int) (i : Nat) :
    rampedGain rampIn rampOut g i =
      let fadedIn : Int := if rampIn then g * i / 128 else g
      if rampOut then fadedIn * (127 - i) / 128 else fadedIn := by
  unfold rampedGain
  simp only [floorDiv_eq _ (show (0 : Int) ≤ 128 by decide)]

theorem deriveSamples_length (cell : Option AudioCell) (e : IssueEntry) (role : Role) (trim : Nat)
    (rampIn rampOut : Bool) : (deriveSamples cell e role trim rampIn rampOut).length = 128 := by
  simp [deriveSamples]

theorem deriveSamples_get (cell : Option AudioCell) (e : IssueEntry) (role : Role) (trim : Nat)
    (rampIn rampOut : Bool) {i : Nat} (h : i < 128) :
    (deriveSamples cell e role trim rampIn rampOut).getD i 0 =
      applyGain (selectLane cell role i) (rampedGain rampIn rampOut (trimmedGain e trim i) i) := by
  simp [deriveSamples, List.getD_eq_getElem?_getD, h]

end Sys2Proof.Machine

open Sys2Proof Sys2Proof.Machine

/-- Settles O41: the directive by `writeTrim_eq`, a sample by the arithmetic of each of its steps. -/
theorem trimSet : Obligations.TrimSet := by
  refine ⟨fun s d sp gain delay h present admits => ?_, fun s sp => ⟨fun p => rfl, ?_⟩⟩
  · intro g l
    refine (h.onSource (setTrim d (operandOf sp) gain delay)).trans (congrArg _ ?_)
    rw [setTrim_taken h present admits, writeTrim_eq]
    rfl
  · intro kind speakerRamp z e role rampIn
    refine ⟨_, rfl, deriveSamples_length _ _ _ _ _ _, fun i inside => ?_⟩
    rw [deriveSamples_get _ _ _ _ _ _ inside, applyGain_toInt, rampedGain_eq, trimmedGain, floorDiv_eq _ (by decide)]
    intro x zoneGain trimmed fadedIn g
    have lane : selectLane (s.entryCell e) role i = x := by
      unfold selectLane State.entryCell
      simp only [mixed_eq]
      rfl
    rw [lane]
    rfl
end

section
/-! A hard STOP: the ring cut short at the refill margin, a CUT for each listener, and the zone's end (R110, R130). -/

namespace Sys2Proof.Machine

open Sys2Proof

/-! ### CUTs one after another -/

/-- What a CUT leaves of a speaker's run (R130). -/
def SpeakerRun.wasCut (r : SpeakerRun) (limit : Nat) : SpeakerRun :=
  { r with horizon := limit - 1, rampPending := true, cuts := counted r.cuts 1 }

/-- The CUT frames of a list of speakers handed to the Air Link, by the clocks and addresses of `s`. -/
def State.handCuts (s : State) (l : List SpeakerNo) (u : State) : State :=
  l.foldl (fun v sp => handCut sp (s.activeSpeaker sp).address (s.stamp sp s.cutLimit) s.cutLimit v) u

theorem handCuts_reads (s : State) (l : List SpeakerNo) {u v : State} (same : SameAir u v) :
    (s.handCuts l u).air = (s.handCuts l v).air := by
  induction l generalizing u v with
  | nil => exact same.air
  | cons sp l ih =>
    refine ih (u := handCut _ _ _ _ u) (v := handCut _ _ _ _ v) ?_
    rw [handCut_reads _ _ _ _ u v same, handCut_air _ _ _ _ v]
    exact ⟨rfl, same.block, same.margin⟩

theorem cut_eq (sp : SpeakerNo) (s : State) :
    cut sp s =
      s.withSpeakers (s.handCuts [sp] s).air (tblSet s.playout.speakers sp ((s.speaker sp).wasCut s.cutLimit)) :=
  cutAt_withSpeakers sp (s.activeSpeaker sp).address s

/-- Distinct speakers CUT one after another: their frames in that order, and each run written once. -/
theorem forEach_cut (l : List SpeakerNo) (once : l.Nodup) (s : State) :
    ∃ speakers, s.forEach l cut = s.withSpeakers (s.handCuts l s).air speakers
      ∧ ∀ sp, tblGet speakers sp = if sp ∈ l then (s.speaker sp).wasCut s.cutLimit else s.speaker sp := by
  induction l generalizing s with
  | nil => exact ⟨s.playout.speakers, rfl, fun _ => rfl⟩
  | cons a l ih =>
    obtain ⟨fresh, once⟩ := List.nodup_cons.mp once
    obtain ⟨speakers, rest, runs⟩ := ih once (cut a s)
    have frames : ((cut a s).handCuts l (cut a s)).air = (s.handCuts (a :: l) s).air := by
      have handed := handCut_air a (s.activeSpeaker a).address (s.stamp a s.cutLimit) s.cutLimit s
      rw [cut_eq]
      refine handCuts_reads s l (v := s.handCuts [a] s) ⟨rfl, ?_, ?_⟩
      · exact (congrArg (fun v : State => v.timeline.block) handed).symm
      · exact (congrArg (fun v : State => v.store.refillMargin) handed).symm
    refine ⟨speakers, ?_, fun sp => ?_⟩
    · rw [State.forEach_cons, rest, frames, cut_eq]
      rfl
    · have here : (cut a s).speaker sp = if a = sp then (s.speaker a).wasCut s.cutLimit else s.speaker sp := by
        rw [cut_eq]
        exact tblGet_tblSet _ _ _ _
      have limit : (cut a s).cutLimit = s.cutLimit := by
        rw [cut_eq]
        rfl
      rw [runs, limit, here]
      by_cases same : a = sp
      · subst same
        simp [fresh]
      · simp [same, Ne.symm same]

/-! ### A hard STOP -/

/-- A zone made DRAINING, its ring cut short at the margin, the cells of the entries that go released (R110). -/
def State.cutShort (s : State) (z : ZoneNo) : State :=
  { s.putZone z { s.zone z with
      state := .draining, ring := (s.zone z).ring.filter fun e => decide (e.block < s.cutLimit) } with
    store := s.store.released
      (((s.zone z).ring.filter fun e => decide (s.cutLimit ≤ e.block)).filterMap IssueEntry.cell) }

theorem trimRing_cutShort (z : ZoneNo) (s : State) :
    trimRing z (fun e => decide (e.block < s.cutLimit)) (enterDraining z s) = s.cutShort z := by
  have gone : (s.zone z).ring.filter (fun e => !decide (e.block < s.cutLimit)) =
      (s.zone z).ring.filter fun e => decide (s.cutLimit ≤ e.block) := by
    refine List.filter_congr fun e _ => ?_
    rw [← decide_not]
    exact decide_eq_decide.mpr not_lt
  have ring : ((s.inState z .draining).zone z).ring = (s.zone z).ring := by rw [State.inState_zone]
  have entered : enterDraining z s = s.inState z .draining := rfl
  rw [entered, trimRing, releaseCells_eq, ring, gone, modZone_eq_putZone, State.inState_zone, State.inState,
    State.putZone, State.putZone, tblSet_tblSet]
  rfl

theorem nodup_listeners (s : State) (z : ZoneNo) : (s.listeners z).Nodup :=
  (nodup_allSpeakers.filter _).filter _

theorem hardStop_idle {z : ZoneNo} {s : State} (idle : (s.zone z).state = .idle) : hardStop z s = s := if_pos idle

theorem hardStop_eq {z : ZoneNo} {s : State} (moving : (s.zone z).state ≠ .idle) :
    hardStop z s = settleDraining z ((s.cutShort z).forEach (s.listeners z) cut) := by
  have trimmed := trimRing_cutShort z s
  rw [hardStop, if_neg moving]
  show settleDraining z ((trimRing z (fun e => decide (e.block < s.cutLimit)) (enterDraining z s)).forEach
    ((trimRing z (fun e => decide (e.block < s.cutLimit)) (enterDraining z s)).listeners z) cut) = _
  rw [trimmed]
  rfl

theorem stopZone_hard {s : State} {d : Header} {z : ZoneNo} (h : s.Listening) (admits : s.ZoneAdmits d z) :
    stopZone d (operandOf z) 1 s = hardStop z (s.answered 0x41 d .ok []) := by
  unfold stopZone
  rw [zoneIndex_operandOf, show stopModeOf 1 = some true from rfl]
  simp only [zoneRank_of_admits admits, h.reply]
  rfl

/-- A zone cut short: the ended zone where no entry is left. -/
theorem settleDraining_cutShort {z : ZoneNo} {s t : State} (zone : t.zone z = (s.cutShort z).zone z) :
    settleDraining z t =
      if ((s.zone z).ring.filter fun e => decide (e.block < s.cutLimit)) = [] then
        t.ended z (s.zone z).issueNumber
      else t := by
  have run : t.zone z = { s.zone z with
      state := .draining, ring := (s.zone z).ring.filter fun e => decide (e.block < s.cutLimit) } :=
    zone.trans (s.putZone_zone z _)
  split
  case isTrue empty => rw [settleDraining_empty (by rw [run]) (by rw [run]; exact empty), run]
  case isFalse kept => exact settleDraining_ring (by rw [run]; exact kept)

end Sys2Proof.Machine

open Sys2Proof Sys2Proof.Machine

/-- Settles O46: the zone cut short, then the CUTs of its listeners, then its end where no entry is left. -/
theorem zoneStoppedHard : Obligations.ZoneStoppedHard := by
  intro s d z h admits
  have stopped : exec (.stopZoneHard d (operandOf z)) s = .next (hardStop z (s.answered 0x41 d .ok [])) :=
    (h.onSource _).trans (congrArg _ (stopZone_hard h admits))
  refine ⟨fun idle => ?_, ?_⟩
  · rw [stopped, hardStop_idle (s := s.answered 0x41 d .ok []) idle]
  intro moving limit kept gone listeners ended
  let u := s.answered 0x41 d .ok []
  have heard : u.listeners z = listeners := s.listeners_eq z
  obtain ⟨speakers, cuts, runs⟩ := forEach_cut (u.listeners z) (nodup_listeners u z) (u.cutShort z)
  let t := (u.cutShort z).withSpeakers ((u.cutShort z).handCuts (u.listeners z) (u.cutShort z)).air speakers
  have settled : settleDraining z t = if kept = [] then ended t else t :=
    settleDraining_cutShort (s := u) (t := t) rfl
  refine ⟨t, ?_, u.putZone_zone z _, fun y other => tblGet_tblSet_other _ _ (Ne.symm other), rfl,
    fun sp => ?_, ?_, rfl, rfl, rfl, rfl, rfl, rfl, rfl, rfl, rfl⟩
  · rw [stopped, hardStop_eq (s := u) moving, cuts]
    exact congrArg _ settled
  · have member : sp ∈ u.listeners z ↔ (s.activeSpeaker sp).present = true ∧ (s.speaker sp).zone = some z := by
      rw [heard]
      simp [listeners, mem_allSpeakers]
    exact (runs sp).trans (if_congr member rfl rfl)
  · show ((u.cutShort z).handCuts (u.listeners z) (u.cutShort z)).air = _
    rw [heard]
    exact handCuts_reads s listeners (u := u.cutShort z) (v := s) ⟨rfl, rfl, rfl⟩
end

section
/-! An echo: its speaker, its pair handed to the tracker entry, RESYNC, and its gap list served (R60, R72, R180,
R181). -/

namespace Sys2Proof.Machine

open Sys2Proof

/-! ### Reception and the speaker (R180) -/

theorem find?_only {α : Type} {p : α → Bool} {l : List α} {a : α} (member : a ∈ l) (found : p a = true)
    (only : ∀ b ∈ l, p b = true → b = a) : l.find? p = some a := by
  cases first : l.find? p with
  | none => exact absurd found (List.find?_eq_none.mp first a member)
  | some b => rw [only b (List.mem_of_find?_eq_some first) (List.find?_some first)]

theorem mem_presentSpeakers {s : State} {sp : SpeakerNo} :
    sp ∈ s.presentSpeakers ↔ (s.activeSpeaker sp).present = true := by
  simp [State.presentSpeakers, mem_allSpeakers]

theorem speakerAt_none {s : State} {address : AirAddress}
    (stray : ∀ sp : SpeakerNo, (s.activeSpeaker sp).present = true → (s.activeSpeaker sp).address ≠ address) :
    s.speakerAt address = none :=
  List.find?_eq_none.mpr fun sp member => by simpa using stray sp (mem_presentSpeakers.mp member)

/-- Among distinct addresses the present speaker that carries one is found (R96). -/
theorem speakerAt_some {s : State} (distinct : s.AddressesDistinct) {sp : SpeakerNo} {address : AirAddress}
    (present : (s.activeSpeaker sp).present = true) (carries : (s.activeSpeaker sp).address = address) :
    s.speakerAt address = some sp := by
  refine find?_only (mem_presentSpeakers.mpr present) (by simpa using carries) fun o member same => ?_
  exact distinct o sp (mem_presentSpeakers.mp member) present ((by simpa using same : _ = address).trans carries.symm)

/-- A received echo without gaps names no issue (Table 88, R203). -/
theorem EchoFrame.issues_nil {f : EchoFrame} (received : f.received = true) (none : f.gapCount = 0) :
    f.issues = [] := by
  unfold EchoFrame.received echoLengthPasses EchoFrame.length at received
  rw [none] at received
  simpa using received

theorem exec_echo {s : State} (high : s.rstLow = false) (up : s.air.up = true) (f : EchoFrame) :
    exec (.echo f) s = .next (echoArrives f s) := by
  show s.onAir (echoArrives f) = _
  simp [State.onAir, high, up]

section
variable {s : State} {f : EchoFrame} (received : f.received = true)
include received

theorem echoArrives_malformed (long : 4 < f.gapCount.toNat) : echoArrives f s = s.countMalformed := by
  rw [echoArrives, if_neg (by simp [received]), if_pos long]

theorem echoArrives_stray (few : f.gapCount.toNat ≤ 4) (stray : s.speakerAt f.address = none) :
    echoArrives f s = s.countStray := by
  rw [echoArrives, if_neg (by simp [received]), if_neg few.not_gt, stray]

theorem echoArrives_matched (few : f.gapCount.toNat ≤ 4) {sp : SpeakerNo}
    (matched : s.speakerAt f.address = some sp) :
    echoArrives f s =
      if f.resync then handEcho sp f.beacon f.count f.resync s
      else serveGaps sp f (handEcho sp f.beacon f.count f.resync s) := by
  rw [echoArrives, if_neg (by simp [received]), if_neg few.not_gt, matched]

end

/-! ### The pair handed to the tracker entry (R60, R72) -/

/-- The part with a speaker's accessed flag set and its tracker entry written. -/
def State.heard (s : State) (sp : SpeakerNo) (x : TrackerEntry) : State :=
  { s with
    plan := { s.plan with accessed := tblSet s.plan.accessed sp true }
    tracker := { s.tracker with entries := tblSet s.tracker.entries (speakerEntry sp) x } }

@[simp] theorem State.heard_entry (s : State) (sp : SpeakerNo) (x : TrackerEntry) :
    (s.heard sp x).entry (speakerEntry sp) = x := tblGet_tblSet_same _ _ _

theorem State.heard_modEntry (s : State) (sp : SpeakerNo) (x : TrackerEntry) (g : TrackerEntry → TrackerEntry) :
    (s.heard sp x).modEntry (speakerEntry sp) g = s.heard sp (g x) := by
  unfold State.heard State.modEntry State.modTracker
  simp only [tblMod, tblGet_tblSet_same, tblSet_tblSet]

/-- An entry whose speaker has just been heard (R60). -/
def TrackerEntry.unsilenced (e : TrackerEntry) : TrackerEntry := { e with silence := 0 }

/-- The entry after an echo of a beacon that is not logged (R60). -/
def TrackerEntry.unmatched (e : TrackerEntry) : TrackerEntry :=
  { e with silence := 0, staleEchoes := counted e.staleEchoes 1 }

section
variable {s : State} {sp : SpeakerNo} {n : SerialNo} (l : LocalCount)

theorem handEcho_known {block : Nat} (found : s.lookupBeacon n = some block) :
    handEcho sp n l false s =
      trackInput (speakerEntry sp) (128 * block) l (s.heard sp (s.entry (speakerEntry sp)).unsilenced) := by
  have log : ((clearSilence (speakerEntry sp) s).setAccessed sp true).lookupBeacon n = some block := found
  unfold handEcho
  simp only [log]
  rfl

theorem handEcho_unknown (missing : s.lookupBeacon n = none) :
    handEcho sp n l false s = s.heard sp (s.entry (speakerEntry sp)).unmatched := by
  have log : ((clearSilence (speakerEntry sp) s).setAccessed sp true).lookupBeacon n = none := missing
  unfold handEcho
  simp only [log]
  exact s.heard_modEntry sp (s.entry (speakerEntry sp)).unsilenced _

/-- The entry that the RESYNC rule finds: heard, and its echo counted as stale where the beacon is not logged. -/
def TrackerEntry.heardBefore (e : TrackerEntry) : Option Nat → TrackerEntry
  | some _ => e.unsilenced
  | none => e.unmatched

theorem handEcho_resync :
    handEcho sp n l true s =
      resyncEcho sp (s.lookupBeacon n) l
        (s.heard sp ((s.entry (speakerEntry sp)).heardBefore (s.lookupBeacon n))) := by
  have log : ((clearSilence (speakerEntry sp) s).setAccessed sp true).lookupBeacon n = s.lookupBeacon n := rfl
  unfold handEcho
  simp only [log, if_true]
  cases s.lookupBeacon n with
  | none => exact congrArg _ (s.heard_modEntry sp (s.entry (speakerEntry sp)).unsilenced _)
  | some block => rfl

end

/-- An input to the entry of a speaker just heard: the entry written, then what it makes known (R61, R78). -/
theorem trackInput_heard (s : State) (sp : SpeakerNo) (x : TrackerEntry) (t : Nat) (l : LocalCount) :
    trackInput (speakerEntry sp) t l (s.heard sp x) =
      (x.input s.tracker.params t l).2.foldl (fun u v => speakerEvent sp v u)
        (s.heard sp (x.input s.tracker.params t l).1) := by
  rw [trackInput_speaker, State.heard_entry]
  unfold State.heard
  simp only [tblSet_tblSet]

theorem TrackerEntry.resync_rho (e : TrackerEntry) (found : Option Nat) (l : LocalCount) :
    (e.resync found l).rho = 0 := by
  unfold TrackerEntry.resync
  cases found <;> rfl

/-- The RESYNC rule: the entry, its report and the horizon at the current block (R72, R131). -/
theorem resyncEcho_heard (s : State) (sp : SpeakerNo) (found : Option Nat) (l : LocalCount) (x : TrackerEntry) :
    resyncEcho sp found l (s.heard sp x) =
      offerEvent .speakerReacquire sp.val [⟨1, 1⟩, ⟨2, 0⟩]
        { s.heard sp (x.resync found l) with
          playout := { s.playout with
            speakers := tblSet s.playout.speakers sp { s.speaker sp with horizon := s.timeline.block } } } := by
  unfold resyncEcho reacquireReport
  rw [State.heard_modEntry, State.heard_entry, TrackerEntry.resync_rho]
  exact offerEvent_after (resyncNotice sp) (s.heard sp (x.resync found l)) rfl rfl rfl (fun _ _ => rfl) _ _ _

/-! ### The gap list (R181) -/

theorem gapNumbers_eq (l seen : List SerialNo) :
    gapNumbers l seen = (l.filter fun n => decide (n ∉ seen)).eraseDups := by
  induction l generalizing seen with
  | nil => rfl
  | cons n l ih =>
    unfold gapNumbers
    by_cases again : n ∈ seen
    · rw [if_pos again, ih, List.filter_cons_of_neg (by simpa using again)]
    · rw [if_neg again, ih, List.filter_cons_of_pos (by simpa using again), List.eraseDups_cons, List.filter_filter]
      congr 2
      refine List.filter_congr fun m _ => ?_
      rw [Bool.eq_iff_iff]
      simp [not_or, @eq_comm _ m n]

/-- Each number of a gap list once, in the order of its first place. -/
theorem serveGaps_eq (sp : SpeakerNo) (f : EchoFrame) (s : State) :
    serveGaps sp f s = f.issues.eraseDups.foldl (fun u n => serveGap sp f.gapZone n u) s := by
  rw [serveGaps, gapNumbers_eq, List.filter_eq_self.mpr fun n _ => decide_eq_true List.not_mem_nil]
  rfl

theorem zoneOperand_of_index {b : Byte} {z : ZoneNo} (h : zoneIndex b = some z) : b = operandOf z := by
  unfold zoneIndex at h
  split at h
  · rw [← Option.some.inj h]
    exact (BitVec.ofNat_toNat 8 b).symm
  · cases h

theorem servedEntry_found {s : State} {sp : SpeakerNo} {z : ZoneNo} {n : SerialNo} {x : IssueEntry}
    (zone : (s.speaker sp).zone = some z) (hears : s.hears sp) (member : x ∈ (s.zone z).ring) (number : x.number = n)
    (only : ∀ y ∈ (s.zone z).ring, y.number = n → y = x) (ahead : s.block + s.store.refillMargin ≤ x.block) :
    s.servedEntry sp (operandOf z) n = some (z, x) := by
  have found : (s.zone z).ring.find? (fun e => e.number == n) = some x :=
    find?_only member (by simpa using number) fun y inRing same => only y inRing (by simpa using same)
  unfold State.servedEntry
  rw [zoneIndex_operandOf]
  simp only [found]
  rw [if_pos ⟨zone, (eligible_iff s sp).mpr hears⟩, if_pos ahead]

theorem servedEntry_late {s : State} {sp : SpeakerNo} {gapZone : Byte} {n : SerialNo}
    (late : ∀ z : ZoneNo, gapZone = operandOf z → (s.speaker sp).zone = some z → s.hears sp →
      ∀ x ∈ (s.zone z).ring, x.number = n → x.block < s.block + s.store.refillMargin) :
    s.servedEntry sp gapZone n = none := by
  unfold State.servedEntry
  split
  · rfl
  case h_2 z named =>
    split
    case isTrue may =>
      obtain ⟨zone, eligible⟩ := may
      split
      case h_1 x found =>
        have before := late z (zoneOperand_of_index named) zone ((eligible_iff s sp).mp eligible) x
          (List.mem_of_find?_eq_some found) (by simpa using List.find?_some found)
        exact if_neg before.not_ge
      case h_2 => rfl
    case isFalse => rfl

end Sys2Proof.Machine

open Sys2Proof Sys2Proof.Machine

/-- Settles O30: reception and match, then the pair by `handEcho`, then each number of the gap list. -/
theorem echoBeginsAcquisition : Obligations.EchoBeginsAcquisition := by
  intro s f high up received
  rw [exec_echo high up f]
  refine ⟨fun long => congrArg _ (echoArrives_malformed received long),
    fun few stray => congrArg _ (echoArrives_stray received few (speakerAt_none stray)), ?_⟩
  intro sp few distinct present carries e heard stale
  have arrives := echoArrives_matched received few (speakerAt_some distinct present carries)
  have normal (fresh : f.resync = false) :
      echoArrives f s = f.issues.eraseDups.foldl (fun u n => serveGap sp f.gapZone n u)
        (handEcho sp f.beacon f.count false s) := by
    rw [arrives, fresh, ← serveGaps_eq]
    rfl
  refine ⟨fun block fresh none found => ?_, fun block fresh found => ?_, fun resync => ?_, fun fresh missing => ?_,
    fun u n => ?_⟩
  · have silent : f.issues = [] := EchoFrame.issues_nil received none
    rw [normal fresh, silent, handEcho_known _ found, trackInput_heard]
    refine ⟨fun unlocked => ?_, fun tracking old => ?_⟩
    · rw [input_unlocked (e := e.unsilenced) unlocked]
      rfl
    · rw [input_stale (e := e.unsilenced) tracking (sub_nonpos.mpr (by exact_mod_cast old))]
      rfl
  · rw [normal fresh, handEcho_known _ found]
    rfl
  · rw [arrives, if_pos resync, resync, handEcho_resync, resyncEcho_heard]
    cases s.lookupBeacon f.beacon <;> rfl
  · rw [normal fresh, handEcho_unknown _ missing]
    rfl
  · intro k limit put
    refine ⟨fun z x named zone hears member number only ahead => ?_, fun late => ?_⟩
    · subst number
      rw [serveGap, named, servedEntry_found zone hears member rfl only ahead]
      rfl
    · rw [serveGap, servedEntry_late late]
      rfl
end

section
/-! Both banks stay within their ranges, and the active plan as validation leaves it (O8). -/

namespace Sys2Proof.Machine

open Sys2Proof

/-! ### A valid bank (R96) -/

/-- None of the conditions of Table 38 that concern a bank alone fails of it. -/
structure Bank.Valid (b : Bank) : Prop where
  unshared : ∀ st, (b.zonesOn st).length ≤ 1
  placed : ∀ sp z, ¬ b.BadMember sp z
  distinct : ∀ sp o, ¬ b.Duplicate sp o
  whole : ∀ z sp, ¬ b.AbsentMember z sp

theorem ZoneKind.eq_program_iff (k : ZoneKind) : k = .program ↔ k ≠ .overlay := by
  cases k <;> decide

/-- What validation holds of the active plan speaks of its bank alone. -/
theorem planValid_iff (s : State) : s.PlanValid ↔ s.plan.active.Valid := by
  constructor
  · rintro ⟨unshared, distinct, planned, members⟩
    refine ⟨unshared, fun sp z ⟨present, zone, bad⟩ => ?_, fun sp o ⟨lower, present, other, address⟩ => ?_,
      fun z sp ⟨present, overlay, member, absent⟩ => ?_⟩
    · obtain ⟨stands, program⟩ := planned sp z present zone
      rcases bad with absent | overlay
      · exact absurd (stands.symm.trans absent) (by decide)
      · exact absurd (program.symm.trans overlay) (by decide)
    · exact lower.ne' (distinct o sp other present address)
    · exact absurd ((members z present overlay sp member).symm.trans absent) (by decide)
  · intro valid
    refine ⟨valid.unshared, fun a b first second address => ?_, fun a z present zone => ?_,
      fun z present overlay a member => ?_⟩
    · rcases lt_trichotomy a b with lower | same | higher
      · exact absurd ⟨lower, first, second, address.symm⟩ (valid.distinct a b)
      · exact same
      · exact absurd ⟨higher, second, first, address⟩ (valid.distinct b a)
    · exact ⟨by_contra fun absent => valid.placed a z ⟨present, zone, .inl (Bool.eq_false_iff.mpr absent)⟩,
        (ZoneKind.eq_program_iff _).mpr fun overlay => valid.placed a z ⟨present, zone, .inr overlay⟩⟩
    · exact by_contra fun absent => valid.whole z a ⟨present, overlay, member, Bool.eq_false_iff.mpr absent⟩

/-! ### What validation passes -/

theorem Bank.unshared_of_passed {b : Bank} {st : StreamNo} (passed : streamShared b st = none) :
    (b.zonesOn st).length ≤ 1 := by
  unfold streamShared at passed
  rcases zones : b.zonesOn st with _ | ⟨z, _ | ⟨y, rest⟩⟩
  · exact Nat.zero_le _
  · exact le_rfl
  · rw [zones] at passed
    cases passed

theorem Bank.placed_of_passed {b : Bank} {sp : SpeakerNo} (passed : badMember b sp = none) (z : ZoneNo) :
    ¬ b.BadMember sp z := fun bad => by
  rw [badMember_some bad] at passed
  cases passed

theorem Bank.distinct_of_passed {b : Bank} {sp : SpeakerNo} (passed : duplicateAddress b sp = none)
    (o : SpeakerNo) : ¬ b.Duplicate sp o := fun twice => by
  have present : (b.speaker sp).present = true := twice.2.1
  unfold duplicateAddress at passed
  rw [if_pos present] at passed
  split at passed
  · cases passed
  · exact List.find?_eq_none.mp ‹_› o (mem_allSpeakers o) ((Bank.duplicate_iff present).mpr twice)

/-- A staged bank that validation passes is valid (R96). -/
theorem validateSwap_valid {s : State} (passed : validateSwap s = none) : s.plan.staged.Valid := by
  have whole := (validateSwap_admits passed).2
  unfold validateSwap at passed
  simp only [Option.orElse_eq_orElse, Option.orElse_eq_or, Option.or_eq_none_iff, List.findSome?_eq_none_iff]
    at passed
  obtain ⟨unshared, -, placed, distinct, -⟩ := passed
  exact ⟨fun st => Bank.unshared_of_passed (unshared st (mem_allStreams st)),
    fun sp => Bank.placed_of_passed (placed sp (mem_allSpeakers sp)),
    fun sp => Bank.distinct_of_passed (distinct sp (mem_allSpeakers sp)), whole⟩

/-! ### Every step -/

/-- The active plan stays valid across an operation. -/
def KeepsValid (s t : State) : Prop := s.plan.active.Valid → t.plan.active.Valid

theorem KeepsValid.of_active {s t : State} (active : t.plan.active = s.plan.active) : KeepsValid s t :=
  fun valid => active ▸ valid

theorem Only.keepsValid {l : List Part} {s t : State} (h : Only l s t)
    (hl : l.contains .active = false := by decide) : KeepsValid s t := .of_active (h.same .active hl)

/-- A swap takes a bank that validation passed; every other operation but reset leaves the active bank. -/
theorem KeepsValid.stepClosed : StepClosed KeepsValid where
  trans h k valid := k (h valid)
  still k := .of_active k.active
  emptied st s := (Only.emptyQueue st s).keepsValid
  overflowed st s := (Only.overflow st s).keepsValid
  appended taken st f gap discontinuity := (Only.appendFrame taken st f gap discontinuity).keepsValid
  staged _ := .of_active rfl
  swapped passed _ := takeSwap_active passed ▸ validateSwap_valid passed
  started _ := (Only.startZone _ _).keepsValid
  levelled _ _ _ _ _ _ := .of_active rfl
  stopped z s := (Only.softStop z s).keepsValid
  halted z s := (Only.hardStop z s).keepsValid
  opened _ := .of_active rfl
  restarted s := .of_active (restartBlocks_restarted s).active
  reset _ _ _ _ := (planValid_iff State.reset).mp reset_planValid
  worked {s z} _ :=
    KeepsValid.of_active (s := s.workTaken z) ((Only.zoneWork z (s.workTaken z)).same .active (by decide))

end Sys2Proof.Machine

open Sys2Proof Sys2Proof.Machine

/-- Settles O8: what a step does to the banks is moves that keep them legal; the active bank is written by a validated
swap or by reset alone. -/
theorem stepKeepsPlan : Obligations.StepKeepsPlan := fun s t banks valid next =>
  ⟨Moves.banksLegal (Moved.stepClosed.step next) banks,
    (planValid_iff t).mpr (KeepsValid.stepClosed.step next ((planValid_iff s).mp valid))⟩
end

section
/-! UNSTAGE, SWAP and the staging directives on a part that listens (R87, R90 to R93). -/

namespace Sys2Proof.Machine

open Sys2Proof

theorem zoneRank_iff {s : State} {d : Header} {z : ZoneNo} : s.zoneRank d z = true ↔ s.ZoneAdmits d z := by
  unfold State.zoneRank State.ZoneAdmits Header.within
  cases (s.activeZone z).present <;> simp

/-! ### UNSTAGE and SWAP (R92, R93) -/

/-- A SWAP's rank passes for every object that it would change (R93). -/
theorem swapRank_iff {s : State} {d : Header} :
    s.swapRank d = true ↔ (∀ z, s.plan.staged.zone z ≠ s.activeZone z → s.ZoneAdmits d z)
      ∧ ∀ sp, s.plan.staged.speaker sp ≠ s.activeSpeaker sp → s.SpeakerAdmits d sp := by
  have zone (z : ZoneNo) : s.swapAdmitsZone d z = true ↔
      (s.plan.staged.zone z ≠ s.activeZone z → s.ZoneAdmits d z) := by
    rw [State.swapAdmitsZone, Bool.or_eq_true, beq_iff_eq, zoneRank_iff, ne_comm, ne_eq, ← or_iff_not_imp_left]
    rfl
  have speaker (sp : SpeakerNo) : s.swapAdmitsSpeaker d sp = true ↔
      (s.plan.staged.speaker sp ≠ s.activeSpeaker sp → s.SpeakerAdmits d sp) := by
    rw [State.swapAdmitsSpeaker, Bool.or_eq_true, beq_iff_eq, speakerRank_iff, ne_comm, ne_eq,
      ← or_iff_not_imp_left]
    rfl
  rw [State.swapRank, Bool.and_eq_true, List.all_eq_true, List.all_eq_true]
  exact and_congr ⟨fun all z => (zone z).mp (all z (mem_allZones z)), fun all z _ => (zone z).mpr (all z)⟩
    ⟨fun all sp => (speaker sp).mp (all sp (mem_allSpeakers sp)), fun all sp _ => (speaker sp).mpr (all sp)⟩

section
variable {d : Header} {s : State} (h : s.Listening)
include h

theorem unstage_ranked (rank : d.rank = 0) :
    unstage d s =
      if s.plan.swapPending then s.answered 0x32 d .busy []
      else { s.answered 0x32 d .ok [] with plan := { s.plan with staged := s.plan.active } } := by
  rw [unstage, if_neg (not_rankRefused rank), h.reply, h.reply]
  rfl

theorem requestSwap_ranked (passes : s.swapRank d = true) :
    requestSwap d s =
      if s.plan.swapPending then s.answered 0x33 d .busy []
      else { s.answered 0x33 d .ok [] with plan := { s.plan with swapPending := true } } := by
  rw [requestSwap, if_neg (by simp [passes]), h.reply, h.reply]
  rfl

theorem requestSwap_outranked (fails : ¬ s.swapRank d = true) :
    requestSwap d s = s.answered 0x33 d .rank [] := by
  rw [requestSwap, if_pos (by simpa using fails), h.reply]

end

/-! ### STAGE ZONE and STAGE SPEAKER (R90, R91) -/

/-- The status of a directive that was taken says whether a value was limited. -/
theorem takenStatus_of_iff {b : Bool} {p : Prop} [Decidable p] (h : b = true ↔ p) :
    takenStatus b = if p then .clamped else .ok := by
  unfold takenStatus
  exact if_congr h rfl rfl

theorem rankWritten_eq (rank : Byte) : rankWritten rank = min 3 rank.toNat := clampNat_zero 3 _

theorem priorityWritten_eq (kind : ZoneKind) (priority : Byte) :
    priorityWritten kind priority = if kind = .program then 0 else max 1 (min 3 priority.toNat) := by
  cases kind
  · rfl
  · exact clampNat_eq (by decide)

theorem membersWritten_eq (kind : ZoneKind) (members : BitVec 24) :
    membersWritten kind members = if kind = .program then 0 else members := by
  cases kind <;> rfl

/-- The overlay role is read for an OVERLAY zone alone (R90 step 3). -/
theorem overlayRoleOf_read {kind : ZoneKind} {role : Byte} (coded : kind = .overlay → role.toNat < 4) :
    overlayRoleOf kind role = some (if kind = .program then none else roleOf role) := by
  cases kind
  · rfl
  · obtain ⟨r, read⟩ := Option.isSome_iff_exists.mp (roleOf_isSome (coded rfl))
    simp [overlayRoleOf, read]

/-- A STAGE ZONE limits what is out of the ranges of Table 36, the priority of an OVERLAY zone alone (R90). -/
theorem zoneClamped_iff (o : ZoneOperands) (kind : ZoneKind) (stream : Option StreamNo) (cue : Option CueIndex)
    (role : Option Role) :
    zoneClamped o (zoneDescOf o kind stream cue role) = true ↔
      3 < o.rank.toNat ∨ (kind = .overlay ∧ (o.priority.toNat < 1 ∨ 3 < o.priority.toNat))
        ∨ o.primeDepth.toNat < 1 ∨ 96 < o.primeDepth.toNat ∨ o.lead.toNat < 4 ∨ 48 < o.lead.toNat
        ∨ 32767 < o.startLevel.toNat := by
  unfold zoneClamped zoneDescOf
  simp only [Bool.or_eq_true, Bool.and_eq_true, decide_eq_true_eq, beq_iff_eq, rankWritten_eq, priorityWritten_eq,
    clampNat_zero, clampNat_eq (show 1 ≤ 96 by decide), clampNat_eq (show 4 ≤ 48 by decide)]
  cases kind <;> simp only [reduceCtorEq, if_true, if_false, true_and, false_and, or_false,
    false_or] <;> omega

/-- The rank check of STAGE ZONE, against the rank that is written and the active one (R87, R90). -/
theorem stageZone_ranked {d : Header} {s : State} (h : s.Listening) {o : ZoneOperands} {z : ZoneNo}
    (zone : o.zone = operandOf z) (stream : o.stream.toNat < 16 ∨ o.stream = 0xFF)
    (cue : o.cueEntry.toNat < 512 ∨ o.cueEntry = 0xFFFF) :
    (d.rank.toNat ≤ min 3 o.rank.toNat ∧ s.ZoneAdmits d z →
      stageZone d o s = stageZoneChecked d o z
        (if o.stream = 0xFF then none else some (Fin.ofNat 16 o.stream.toNat))
        (if o.cueEntry = 0xFFFF then none else some (BitVec.ofNat 9 o.cueEntry.toNat)) s)
    ∧ (¬ (d.rank.toNat ≤ min 3 o.rank.toNat ∧ s.ZoneAdmits d z) →
      stageZone d o s = s.answered 0x30 d .rank []) := by
  have ranked : (s.zoneRank d z && Header.within d (rankWritten o.rank)) = true ↔
      d.rank.toNat ≤ min 3 o.rank.toNat ∧ s.ZoneAdmits d z := by
    rw [Bool.and_eq_true, zoneRank_iff, Header.within, decide_eq_true_iff, rankWritten_eq, and_comm]
  unfold stageZone
  rw [zone, zoneIndex_operandOf, optStreamIndex_read stream, optCueIndex_read cue, h.reply 0x30 d .rank]
  exact ⟨fun passed => if_pos (ranked.mpr passed), fun failed => if_neg (mt ranked.mp failed)⟩

theorem stageZoneChecked_taken {d : Header} {s : State} (h : s.Listening) {o : ZoneOperands} {kind : ZoneKind}
    (coded : o.kind = BitVec.ofNat 8 kind.code) (role : kind = .overlay → o.overlayRole.toNat < 4)
    (free : s.plan.swapPending = false) (z : ZoneNo) (stream : Option StreamNo) (cue : Option CueIndex) :
    let w := zoneDescOf o kind stream cue (if kind = .program then none else roleOf o.overlayRole)
    stageZoneChecked d o z stream cue s =
      writeStagedZone z w (s.answered 0x30 d (takenStatus (zoneClamped o w)) []) := by
  rw [stageZoneChecked, coded, zoneKindOf_code]
  simp only [overlayRoleOf_read role, free, h.reply]
  rfl

theorem stageSpeaker_taken {d : Header} {s : State} (h : s.Listening) {o : SpeakerOperands} {sp : SpeakerNo}
    {role : Role} (speaker : o.speaker = operandOf sp) (zone : o.plannedZone.toNat < 8 ∨ o.plannedZone = 0xFF)
    (coded : o.role = BitVec.ofNat 8 role.code) (valid : validAddress o.address = true)
    (admits : s.SpeakerAdmits d sp) (rank : d.rank.toNat ≤ min 3 o.rank.toNat)
    (free : s.plan.swapPending = false) :
    stageSpeaker d o s =
      writeStagedSpeaker sp
        (speakerDescOf o (if o.plannedZone = 0xFF then none else some (Fin.ofNat 8 o.plannedZone.toNat)) role)
        (s.answered 0x31 d (if 3 < o.rank.toNat then .clamped else .ok) []) := by
  have clamped : decide (rankWritten o.rank ≠ o.rank.toNat) = true ↔ 3 < o.rank.toNat := by
    rw [decide_eq_true_iff, rankWritten_eq]
    omega
  have ranked : (s.speakerRank d sp && Header.within d (rankWritten o.rank)) = true := by
    simpa [speakerRank_iff.mpr admits, Header.within, rankWritten_eq] using rank
  unfold stageSpeaker stageSpeakerChecked
  rw [speaker, speakerIndex_operandOf, optZoneIndex_read zone, coded, roleOf_code]
  simp only [ranked, valid, free, h.reply, takenStatus_of_iff clamped]
  rfl

end Sys2Proof.Machine

open Sys2Proof Sys2Proof.Machine

/-- Settles O39, each directive by what it does once its rank passes. -/
theorem unstageAndSwapTaken : Obligations.UnstageAndSwapTaken := by
  intro s d h
  refine ⟨fun rank => (h.onSource (unstage d)).trans (congrArg _ (unstage_ranked h rank)), fun zones speakers => ?_,
    fun outranked => ?_⟩
  · exact (h.onSource (requestSwap d)).trans (congrArg _ (requestSwap_ranked h (swapRank_iff.mpr ⟨zones, speakers⟩)))
  · refine h.answers (requestSwap_outranked h fun passes => ?_)
    obtain ⟨zones, speakers⟩ := swapRank_iff.mp passes
    rcases outranked with ⟨z, changed, fails⟩ | ⟨sp, changed, fails⟩
    · exact fails (zones z changed)
    · exact fails (speakers sp changed)

/-- Settles O38: the checks passed one by one, then the descriptor written after the reply. -/
theorem descriptorsStaged : Obligations.DescriptorsStaged := by
  refine ⟨fun s d o z kind h zone coded stream cue role admits rank free => ?_,
    fun s d o sp role h speaker zone coded least most admits rank free => ?_⟩
  · refine (h.onSource (stageZone d o)).trans (congrArg _ ?_)
    rw [(stageZone_ranked h zone stream cue).1 ⟨rank, admits⟩, stageZoneChecked_taken h coded role free,
      takenStatus_of_iff (zoneClamped_iff _ _ _ _ _)]
    simp only [zoneDescOf, rankWritten_eq, priorityWritten_eq, membersWritten_eq, clampNat_zero,
      clampNat_eq (show 1 ≤ 96 by decide), clampNat_eq (show 4 ≤ 48 by decide)]
    rfl
  · have valid : validAddress o.address = true := (validAddress_iff _).mpr
      ⟨fun zero => by rw [zero] at least; exact absurd least (by decide),
        fun last => by rw [last] at most; exact absurd most (by decide)⟩
    refine (h.onSource (stageSpeaker d o)).trans (congrArg _ ?_)
    rw [stageSpeaker_taken h speaker zone coded valid admits rank free, speakerDescOf, rankWritten_eq]
    rfl
end

section
/-! POLL ACCESSED on a part that listens (R89). -/

namespace Sys2Proof.Machine

open Sys2Proof

/-- A POLL ACCESSED reads a present speaker at or above its rank. -/
def State.pollReads (s : State) (d : Header) (sp : SpeakerNo) : Bool :=
  (s.activeSpeaker sp).present && decide (d.rank.toNat ≤ (s.activeSpeaker sp).rank)

theorem State.polled_eq (s : State) (d : Header) : s.polled d = allSpeakers.filter (s.pollReads d) := by
  rw [State.polled, State.presentSpeakers, List.filter_filter]
  exact List.filter_congr fun _ _ => Bool.and_comm _ _

theorem State.mem_polled {s : State} {d : Header} {sp : SpeakerNo} :
    sp ∈ s.polled d ↔ s.pollReads d sp = true := by
  rw [s.polled_eq, List.mem_filter]
  exact and_iff_right (mem_allSpeakers sp)

/-- Clearing the flags of a list of speakers writes the accessed flags alone. -/
theorem forEach_clearAccessed (l : List SpeakerNo) (s : State) :
    ∃ flags, s.forEach l (fun sp u => u.setAccessed sp false) = { s with plan := { s.plan with accessed := flags } }
      ∧ ∀ sp, tblGet flags sp = (!decide (sp ∈ l) && tblGet s.plan.accessed sp) := by
  induction l generalizing s with
  | nil => exact ⟨s.plan.accessed, rfl, fun _ => by simp⟩
  | cons a l ih =>
    obtain ⟨flags, cleared, each⟩ := ih (s.setAccessed a false)
    refine ⟨flags, cleared, fun sp => ?_⟩
    rw [each, State.accessed_setAccessed]
    by_cases here : a = sp
    · simp [here]
    · simp [here, Ne.symm here]

end Sys2Proof.Machine

open Sys2Proof Sys2Proof.Machine

/-- Settles O42: the poll reads the present speakers at or above its rank, and clearing a list of
flags touches no other flag. -/
theorem accessedPolled : Obligations.AccessedPolled := by
  intro s d h read
  obtain ⟨flags, cleared, each⟩ := forEach_clearAccessed (s.polled d)
    (s.answered 0x44 d .ok [speakerBits fun sp => read sp && s.accessedFlag sp])
  refine ⟨flags, (h.onSource (pollAccessed d)).trans (congrArg _ ?_), fun sp => ?_⟩
  · have flagged : f3 (speakerSet ((s.polled d).filter s.accessedFlag)) =
        speakerBits fun sp => read sp && s.accessedFlag sp := by
      rw [s.polled_eq, List.filter_filter, speakerSet_eq_speakerBits]
      exact congrArg speakerBits (funext fun sp => Bool.and_comm _ _)
    unfold pollAccessed
    simp only [h.reply, flagged]
    exact cleared
  · have member : decide (sp ∈ s.polled d) = s.pollReads d sp := by
      rw [Bool.eq_iff_iff, decide_eq_true_iff]
      exact State.mem_polled
    rw [each, member]
    rfl

end

section
/-! The directives of a zone that are refused (R87, R90, R108 to R110, R121, R133, R166 to R168, R191). -/

namespace Sys2Proof.Machine

open Sys2Proof

/-! ### Operands out of range, and codes of nothing -/

theorem zoneIndex_outside {zone : Byte} (h : 8 ≤ zone.toNat) : zoneIndex zone = none := by
  simp [zoneIndex, h]

/-- A zone operand in range names a zone. -/
theorem zoneOperand_named {b : Byte} (h : b.toNat < 8) : ∃ z : ZoneNo, b = operandOf z :=
  ⟨⟨b.toNat, h⟩, (BitVec.ofNat_toNat 8 b).symm⟩

theorem zoneOperand_inj {a b : ZoneNo} (h : operandOf a = operandOf b) : a = b := by
  simpa using congrArg zoneIndex h

theorem optStreamIndex_outside {b : Byte} (h : ¬ (b.toNat < 16 ∨ b = 0xFF)) : optStreamIndex b = none := by
  obtain ⟨range, other⟩ := not_or.mp h
  rw [optStreamIndex, if_neg other, streamIndex, dif_neg range]
  rfl

theorem cueIndex_outside {v : BitVec 16} (h : 512 ≤ v.toNat) : cueIndex v = none := if_neg (not_lt.mpr h)

theorem optCueIndex_outside {v : BitVec 16} (h : ¬ (v.toNat < 512 ∨ v = 0xFFFF)) : optCueIndex v = none := by
  obtain ⟨range, other⟩ := not_or.mp h
  rw [optCueIndex, if_neg other, cueIndex_outside (not_lt.mp range)]
  rfl

theorem stopModeOf_outside {mode : Byte} (h : 2 ≤ mode.toNat) : stopModeOf mode = none := by
  unfold stopModeOf
  split <;> first | omega | rfl

/-- The code of a zone kind, read back. -/
theorem zoneKindOf_eq_some {code : Byte} {kind : ZoneKind} (h : zoneKindOf code = some kind) :
    code = BitVec.ofNat 8 kind.code := by
  unfold zoneKindOf at h
  split at h <;> first | (cases h; exact BitVec.eq_of_toNat_eq ‹_›) | cases h

/-! ### The checks that the directives of a zone share -/

/-- Why a directive of a zone is refused before the rule of its own: the zone's number is out of range, the
directive is above the zone's rank, or the zone is absent (R87, R121). -/
inductive ZoneRefusal (s : State) (d : Header) (zone : Byte) : Status → Prop where
  | index : 8 ≤ zone.toNat → ZoneRefusal s d zone .index
  | rank (z : ZoneNo) : zone = operandOf z → ¬ s.ZoneAdmits d z → ZoneRefusal s d zone .rank
  | absent (z : ZoneNo) : zone = operandOf z → (s.activeZone z).present = false → ZoneRefusal s d zone .absent

theorem ZoneRefusal.outranked {s : State} {d : Header} {z : ZoneNo} (present : (s.activeZone z).present = true)
    (below : (s.activeZone z).rank < d.rank.toNat) : ZoneRefusal s d (operandOf z) .rank :=
  .rank z rfl fun admits => (admits present).not_gt below

/-- An absent zone passes every rank check (R87). -/
theorem State.zoneAdmits_of_absent {s : State} {z : ZoneNo} (d : Header)
    (absent : (s.activeZone z).present = false) : s.ZoneAdmits d z := fun present => by simp [absent] at present

section
variable {d : Header} {s : State} (h : s.Listening) {zone : Byte} {status : Status}
include h

theorem onPresentZone_refused (refusal : ZoneRefusal s d zone status) (kind : Byte) (work : ZoneNo → State) :
    onPresentZone kind d (zoneIndex zone) s work = s.answered kind d status [] := by
  rw [← h.reply]
  cases refusal with
  | index outside => rw [zoneIndex_outside outside, onPresentZone]
  | rank z named outranked =>
    have failed : ¬ s.zoneRank d z = true := mt zoneRank_iff.mp outranked
    rw [named, zoneIndex_operandOf]
    exact if_pos (by simpa using failed)
  | absent z named absent =>
    have passed := zoneRank_iff.mpr (State.zoneAdmits_of_absent d absent)
    rw [named, zoneIndex_operandOf]
    exact (if_neg (by simp [passed])).trans (if_pos (by simp [absent]))

/-! ### START, CUE GO and the directives with these checks alone -/

theorem startDirective_status {z : ZoneNo} (admits : s.ZoneAdmits d z) (why : startRefusal z s = some status) :
    startDirective d (operandOf z) s = s.answered 0x40 d status [] := by
  rw [startDirective, zoneIndex_operandOf, ← h.reply]
  refine (if_neg (by simp [zoneRank_of_admits admits])).trans ?_
  rw [why]

theorem startDirective_refused (refusal : ZoneRefusal s d zone status) :
    startDirective d zone s = s.answered 0x40 d status [] := by
  cases refusal with
  | index outside => rw [startDirective, zoneIndex_outside outside, h.reply]
  | rank z named outranked =>
    have failed : ¬ s.zoneRank d z = true := mt zoneRank_iff.mp outranked
    rw [startDirective, named, zoneIndex_operandOf, ← h.reply]
    exact if_pos (by simpa using failed)
  | absent z named absent =>
    subst named
    exact startDirective_status h (State.zoneAdmits_of_absent d absent)
      (startRefusal_absent fun bound => by simp [absent] at bound)

theorem cueGo_index {index : BitVec 16} (outside : 512 ≤ index.toNat) :
    cueGo d zone index s = s.answered 0x61 d .index [] := by
  have unread : cueGoOperands zone index = none := by
    rw [cueGoOperands, cueIndex_outside outside]
    cases zoneIndex zone <;> rfl
  rw [cueGo, unread, h.reply]

theorem cueGo_refused (refusal : ZoneRefusal s d zone status) {index : BitVec 16} (range : index.toNat < 512) :
    cueGo d zone index s = s.answered 0x61 d status [] := by
  rw [← onPresentZone_refused h refusal 0x61 fun z =>
      (reply 0x61 d .ok [] s).modCueRun z fun c => { c with pointer := BitVec.ofNat 9 index.toNat, status := .running },
    cueGo, cueGoOperands, cueIndex, if_pos range]
  cases zoneIndex zone <;> rfl

/-- The directives that act on a present zone reply the refusal and do nothing else. -/
theorem presentZoneDirectives_refused (refusal : ZoneRefusal s d zone status) (a b : BitVec 16)
    (range : a.toNat < 512) :
    ∀ p ∈ [(Instr.startZone d zone, (0x40 : Byte)), (.setLevel d zone a b, 0x42),
        (.armTap d zone, 0x70), (.cueGo d zone a, 0x61), (.cueHalt d zone, 0x62),
        (.cueResume d zone, 0x63), (.setPrescale d zone b, 0x64)],
      exec p.1 s = .next (s.answered p.2 d status []) := by
  have shared := onPresentZone_refused h refusal
  simp only [List.forall_mem_cons]
  exact ⟨h.answers (startDirective_refused h refusal), h.answers (shared _ _), h.answers (shared _ _),
    h.answers (cueGo_refused h refusal range), h.answers (shared _ _), h.answers (shared _ _),
    h.answers (shared _ _), List.forall_mem_nil _⟩

/-! ### STOP, DISARM TAP and QUERY ZONE -/

theorem stopZone_index (outside : 8 ≤ zone.toNat) (mode : Byte) :
    stopZone d zone mode s = s.answered 0x41 d .index [] := by
  rw [stopZone, zoneIndex_outside outside, h.reply]

theorem stopZone_value (z : ZoneNo) {mode : Byte} (outside : 2 ≤ mode.toNat) :
    stopZone d (operandOf z) mode s = s.answered 0x41 d .value [] := by
  rw [stopZone, zoneIndex_operandOf, stopModeOf_outside outside, ← h.reply]

theorem stopZone_rank {z : ZoneNo} (outranked : ¬ s.ZoneAdmits d z) {mode : Byte} {hard : Bool}
    (coded : stopModeOf mode = some hard) : stopZone d (operandOf z) mode s = s.answered 0x41 d .rank [] := by
  have failed : ¬ s.zoneRank d z = true := mt zoneRank_iff.mp outranked
  rw [stopZone, zoneIndex_operandOf, coded, ← h.reply]
  exact if_pos (by simpa using failed)

theorem disarmTap_index (outside : 8 ≤ zone.toNat) : disarmTap d zone s = s.answered 0x71 d .index [] := by
  rw [disarmTap, zoneIndex_outside outside, h.reply]

theorem disarmTap_rank {z : ZoneNo} (outranked : ¬ s.ZoneAdmits d z) :
    disarmTap d (operandOf z) s = s.answered 0x71 d .rank [] := by
  have failed : ¬ s.zoneRank d z = true := mt zoneRank_iff.mp outranked
  rw [disarmTap, zoneIndex_operandOf, ← h.reply]
  exact if_pos (by simpa using failed)

/-- A tap that serves another zone is not disarmed (R133). -/
theorem disarmTap_busy {z y : ZoneNo} (admits : s.ZoneAdmits d z) (other : y ≠ z)
    (serves : s.playout.tap.state = .armed y ∨ s.playout.tap.state = .active y) :
    disarmTap d (operandOf z) s = s.answered 0x71 d .busy [] := by
  have zone : s.playout.tap.state.zone = some y := by rcases serves with tap | tap <;> rw [tap] <;> rfl
  rw [disarmTap, zoneIndex_operandOf, ← h.reply]
  refine (if_neg (by simp [zoneRank_of_admits admits])).trans ?_
  rw [zone]
  exact if_neg other

theorem queryZone_index (outside : 8 ≤ zone.toNat) : queryZone d zone s = s.answered 0x34 d .index [] := by
  rw [queryZone, zoneIndex_outside outside, h.reply]

theorem armTap_busy {z : ZoneNo} (admits : s.ZoneAdmits d z) (present : (s.activeZone z).present = true)
    (used : s.playout.tap.state ≠ .disarmed) : armTap d (operandOf z) s = s.answered 0x70 d .busy [] := by
  rw [armTap, zoneIndex_operandOf, ← h.reply]
  exact (if_neg (by simp [zoneRank_of_admits admits])).trans ((if_neg (by simp [present])).trans (if_neg used))

/-! ### STAGE ZONE (R90) -/

variable {o : ZoneOperands}

theorem stageZone_index
    (outside : ¬ (o.zone.toNat < 8 ∧ (o.stream.toNat < 16 ∨ o.stream = 0xFF)
      ∧ (o.cueEntry.toNat < 512 ∨ o.cueEntry = 0xFFFF))) :
    stageZone d o s = s.answered 0x30 d .index [] := by
  rw [stageZone, ← h.reply]
  split
  case h_1 z stream cue zoned streamed cued =>
    refine absurd ⟨?_, ?_, ?_⟩ outside <;> by_contra range
    · simp [zoneIndex_outside (not_lt.mp range)] at zoned
    · simp [optStreamIndex_outside range] at streamed
    · simp [optCueIndex_outside range] at cued
  case h_2 => rfl

variable {z : ZoneNo} (stream : Option StreamNo) (cue : Option CueIndex)

/-- A kind of no code, or an OVERLAY role of no code (R90 step 3). -/
theorem stageZoneChecked_value (unfit : ¬ (o.kind = 0 ∨ (o.kind = 1 ∧ o.overlayRole.toNat < 4))) :
    stageZoneChecked d o z stream cue s = s.answered 0x30 d .value [] := by
  rw [stageZoneChecked, ← h.reply]
  rcases coded : zoneKindOf o.kind with _ | kind
  · rfl
  · have code := zoneKindOf_eq_some coded
    cases kind with
    | program => exact absurd (.inl code) unfit
    | overlay =>
      have role : ¬ o.overlayRole.toNat < 4 := fun role => unfit (.inr ⟨code, role⟩)
      simp [overlayRoleOf, roleOf_outside role]

theorem stageZoneChecked_busy (fit : o.kind = 0 ∨ (o.kind = 1 ∧ o.overlayRole.toNat < 4))
    (pending : s.plan.swapPending = true) :
    stageZoneChecked d o z stream cue s = s.answered 0x30 d .busy [] := by
  have coded : ∃ kind role, zoneKindOf o.kind = some kind ∧ overlayRoleOf kind o.overlayRole = some role := by
    rcases fit with code | ⟨code, role⟩
    · exact ⟨.program, none, code ▸ rfl, rfl⟩
    · exact ⟨.overlay, _, code ▸ rfl, overlayRoleOf_read fun _ => role⟩
  obtain ⟨kind, role, kinded, roled⟩ := coded
  rw [stageZoneChecked, kinded, ← h.reply]
  simp only [roled]
  exact if_pos pending

end

end Sys2Proof.Machine

open Sys2Proof Sys2Proof.Machine

/-- Settles O20: the checks that the directives of a zone share, then those of each directive's own rule. -/
theorem zoneDirectivesRefused : Obligations.ZoneDirectivesRefused := by
  intro s d a b h range refused refusedToo
  have shared {zone : Byte} {status : Status} (refusal : ZoneRefusal s d zone status) : refused zone status :=
    presentZoneDirectives_refused h refusal a b range
  refine ⟨fun zone outside => ⟨shared (.index outside), ?index, h.answers (queryZone_index h outside)⟩,
    fun z present below => ⟨shared (.outranked present below), ?rank⟩, fun z absent => shared (.absent z rfl absent),
    fun z present admits => ?own, fun z y admits other serves => h.answers (disarmTap_busy h admits other serves),
    fun z mode outside => h.answers (stopZone_value h z outside),
    fun zone index outside => h.answers (cueGo_index h outside), fun o => ?stage⟩
  case index =>
    simp only [refusedToo, List.forall_mem_cons]
    exact ⟨h.answers (stopZone_index h outside 0), h.answers (stopZone_index h outside 1),
      h.answers (disarmTap_index h outside), List.forall_mem_nil _⟩
  case rank =>
    have outranked : ¬ s.ZoneAdmits d z := fun admits => (admits present).not_gt below
    simp only [refusedToo, List.forall_mem_cons]
    exact ⟨h.answers (stopZone_rank h outranked (hard := false) rfl),
      h.answers (stopZone_rank h outranked (hard := true) rfl), h.answers (disarmTap_rank h outranked),
      List.forall_mem_nil _⟩
  case own =>
    refine ⟨fun unbound => ?_, fun st stream open_ moving => ?_,
      fun used => h.answers (armTap_busy h admits present used)⟩
    · refine h.answers (startDirective_status h admits (startRefusal_absent ?_))
      rintro ⟨-, st, stream, open_⟩
      simp [unbound st stream] at open_
    · refine h.answers (startDirective_status h admits ?_)
      rw [startRefusal_bound present ⟨st, stream, open_⟩, if_pos moving]
  case stage =>
    intro inRange admitted coded reply
    refine ⟨fun outside => h.answers (stageZone_index h outside), ?_⟩
    suffices judged : inRange → (¬ admitted → reply .rank)
        ∧ (admitted → (¬ coded → reply .value) ∧ (coded → s.plan.swapPending = true → reply .busy)) from
      ⟨fun range => (judged range).1, fun range rank => ((judged range).2 rank).1,
        fun range rank => ((judged range).2 rank).2⟩
    rintro ⟨zone, stream, cue⟩
    obtain ⟨z, zone⟩ := zoneOperand_named zone
    obtain ⟨taken, refused⟩ := stageZone_ranked h (d := d) zone stream cue
    have admits : admitted ↔ d.rank.toNat ≤ min 3 o.rank.toNat ∧ s.ZoneAdmits d z :=
      and_congr_right fun _ => ⟨fun all => all z zone,
        fun active _ same => zoneOperand_inj (zone.symm.trans same) ▸ active⟩
    have checked (rank : admitted) := taken (admits.mp rank)
    exact ⟨fun failed => h.answers (refused (mt admits.mpr failed)),
      fun rank => ⟨fun unfit => h.answers ((checked rank).trans (stageZoneChecked_value h _ _ unfit)),
        fun fit pending => h.answers ((checked rank).trans (stageZoneChecked_busy h _ _ fit pending))⟩⟩
end

section
/-! The objects above which a directive's rank is, and which it does not reach (R87, R110, R191). -/

namespace Sys2Proof.Machine

open Sys2Proof

/-! ### What an operation leaves of a zone and of a speaker -/

/-- A zone's runtime state, its cue program and its descriptors stand. -/
def ZoneStands (z : ZoneNo) (s t : State) : Prop :=
  t.zone z = s.zone z ∧ t.cueRun z = s.cueRun z ∧ t.activeZone z = s.activeZone z
    ∧ t.plan.staged.zone z = s.plan.staged.zone z

/-- A speaker's trims, tracker entry, accessed flag and descriptors stand. -/
def SpeakerStands (sp : SpeakerNo) (s t : State) : Prop :=
  t.trim sp = s.trim sp ∧ t.entry (speakerEntry sp) = s.entry (speakerEntry sp)
    ∧ t.accessedFlag sp = s.accessedFlag sp ∧ t.activeSpeaker sp = s.activeSpeaker sp
    ∧ t.plan.staged.speaker sp = s.plan.staged.speaker sp

theorem ZoneStands.trans {z : ZoneNo} {s t u : State} (h : ZoneStands z s t) (k : ZoneStands z t u) :
    ZoneStands z s u := by
  obtain ⟨zone, run, active, staged⟩ := h
  obtain ⟨zone', run', active', staged'⟩ := k
  exact ⟨zone'.trans zone, run'.trans run, active'.trans active, staged'.trans staged⟩

theorem SpeakerStands.trans {sp : SpeakerNo} {s t u : State} (h : SpeakerStands sp s t) (k : SpeakerStands sp t u) :
    SpeakerStands sp s u := by
  obtain ⟨trim, entry, flag, active, staged⟩ := h
  obtain ⟨trim', entry', flag', active', staged'⟩ := k
  exact ⟨trim'.trans trim, entry'.trans entry, flag'.trans flag, active'.trans active, staged'.trans staged⟩

/-- The zones and the speakers of the two kinds stand. -/
structure Spares (zones : ZoneNo → Prop) (speakers : SpeakerNo → Prop) (s t : State) : Prop where
  zone : ∀ z, zones z → ZoneStands z s t
  speaker : ∀ sp, speakers sp → SpeakerStands sp s t

/-- Every zone but one stands, and every speaker. -/
abbrev ZoneAlone (z : ZoneNo) : State → State → Prop := Spares (· ≠ z) fun _ => True

/-- Every speaker but one stands, and every zone. -/
abbrev SpeakerAlone (sp : SpeakerNo) : State → State → Prop := Spares (fun _ => True) (· ≠ sp)

/-- The zones and speakers that a header's rank does not reach stand. -/
abbrev Shielded (d : Header) (s : State) : State → Prop :=
  Spares (fun z => ¬ s.ZoneAdmits d z) (fun sp => ¬ s.SpeakerAdmits d sp) s

section
variable {zones : ZoneNo → Prop} {speakers : SpeakerNo → Prop} {s t u : State}

theorem Spares.trans (h : Spares zones speakers s t) (k : Spares zones speakers t u) : Spares zones speakers s u :=
  ⟨fun z hz => (h.zone z hz).trans (k.zone z hz), fun sp hs => (h.speaker sp hs).trans (k.speaker sp hs)⟩

/-- What differs in none of the parts that a zone or a speaker has here spares them all. -/
theorem Only.spares {m : List Part} (h : Only m s t) (zone : m.contains .zones = false := by decide)
    (runs : m.contains .cueRuns = false := by decide) (active : m.contains .active = false := by decide)
    (staged : m.contains .staged = false := by decide) (trims : m.contains .trims = false := by decide)
    (entries : m.contains .entries = false := by decide) (accessed : m.contains .accessed = false := by decide) :
    Spares zones speakers s t where
  zone z _ := ⟨h.zone_eq zone z, congrArg (tblGet · z) (h.same .cueRuns runs),
    congrArg (Bank.zone · z) (h.same .active active), congrArg (Bank.zone · z) (h.same .staged staged)⟩
  speaker sp _ := ⟨congrArg (tblGet · sp) (h.same .trims trims), h.entry_eq entries _,
    congrArg (tblGet · sp) (h.same .accessed accessed), congrArg (Bank.speaker · sp) (h.same .active active),
    congrArg (Bank.speaker · sp) (h.same .staged staged)⟩

theorem Spares.refl (s : State) : Spares zones speakers s s := (Only.refl [] s).spares

theorem Spares.reply (kind : Byte) (d : Header) (status : Status) (payload : List Field) (s : State) :
    Spares zones speakers s (reply kind d status payload s) := (Only.reply kind d status payload s).spares

variable {d : Header}

/-- A directive may act on one zone that its rank reaches. -/
theorem Shielded.ofZone {z : ZoneNo} (h : ZoneAlone z s t) (admits : s.zoneRank d z = true) : Shielded d s t where
  zone y outranked := h.zone y fun same => outranked (same ▸ zoneRank_iff.mp admits)
  speaker sp _ := h.speaker sp trivial

theorem Shielded.ofSpeaker {sp : SpeakerNo} (h : SpeakerAlone sp s t)
    (admits : s.speakerRank d sp = true) : Shielded d s t where
  zone z _ := h.zone z trivial
  speaker o outranked := h.speaker o fun same => outranked (same ▸ speakerRank_iff.mp admits)

/-- At rank 0 there is nothing to shield. -/
theorem Shielded.of_rankZero (rank : d.rank = 0) : Shielded d s t where
  zone _ outranked := absurd (fun _ => rank ▸ Nat.zero_le _) outranked
  speaker _ outranked := absurd (fun _ => rank ▸ Nat.zero_le _) outranked

/-- A directive that rank 0 alone may give shields every object: it is refused, or at rank 0. -/
theorem Shielded.ranked (kind : Byte) (s t : State) :
    Shielded d s (if !Header.rankZero d then Machine.reply kind d .rank [] s else t) := by
  split
  · exact Spares.reply _ _ _ _ s
  case isFalse rank => exact .of_rankZero ((rankZero_iff d).mp (by simpa using rank))

end

/-! ### What acts on one zone or one speaker alone -/

section
variable {z : ZoneNo} {sp : SpeakerNo} (s : State)

theorem ZoneAlone.modZone (f : ZoneRun → ZoneRun) : ZoneAlone z s (s.modZone z f) where
  zone y other := ⟨(s.zone_modZone z y f).trans (if_neg (Ne.symm other)), rfl, rfl, rfl⟩
  speaker _ _ := ⟨rfl, rfl, rfl, rfl, rfl⟩

theorem ZoneAlone.modCueRun (f : CueRun → CueRun) : ZoneAlone z s (s.modCueRun z f) where
  zone y other := ⟨rfl, (s.cueRun_modCueRun z y f).trans (if_neg (Ne.symm other)), rfl, rfl⟩
  speaker _ _ := ⟨rfl, rfl, rfl, rfl, rfl⟩

theorem ZoneAlone.writeStagedZone (w : ZoneDesc) : ZoneAlone z s (writeStagedZone z w s) where
  zone _ other := ⟨rfl, rfl, rfl, tblGet_tblSet_other _ w (Ne.symm other)⟩
  speaker _ _ := ⟨rfl, rfl, rfl, rfl, rfl⟩

theorem ZoneAlone.startZone : ZoneAlone z s (startZone z s) :=
  (ZoneAlone.modZone s _).trans (ZoneAlone.modCueRun _ _)

/-- What leaves the other zones' runtime state, and changes what a STOP may, acts on its zone alone. -/
theorem ZoneAlone.of_zoneParts {s t : State} (only : Only zoneParts s t) (elsewhere : Elsewhere z s t) :
    ZoneAlone z s t where
  zone y other := ⟨elsewhere y other, congrArg (tblGet · y) (only.same .cueRuns rfl),
    congrArg (Bank.zone · y) (only.same .active rfl), congrArg (Bank.zone · y) (only.same .staged rfl)⟩
  speaker _ _ := ⟨congrArg (tblGet · _) (only.same .trims rfl), only.entry_eq rfl _,
    congrArg (tblGet · _) (only.same .accessed rfl), congrArg (Bank.speaker · _) (only.same .active rfl),
    congrArg (Bank.speaker · _) (only.same .staged rfl)⟩

theorem ZoneAlone.softStop : ZoneAlone z s (softStop z s) :=
  .of_zoneParts (Only.softStop z s) ((Elsewhere.stops z).softStop s)

theorem ZoneAlone.hardStop : ZoneAlone z s (hardStop z s) :=
  .of_zoneParts (Only.hardStop z s) ((Elsewhere.stops z).hardStop s)

theorem SpeakerAlone.modEntry (f : TrackerEntry → TrackerEntry) :
    SpeakerAlone sp s (s.modEntry (speakerEntry sp) f) where
  zone _ _ := ⟨rfl, rfl, rfl, rfl⟩
  speaker _ other := ⟨rfl, (s.entry_modEntry _ _ f).trans (if_neg fun same =>
    other (speakerEntry_injective same).symm), rfl, rfl, rfl⟩

theorem SpeakerAlone.writeStagedSpeaker (w : SpeakerDesc) : SpeakerAlone sp s (writeStagedSpeaker sp w s) where
  zone _ _ := ⟨rfl, rfl, rfl, rfl⟩
  speaker _ other := ⟨rfl, rfl, rfl, rfl, tblGet_tblSet_other _ w (Ne.symm other)⟩

theorem SpeakerAlone.writeTrim (t : Trim) : SpeakerAlone sp s (writeTrim sp t s) := by
  have written : SpeakerAlone sp s (s.modPlan fun p => { p with trims := tblSet p.trims sp t }) :=
    ⟨fun _ _ => ⟨rfl, rfl, rfl, rfl⟩, fun _ other => ⟨tblGet_tblSet_other _ t (Ne.symm other), rfl, rfl, rfl, rfl⟩⟩
  unfold Machine.writeTrim
  simp only []
  split
  · exact written.trans (Only.setRampPending sp _).spares
  · exact written

end

/-! ### The directives -/

section
variable (d : Header) (s : State)

theorem Shielded.stageZone (o : ZoneOperands) : Shielded d s (stageZone d o s) := by
  have replied (status) : Shielded d s (reply 0x30 d status [] s) := .reply _ _ _ _ s
  unfold Machine.stageZone stageZoneChecked
  split
  · split
    case isTrue ranked =>
      obtain ⟨admits, -⟩ := Bool.and_eq_true_iff.mp ranked
      split
      · exact replied _
      · split
        · exact replied _
        · split
          · exact replied _
          · exact .ofZone ((Spares.reply _ _ _ _ s).trans (ZoneAlone.writeStagedZone _ _)) admits
    · exact replied _
  · exact replied _

theorem Shielded.stageSpeaker (o : SpeakerOperands) : Shielded d s (stageSpeaker d o s) := by
  have replied (status) : Shielded d s (reply 0x31 d status [] s) := .reply _ _ _ _ s
  unfold Machine.stageSpeaker stageSpeakerChecked
  split
  · split
    case isTrue ranked =>
      obtain ⟨admits, -⟩ := Bool.and_eq_true_iff.mp ranked
      split
      · exact replied _
      · split
        · exact replied _
        · split
          · exact replied _
          · exact .ofSpeaker ((Spares.reply _ _ _ _ s).trans (SpeakerAlone.writeStagedSpeaker _ _)) admits
    · exact replied _
  · exact replied _

theorem Shielded.requestSwap : Shielded d s (requestSwap d s) := by
  have replied (status) : Shielded d s (reply 0x33 d status [] s) := .reply _ _ _ _ s
  unfold Machine.requestSwap
  split
  · exact replied _
  · split
    · exact replied _
    · exact (replied _).trans (Only.modPlan_swap _ _).spares

theorem Shielded.startDirective (zone : Byte) : Shielded d s (startDirective d zone s) := by
  have replied (status) : Shielded d s (reply 0x40 d status [] s) := .reply _ _ _ _ s
  unfold Machine.startDirective
  split
  · exact replied _
  · split
    · exact replied _
    case isFalse admits =>
      split
      · exact replied _
      · exact .ofZone ((Spares.reply _ _ _ _ s).trans (ZoneAlone.startZone _)) (by simpa using admits)

theorem Shielded.stopZone (zone mode : Byte) : Shielded d s (stopZone d zone mode s) := by
  have replied (status) : Shielded d s (reply 0x41 d status [] s) := .reply _ _ _ _ s
  unfold Machine.stopZone
  split
  · exact replied _
  · split
    · exact replied _
    · split
      · exact replied _
      case isFalse admits =>
        refine .ofZone ?_ (by simpa using admits)
        split
        · exact (Spares.reply _ _ _ _ s).trans (ZoneAlone.hardStop _)
        · exact (Spares.reply _ _ _ _ s).trans (ZoneAlone.softStop _)

/-- The directives of a present zone act on it once its rank is checked (R87, R121). -/
theorem Shielded.onPresentZone (kind : Byte) (zone : Option ZoneNo) {work : ZoneNo → State}
    (alone : ∀ z, ZoneAlone z s (work z)) : Shielded d s (onPresentZone kind d zone s work) := by
  unfold Machine.onPresentZone
  split
  · exact .reply _ _ _ _ s
  · split
    · exact .reply _ _ _ _ s
    case isFalse admits =>
      split
      · exact .reply _ _ _ _ s
      · exact .ofZone (alone _) (by simpa using admits)

theorem Shielded.cueGo (zone : Byte) (index : BitVec 16) : Shielded d s (cueGo d zone index s) := by
  unfold Machine.cueGo
  split
  · exact .reply _ _ _ _ s
  · exact Shielded.onPresentZone _ _ _ _ fun _ => (Spares.reply _ _ _ _ s).trans (ZoneAlone.modCueRun _ _)

theorem Shielded.haltOrResume (kind zone : Byte) (status : CueStatus) :
    Shielded d s (haltOrResume kind d zone status s) := by
  refine Shielded.onPresentZone _ _ _ _ fun z => ?_
  simp only []
  split
  iterate 2 exact (Spares.reply _ _ _ _ s).trans (ZoneAlone.modCueRun _ _)
  iterate 2 exact .reply _ _ _ _ s

theorem Shielded.armTap (zone : Byte) : Shielded d s (armTap d zone s) := by
  refine Shielded.onPresentZone _ _ _ _ fun z => ?_
  split
  · exact (Spares.reply _ _ _ _ s).trans (Only.modTap _ _).spares
  · exact .reply _ _ _ _ s

theorem Shielded.disarmTap (zone : Byte) : Shielded d s (disarmTap d zone s) := by
  have replied (status) : Shielded d s (reply 0x71 d status [] s) := .reply _ _ _ _ s
  unfold Machine.disarmTap
  split
  · exact replied _
  · split
    · exact replied _
    · split
      · exact replied _
      · split
        · exact (replied _).trans (Only.endTap _ _).spares
        · exact replied _

theorem Shielded.setTrim (speaker : Byte) (gain : BitVec 16) (delay : BitVec 24) :
    Shielded d s (setTrim d speaker gain delay s) := by
  have replied (status) : Shielded d s (reply 0x43 d status [] s) := .reply _ _ _ _ s
  unfold Machine.setTrim
  split
  · exact replied _
  · split
    · exact replied _
    · split
      · exact replied _
      case isFalse admits =>
        exact .ofSpeaker ((Spares.reply _ _ _ _ s).trans (SpeakerAlone.writeTrim _ _)) (by simpa using admits)

theorem Shielded.resyncSpeaker (speaker : Byte) : Shielded d s (resyncSpeaker d speaker s) := by
  have replied (status) : Shielded d s (reply 0x45 d status [] s) := .reply _ _ _ _ s
  unfold Machine.resyncSpeaker
  split
  · exact replied _
  · split
    · exact replied _
    case isFalse admits =>
      split
      · exact replied _
      · exact .ofSpeaker ((Spares.reply _ _ _ _ s).trans (SpeakerAlone.modEntry _ _)) (by simpa using admits)

/-- A poll clears the flags of the speakers that it may read (R89). -/
theorem Shielded.pollAccessed : Shielded d s (pollAccessed d s) := by
  obtain ⟨flags, cleared, each⟩ := forEach_clearAccessed (s.polled d)
    (reply 0x44 d .ok [f3 (speakerSet ((s.polled d).filter s.accessedFlag))] s)
  refine (Spares.reply 0x44 d .ok [f3 (speakerSet ((s.polled d).filter s.accessedFlag))] s).trans ?_
  unfold Machine.pollAccessed
  rw [cleared]
  refine ⟨fun _ _ => ⟨rfl, rfl, rfl, rfl⟩, fun sp outranked => ⟨rfl, rfl, (each sp).trans ?_, rfl, rfl⟩⟩
  have unread : sp ∉ s.polled d := fun polled => outranked fun _ => by
    obtain ⟨-, rank⟩ := Bool.and_eq_true_iff.mp (State.mem_polled.mp polled)
    exact of_decide_eq_true rank
  rw [decide_eq_false unread]
  rfl

theorem Shielded.writeCues (start : BitVec 16) (words : List CueWord) : Shielded d s (writeCues d start words s) := by
  unfold Machine.writeCues
  split
  · exact (Only.modIntake s _).spares.trans (.reply _ _ _ _ _)
  · split
    · exact .reply _ _ _ _ s
    · exact .ranked _ _ _

theorem Shielded.queryStream (stream : Byte) : Shielded d s (queryStream d stream s) := by
  unfold Machine.queryStream
  split <;> exact .reply _ _ _ _ s

theorem Shielded.queryZone (zone : Byte) : Shielded d s (queryZone d zone s) := by
  unfold Machine.queryZone
  split <;> exact .reply _ _ _ _ s

theorem Shielded.querySpeaker (speaker : Byte) : Shielded d s (querySpeaker d speaker s) := by
  unfold Machine.querySpeaker
  split <;> exact .reply _ _ _ _ s

end

/-- A directive at dispatch shields what its header's rank does not reach. -/
theorem Shielded.dispatch {i : Instr} {kind : Byte} {d : Header} {ops : List Byte}
    (bytes : directiveBytes i = some (kind, d, ops)) (s : State) : Shielded d s (dispatch i s) := by
  cases i <;> cases bytes
  case unknownDirectiveKind => exact .refl s
  case identify => exact .reply _ _ _ _ s
  case queryDevice => exact .reply _ _ _ _ s
  case queryStore => exact .reply _ _ _ _ s
  case queryStream => exact .queryStream d s _
  case queryZone => exact .queryZone d s _
  case querySpeaker => exact .querySpeaker d s _
  case stageZone => exact .stageZone d s _
  case stageSpeaker => exact .stageSpeaker d s _
  case swap => exact .requestSwap d s
  case startZone => exact .startDirective d s _
  case stopZoneSoft => exact .stopZone d s _ _
  case stopZoneHard => exact .stopZone d s _ 1
  case setLevel =>
    exact .onPresentZone d s _ _ fun _ => (Spares.reply _ _ _ _ s).trans (ZoneAlone.modZone _ _)
  case setTrim => exact .setTrim d s _ _ _
  case pollAccessed => exact .pollAccessed d s
  case resyncSpeaker => exact .resyncSpeaker d s _
  case writeCues => exact .writeCues d s _ _
  case cueGo => exact .cueGo d s _ _
  case cueHalt => exact .haltOrResume d s _ _ _
  case cueResume => exact .haltOrResume d s _ _ _
  case setPrescale =>
    exact .onPresentZone d s _ _ fun _ => (Spares.reply _ _ _ _ s).trans (ZoneAlone.modCueRun _ _)
  case armTap => exact .armTap d s _
  case disarmTap => exact .disarmTap d s _
  -- The rest are the directives that rank 0 alone may give (Table 72).
  all_goals exact .ranked _ s _

/-! ### The directive that a raw frame spells -/

/-- The header of a directive. -/
def HeadedBy (d : Header) (i : Instr) : Prop := ∃ kind ops, directiveBytes i = some (kind, d, ops)

section
variable {d : Header} {i : Instr} {ops : List Byte}

theorem operands0_headed (h : HeadedBy d i) : ∀ j ∈ operands0 i ops, HeadedBy d j := by
  unfold operands0
  split <;> simp [h]

theorem operands1_headed {f : Byte → Instr} (h : ∀ a, HeadedBy d (f a)) : ∀ j ∈ operands1 f ops, HeadedBy d j := by
  unfold operands1
  split <;> simp [h]

theorem sized_headed {n : Nat} (h : HeadedBy d i) :
    ∀ j ∈ (if ops.length = n then some i else none), HeadedBy d j := by
  split <;> simp [h]

theorem timebaseDirective_headed (mode : Byte) (tau candidates : BitVec 16) :
    HeadedBy d (timebaseDirective d mode tau candidates) := by
  unfold timebaseDirective
  split <;> exact ⟨_, _, rfl⟩

theorem stopDirective_headed (zone mode : Byte) : HeadedBy d (stopDirective d zone mode) := by
  unfold stopDirective
  split <;> exact ⟨_, _, rfl⟩

theorem parseWriteCues_headed : ∀ j ∈ parseWriteCues d ops, HeadedBy d j := by
  unfold parseWriteCues
  split
  · split
    · split
      · rintro j ⟨⟩
        exact ⟨_, _, rfl⟩
      · simp
    · simp
  · simp

/-- What a frame spells has the frame's header. -/
theorem parseDirective_headed (kind : Byte) : ∀ j ∈ parseDirective kind d ops, HeadedBy d j := by
  unfold parseDirective
  split
  all_goals first
    | exact operands0_headed ⟨_, _, rfl⟩
    | exact operands1_headed fun _ => ⟨_, _, rfl⟩
    | exact sized_headed ⟨_, _, rfl⟩
    | exact sized_headed (timebaseDirective_headed _ _ _)
    | exact sized_headed (stopDirective_headed _ _)
    | exact parseWriteCues_headed
    | exact fun j none => nomatch none

end

theorem Shielded.directiveFrame (kind : Byte) (d : Header) (ops : List Byte) (s : State) :
    Shielded d s (directiveFrame kind d ops s) := by
  unfold Machine.directiveFrame directiveArrives
  split
  · exact (Only.modIntake s _).spares.trans (.reply _ _ _ _ _)
  · split
    case h_1 i spelled =>
      obtain ⟨_, _, bytes⟩ := parseDirective_headed kind i spelled
      exact .dispatch bytes s
    · exact .reply _ _ _ _ s

/-- A directive that the part answers shields what its rank does not reach. -/
theorem Shielded.exec {i : Instr} {kind : Byte} {d : Header} {ops : List Byte} {s t : State}
    (bytes : directiveBytes i = some (kind, d, ops)) (h : exec i s = .next t) : Shielded d s t := by
  have taken {f : State → State} (h : s.onSource f = .next t) (acts : Shielded d s (f s)) : Shielded d s t := by
    rw [onSource_next h]
    split
    · exact .refl s
    · exact acts
  rcases exec_directive (by rw [bytes]; rfl) s with e | ⟨_, _, _, rfl⟩
  · exact taken (e ▸ h) (.dispatch bytes s)
  · cases bytes
    exact taken h (.directiveFrame _ d _ s)

end Sys2Proof.Machine

open Sys2Proof Sys2Proof.Machine

/-- Settles O12: whatever directive it is, it acts on zones and speakers that its rank reaches. -/
theorem rankShieldsObjects : Obligations.RankShieldsObjects := by
  intro i kind d ops s t bytes h
  have shielded := Shielded.exec bytes h
  exact ⟨fun z present below => shielded.zone z fun admits => (admits present).not_gt below,
    fun sp present below => shielded.speaker sp fun admits => (admits present).not_gt below⟩
end

section
/-! The Cue Engine at a zone's work: the wait counted, the words of a run, and the work in which a wait runs out
(R113, R155, R157 to R164). -/

namespace Sys2Proof.Machine

open Sys2Proof

/-! ### The fields of a cue word (Table 89) -/

section
variable (w : CueWord)

theorem cueKind_eq : cueKind w = w.toNat / 2 ^ 28 := by
  rw [cueKind, BitVec.extractLsb'_toNat, Nat.shiftRight_eq_div_pow]
  exact Nat.mod_eq_of_lt (by have := w.isLt; omega)

theorem cueTarget_eq : cueTarget w = w.toNat / 2 ^ 12 % 2 ^ 15 := by
  rw [cueTarget, BitVec.extractLsb'_toNat, Nat.shiftRight_eq_div_pow]

theorem cueCount_eq : cueCount w = w.toNat % 2 ^ 12 := by
  rw [cueCount, BitVec.extractLsb'_toNat, Nat.shiftRight_zero]

theorem cueTag_eq : cueTag w = w.toNat % 2 ^ 8 := by
  rw [cueTag, BitVec.extractLsb'_toNat, Nat.shiftRight_zero]

theorem cueStopFlag_eq : cueStopFlag w = decide (w.toNat / 2 ^ 8 % 2 = 1) := by
  rw [cueStopFlag, BitVec.getLsbD, Nat.testBit_eq_decide_div_mod_eq]

theorem cueJump_eq : cueJump w = BitVec.ofNat 9 (w.toNat % 2 ^ 9) :=
  BitVec.eq_of_toNat_eq (by
    rw [cueJump, BitVec.extractLsb'_toNat, Nat.shiftRight_zero, BitVec.toNat_ofNat, Nat.mod_mod])

end

/-! ### The cue program of a zone written whole -/

/-- The state with a zone's cue program as given. -/
def State.putRun (s : State) (z : ZoneNo) (c : CueRun) : State :=
  { s with cue := { s.cue with runs := tblSet s.cue.runs z c } }

section
variable {s : State} {z : ZoneNo}

theorem modCueRun_eq_putRun (s : State) (z : ZoneNo) (f : CueRun → CueRun) :
    s.modCueRun z f = s.putRun z (f (s.cueRun z)) := rfl

theorem State.putRun_cueRun (s : State) (z : ZoneNo) (c : CueRun) : (s.putRun z c).cueRun z = c :=
  tblGet_tblSet_same _ _ _

theorem State.putRun_putRun (s : State) (z : ZoneNo) (c x : CueRun) : (s.putRun z c).putRun z x = s.putRun z x := by
  simp only [State.putRun, tblSet_tblSet]

/-- A table with an element written as it was. -/
theorem tblSet_tblGet {α : Type} {n : Nat} (t : Vector α n) (i : Fin n) : tblSet t i (tblGet t i) = t := by
  refine tbl_ext fun j => ?_
  rw [tblGet_tblSet]
  split
  · subst j
    rfl
  · rfl

theorem State.putRun_self (s : State) (z : ZoneNo) : s.putRun z (s.cueRun z) = s := by
  rw [State.putRun, State.cueRun, tblSet_tblGet]

/-! ### A boundary notice (R155, R157, R158) -/

theorem CueRun.countWait_early {c : CueRun} (early : c.prescaleCount < c.prescale) :
    c.countWait = { c with prescaleCount := c.prescaleCount + 1 } := if_neg (by omega)

theorem CueRun.countWait_counted {c : CueRun} (counted : c.prescale ≤ c.prescaleCount) :
    c.countWait = { c with prescaleCount := 0, wait := c.wait - 1 } := if_pos (by omega)

theorem boundaryNotice_stands (still : (s.cueRun z).status ≠ .running) : boundaryNotice z s = s := if_neg still

theorem boundaryNotice_running (running : (s.cueRun z).status = .running) :
    boundaryNotice z s =
      if 0 < (s.cueRun z).countIfWaiting.wait then s.putRun z (s.cueRun z).countIfWaiting
      else executeRun z Config.cueBudget (s.putRun z (s.cueRun z).countIfWaiting) := by
  unfold boundaryNotice
  simp only [if_pos running, modCueRun_eq_putRun, State.putRun_cueRun]

theorem boundaryNotice_ready (running : (s.cueRun z).status = .running) (ready : (s.cueRun z).wait = 0) :
    boundaryNotice z s = executeRun z Config.cueBudget s := by
  have uncounted : (s.cueRun z).countIfWaiting = s.cueRun z := if_neg (by omega)
  rw [boundaryNotice_running running, uncounted, if_neg (by omega), State.putRun_self]

theorem boundaryNotice_waiting (running : (s.cueRun z).status = .running) (waits : 0 < (s.cueRun z).wait) :
    boundaryNotice z s =
      if 0 < (s.cueRun z).countWait.wait then s.putRun z (s.cueRun z).countWait
      else executeRun z Config.cueBudget (s.putRun z (s.cueRun z).countWait) := by
  have counted : (s.cueRun z).countIfWaiting = (s.cueRun z).countWait := if_pos waits
  rw [boundaryNotice_running running, counted]

theorem boundaryNotice_early (running : (s.cueRun z).status = .running) (waits : 0 < (s.cueRun z).wait)
    (early : (s.cueRun z).prescaleCount < (s.cueRun z).prescale) :
    boundaryNotice z s = s.putRun z { s.cueRun z with prescaleCount := (s.cueRun z).prescaleCount + 1 } := by
  rw [boundaryNotice_waiting running waits, CueRun.countWait_early early]
  exact if_pos waits

theorem boundaryNotice_counted (running : (s.cueRun z).status = .running) (waits : 0 < (s.cueRun z).wait)
    (counted : (s.cueRun z).prescale ≤ (s.cueRun z).prescaleCount) :
    boundaryNotice z s =
      if (s.cueRun z).wait = 1 then executeRun z Config.cueBudget
        (s.putRun z { s.cueRun z with prescaleCount := 0, wait := (s.cueRun z).wait - 1 })
      else s.putRun z { s.cueRun z with prescaleCount := 0, wait := (s.cueRun z).wait - 1 } := by
  rw [boundaryNotice_waiting running waits, CueRun.countWait_counted counted]
  by_cases last : (s.cueRun z).wait = 1
  · rw [if_pos last]
    exact if_neg (by simp [last])
  · rw [if_neg last]
    exact if_pos (by simp only []; omega)

/-! ### The words of a run (R159 to R164) -/

/-- The word at the pointer of a zone's program. -/
abbrev State.wordAt (s : State) (z : ZoneNo) : CueWord := s.cueWord (s.cueRun z).pointer

section
variable {budget : Nat}

/-- STOP (R163). -/
theorem executeRun_stop (kind : cueKind (s.wordAt z) = 0) :
    executeRun z (budget + 1) s = s.putRun z (s.cueRun z).advance.stop := by
  rw [executeRun, executeWord, kind]
  rfl

/-- LEVEL (R160). -/
theorem executeRun_level (kind : cueKind (s.wordAt z) = 1) :
    executeRun z (budget + 1) s = executeRun z budget
      ((s.putZone z { s.zone z with target := cueTarget (s.wordAt z), gainStep := cueCount (s.wordAt z) }).putRun z
        (s.cueRun z).advance) := by
  rw [executeRun, executeWord, kind]
  rfl

/-- WAIT: a wait of 0 is passed (R160). -/
theorem executeRun_wait (kind : cueKind (s.wordAt z) = 2) :
    executeRun z (budget + 1) s =
      if cueCount (s.wordAt z) = 0 then executeRun z budget (s.putRun z (s.cueRun z).advance)
      else s.putRun z { (s.cueRun z).advance with wait := cueCount (s.wordAt z), prescaleCount := 0 } := by
  rw [executeRun, executeWord, kind]
  simp only [cueWait, modCueRun_eq_putRun]
  by_cases zero : cueCount (s.wordAt z) = 0
  · simp only [zero, if_true, bne_self_eq_false]
  · rw [if_neg zero, if_neg zero, bne_iff_ne.mpr zero]

/-- REPEAT: a count of 0 is passed (R161). -/
theorem executeRun_repeat (kind : cueKind (s.wordAt z) = 3) :
    executeRun z (budget + 1) s =
      if cueCount (s.wordAt z) = 0 then executeRun z budget (s.putRun z (s.cueRun z).advance)
      else executeRun z budget (s.putRun z
        { (s.cueRun z).advance with loopCount := cueCount (s.wordAt z), loopStart := (s.cueRun z).pointer + 1 }) := by
  rw [executeRun, executeWord, kind]
  simp only [cueRepeat, modCueRun_eq_putRun]
  split <;> rfl

/-- LOOP (R161). -/
theorem executeRun_loop (kind : cueKind (s.wordAt z) = 4) :
    executeRun z (budget + 1) s =
      if (s.cueRun z).loopCount = 0 then executeRun z budget (s.putRun z (s.cueRun z).advance)
      else executeRun z budget (s.putRun z
        { s.cueRun z with loopCount := (s.cueRun z).loopCount - 1, pointer := (s.cueRun z).loopStart }) := by
  rw [executeRun, executeWord, kind]
  simp only [cueLoop, modCueRun_eq_putRun]
  by_cases done : (s.cueRun z).loopCount = 0
  · simp [done]
  · simp [done, Nat.pos_of_ne_zero done]

/-- NOTE: the report reads nothing that the program's advance writes (R162). -/
theorem executeRun_note (kind : cueKind (s.wordAt z) = 5) :
    let noted := offerEvent .cueNote z.val
      [f1 (cueTag (s.wordAt z)), f2 (s.cueRun z).pointer.toNat, f6 s.block]
    executeRun z (budget + 1) s =
      if cueStopFlag (s.wordAt z) = true then noted (s.putRun z (s.cueRun z).advance.stop)
      else executeRun z budget (noted (s.putRun z (s.cueRun z).advance)) := by
  intro noted
  have after (f : CueRun → CueRun) : (noted s).modCueRun z f = noted (s.putRun z (f (s.cueRun z))) :=
    offerEvent_after (fun u => u.modCueRun z f) s rfl rfl rfl (fun _ _ => rfl) _ _ _
  rw [executeRun, executeWord, kind]
  simp only [cueNote]
  rw [after]
  cases cueStopFlag (s.wordAt z) <;> rfl

/-- JUMP (R160). -/
theorem executeRun_jump (kind : cueKind (s.wordAt z) = 6) :
    executeRun z (budget + 1) s =
      executeRun z budget (s.putRun z { s.cueRun z with pointer := cueJump (s.wordAt z) }) := by
  rw [executeRun, executeWord, kind]
  rfl

/-- RELEASE (R163). -/
theorem executeRun_release (kind : cueKind (s.wordAt z) = 7) :
    executeRun z (budget + 1) s = softStop z (s.putRun z (s.cueRun z).advance.stop) := by
  rw [executeRun, executeWord, kind]
  rfl

/-- A code of no word (R164). -/
theorem executeRun_fault (kind : 8 ≤ cueKind (s.wordAt z)) :
    executeRun z (budget + 1) s =
      offerEvent .cueFault z.val [f2 (s.cueRun z).pointer.toNat, f1 (cueKind (s.wordAt z)), f6 s.block]
        (s.putRun z { s.cueRun z with status := .faulted }) := by
  have faults : executeWord z s = (cueFault z (s.wordAt z) s, true) := by
    unfold executeWord
    simp only [State.wordAt] at kind ⊢
    split <;> first | omega | rfl
  rw [executeRun, faults]
  rfl

end

/-- A wait counted out before a STOP ends the program past it. -/
theorem boundaryNotice_lastStop (running : (s.cueRun z).status = .running) (last : (s.cueRun z).wait = 1)
    (counted : (s.cueRun z).prescale ≤ (s.cueRun z).prescaleCount) (stop : cueKind (s.wordAt z) = 0) :
    boundaryNotice z s = s.putRun z { s.cueRun z with
      status := .stopped, pointer := (s.cueRun z).pointer + 1, wait := 0, prescaleCount := 0 } := by
  have word : (s.putRun z { s.cueRun z with prescaleCount := 0, wait := (s.cueRun z).wait - 1 }).wordAt z =
      s.wordAt z := by
    rw [State.wordAt, State.putRun_cueRun]
    rfl
  rw [boundaryNotice_counted running (by omega) counted, if_pos last]
  refine (executeRun_stop (budget := 7) (word ▸ stop)).trans ?_
  rw [State.putRun_cueRun, State.putRun_putRun, last]
  rfl

theorem softStop_moving (moving : (s.zone z).state = .priming ∨ (s.zone z).state = .playing) :
    softStop z s =
      if (s.zone z).ring = [] then reachIdle z (s.inState z .draining) else s.inState z .draining := by
  have still : ¬ ((s.zone z).state = .idle ∨ (s.zone z).state = .draining) := by
    rcases moving with state | state <;> simp [state]
  rw [softStop_eq, if_neg still, reachIdle_eq, State.inState_zone]

end

/-! ### The work in which a wait runs out (R113, R157, R158) -/

section
variable {s : State} {z : ZoneNo}

theorem waitRunsOut_last (running : (s.cueRun z).status = .running) (last : (s.cueRun z).wait = 1)
    (counted : (s.cueRun z).prescale ≤ (s.cueRun z).prescaleCount) : s.waitRunsOut z = true := by
  have waits : 0 < (s.cueRun z).wait := by omega
  have out : (s.cueRun z).countIfWaiting.wait = 0 := by
    rw [CueRun.countIfWaiting, if_pos waits, CueRun.countWait_counted counted, last]
  simp [State.waitRunsOut, running, waits, out]

theorem handsNotice_draining (draining : (s.zone z).state = .draining)
    (left : ∃ e ∈ (s.zone z).ring, s.timeline.block < e.block) : s.handsNotice z = true := by
  unfold State.handsNotice
  rw [draining]
  obtain ⟨e, ring, later⟩ := left
  exact List.any_eq_true.mpr ⟨e, ring, decide_eq_true later⟩

/-- A wait that runs out in the due work of a DRAINING zone takes that work. -/
theorem exec_waitRunsOut (high : s.rstLow = false) (due : tblGet s.agenda.zones z = true)
    (draining : (s.zone z).state = .draining) (left : ∃ e ∈ (s.zone z).ring, s.timeline.block < e.block)
    (running : (s.cueRun z).status = .running) (last : (s.cueRun z).wait = 1)
    (counted : (s.cueRun z).prescale ≤ (s.cueRun z).prescaleCount) :
    exec (.waitRunsOut z) s =
      .next (zoneWork z ((settleSwap s).modAgenda fun a => { a with zones := tblSet a.zones z false })) := by
  have comes : (tblGet s.agenda.zones z && s.waitRunsOut z && s.handsNotice z) = true := by
    simp only [due, waitRunsOut_last running last counted, handsNotice_draining draining left, Bool.and_self]
  refine (State.awake_high high (waitEvent z)).trans (congrArg _ ?_)
  rw [waitEvent, if_pos comes, dueZone_due due]

/-- A DRAINING zone of which no entry is due is handed its boundary notice, and nothing else is done (R113). -/
theorem zoneWork_draining (draining : (s.zone z).state = .draining) (ring : (s.zone z).ring ≠ [])
    (later : ∀ e ∈ (s.zone z).ring, s.timeline.block < e.block) : zoneWork z s = boundaryNotice z s := by
  have left : s.ringLeft z = (s.zone z).ring := List.filter_eq_self.mpr fun e he => decide_eq_true (later e he)
  have due : s.ringDue z = [] :=
    List.filter_eq_nil_iff.mpr fun e he => by simpa using later e he
  have stands : s.releasedTo z (s.ringed z) = s := by
    rw [State.releasedTo, State.ringed, left, due, List.filterMap_nil, CellStore.released_nil]
    rw [State.putZone, State.zone, tblSet_tblGet]
  have work : zoneWork z s = drainingWork z s := by rw [zoneWork, draining]
  rw [work, drainingWork_eq draining, left, if_neg ring, stands]

end

end Sys2Proof.Machine

open Sys2Proof Sys2Proof.Machine

/-- Settles O26: the two works by `exec_waitRunsOut`, the counting of a wait by `boundaryNotice_running`, and each
word by what `executeWord` makes of its code. -/
theorem waitRunsOutRunsCue : Obligations.WaitRunsOutRunsCue := by
  refine ⟨fun s z high due none noMark draining ring later running last counted word => ?stopped,
    fun s z high due swap noMark draining left running last counted => ?swapped, ?cues⟩
  case stopped =>
    obtain ⟨e, entry⟩ := List.exists_mem_of_ne_nil _ ring
    rw [exec_waitRunsOut high due draining ⟨e, entry, later e entry⟩ running last counted,
      settleSwap_none s noMark none]
    refine congrArg _ (Eq.trans ?_ (boundaryNotice_lastStop
      (s := s.modAgenda fun a => { a with zones := tblSet a.zones z false }) running last counted
      ((cueKind_eq _).trans word)))
    exact zoneWork_draining draining ring later
  case swapped =>
    rw [exec_waitRunsOut high due draining left running last counted, settleSwap_eq s noMark, if_pos swap]
    rfl
  case cues =>
    intro s z c put
    refine ⟨boundaryNotice_stands, fun running waits => ⟨boundaryNotice_early running waits,
      boundaryNotice_counted running waits⟩, boundaryNotice_ready, rfl, ?_⟩
    intro budget word kind next on rest
    have code : cueKind (s.wordAt z) = kind := cueKind_eq _
    have count : cueCount (s.wordAt z) = word % 2 ^ 12 := cueCount_eq _
    refine ⟨fun stop => executeRun_stop (code.trans stop), fun level => ?_, fun wait => ?_, fun again => ?_,
      fun loop => executeRun_loop (code.trans loop), fun note => ?_, fun jump => ?_, fun release => ⟨?_, ?_⟩,
      fun fault => ?_⟩
    · rw [executeRun_level (code.trans level), cueTarget_eq, count]
      rfl
    · rw [executeRun_wait (code.trans wait), count]
      rfl
    · rw [executeRun_repeat (code.trans again), count]
      rfl
    · have said := executeRun_note (budget := budget) (code.trans note)
      rw [cueTag_eq, cueStopFlag_eq] at said
      simp only [decide_eq_true_eq] at said
      exact said
    · rw [executeRun_jump (code.trans jump), cueJump_eq]
      rfl
    · intro still
      rw [executeRun_release (code.trans release), softStop_eq]
      exact if_pos still
    · intro moving draining
      rw [executeRun_release (code.trans release)]
      exact softStop_moving moving
    · rw [executeRun_fault (code ▸ fault), code]
      rfl
end

section
/-! SET LEVEL, ARM TAP and DISARM TAP of a zone that admits them, and the tap block of an issue (R121, R132 to R134,
R199). -/

namespace Sys2Proof.Machine

open Sys2Proof

/-! ### The directives (R121, R133) -/

theorem onPresentZone_taken {s : State} {d : Header} {z : ZoneNo} (admits : s.ZoneAdmits d z)
    (present : (s.activeZone z).present = true) (kind : Byte) (work : ZoneNo → State) :
    onPresentZone kind d (zoneIndex (operandOf z)) s work = work z := by
  rw [zoneIndex_operandOf]
  exact (if_neg (by simp [zoneRank_of_admits admits])).trans (if_neg (by simp [present]))

/-- The tap written whole. -/
def State.putTap (s : State) (t : Tap) : State := { s with playout := { s.playout with tap := t } }

section
variable {s : State} {d : Header} {z : ZoneNo} (h : s.Listening) (admits : s.ZoneAdmits d z)
include h admits

theorem setLevel_taken (present : (s.activeZone z).present = true) (target gainStep : BitVec 16) :
    let t := min 32767 target.toNat
    let g := min 4095 gainStep.toNat
    setLevel d (operandOf z) target gainStep s =
      (s.answered 0x42 d (if t = target.toNat ∧ g = gainStep.toNat then .ok else .clamped) []).putZone z
        { s.zone z with target := t, gainStep := g } := by
  intro t g
  rw [setLevel, onPresentZone_taken admits present]
  simp only [clampNat_zero, takenStatus_two, h.reply]
  rfl

theorem armTap_taken (present : (s.activeZone z).present = true) (free : s.playout.tap.state = .disarmed) :
    armTap d (operandOf z) s = (s.answered 0x70 d .ok []).putTap { s.playout.tap with state := .armed z } := by
  rw [armTap, onPresentZone_taken admits present, if_pos free, h.reply]
  rfl

theorem disarmTap_disarmed (free : s.playout.tap.state = .disarmed) :
    disarmTap d (operandOf z) s = s.answered 0x71 d .ok [] := by
  rw [disarmTap, zoneIndex_operandOf, ← h.reply]
  refine (if_neg (by simp [zoneRank_of_admits admits])).trans ?_
  rw [free]
  rfl

/-- A tap that serves the zone ends, the report after the reply (R133). -/
theorem disarmTap_serving (serves : s.playout.tap.state = .armed z ∨ s.playout.tap.state = .active z) :
    disarmTap d (operandOf z) s =
      offerEvent .tapEnd z.val []
        ((s.answered 0x71 d .ok []).putTap { s.playout.tap with state := .disarmed }) := by
  have ends : endTap z (s.answered 0x71 d .ok []) = _ := (endTap_eq z _).trans (if_pos serves)
  rw [disarmTap, zoneIndex_operandOf]
  refine (if_neg (by simp [zoneRank_of_admits admits])).trans ?_
  rw [(TapState.zone_iff _ z).mpr serves, h.reply]
  exact (if_pos rfl).trans ends

end

/-! ### The samples of a tap block (R132) -/

theorem tapSamples_length (cell : Option AudioCell) (e : IssueEntry) : (tapSamples cell e).length = 128 := by
  simp [tapSamples]

theorem tapSamples_get (cell : Option AudioCell) (e : IssueEntry) {i : Nat} (h : i < 128) :
    (tapSamples cell e).getD i 0 = applyGain (selectLane cell .mono i) (zoneGain e i) := by
  simp [tapSamples, List.getD_eq_getElem?_getD, h]

/-- The lanes of a cell taken as one, for the role MONO (R122). -/
theorem selectLane_mono (cell : Option AudioCell) (i : Nat) :
    selectLane cell .mono i =
      match cell with
      | none => 0
      | some a => if a.lanes = 1 then a.lane i 0 else (a.lane i 0 + a.lane i 1) / 2 := by
  unfold selectLane
  cases cell with
  | none => rfl
  | some a => exact if_congr Iff.rfl rfl (mixed_eq a i)

/-! ### The tap block put into the buffer (R134, R199) -/

/-- The tap block that an issue of an entry makes (R132). -/
def State.tapBlock (s : State) (z : ZoneNo) (e : IssueEntry) : TapBlock :=
  { zone := z, number := e.number, block := e.block, samples := tapSamples (s.entryCell e) e }

/-- The part with the tap ACTIVE for a zone (R134). -/
def State.tapActive (s : State) (z : ZoneNo) : State := s.putTap { s.playout.tap with state := .active z }

theorem tapIssue_other {s : State} {z : ZoneNo} (e : IssueEntry) (armed : s.playout.tap.state ≠ .armed z)
    (active : s.playout.tap.state ≠ .active z) : tapIssue z e s = s :=
  if_neg (mt (TapState.zone_iff _ z).mp (not_or.mpr ⟨armed, active⟩))

theorem tapIssue_serving {s : State} {z : ZoneNo} (e : IssueEntry)
    (serves : s.playout.tap.state = .armed z ∨ s.playout.tap.state = .active z) :
    tapIssue z e s = bufferTap (s.tapBlock z e) (s.tapActive z) :=
  if_pos ((TapState.zone_iff _ z).mpr serves)

/-- The tap with a block more: at the tail of its buffer, in place of the oldest where that is full (R134). -/
def Tap.buffered (t : Tap) (b : TapBlock) : Tap :=
  if t.buffer.length < Config.tapCapacity then { t with buffer := t.buffer ++ [b] }
  else { t with buffer := t.buffer.tail ++ [b], overruns := counted t.overruns 1 }

section
variable {s : State} (b : TapBlock)

theorem bufferTap_down (down : s.source.up = false) :
    bufferTap b s = s.putTap { s.playout.tap with overruns := counted s.playout.tap.overruns 1 } :=
  if_neg (by simp [down])

theorem bufferTap_up (up : s.source.up = true) :
    bufferTap b s = selectSource (s.putTap (s.playout.tap.buffered b)) := by
  unfold bufferTap Tap.buffered
  simp only [List.drop_one]
  exact if_pos up

theorem bufferTap_sending (up : s.source.up = true) (sending : s.source.sending.isSome = true) :
    bufferTap b s = s.putTap (s.playout.tap.buffered b) :=
  (bufferTap_up b up).trans (selectSource_idle _ (.inr (.inl sending)))

/-- On a FREE side with nothing waiting the block is sent at once (R197). -/
theorem bufferTap_free (up : s.source.up = true) (free : s.source.sending = none) (reports : s.source.reports = [])
    (empty : s.playout.tap.buffer = []) :
    bufferTap b s = { s with source := { s.source with sending := some (.tap b) } } := by
  have buffered : s.playout.tap.buffered b = { s.playout.tap with buffer := [b] } := by
    unfold Tap.buffered
    rw [empty]
    rfl
  have taken : { s.playout.tap with buffer := [] } = s.playout.tap := by rw [← empty]
  rw [bufferTap_up b up, buffered]
  unfold selectSource
  simp only [State.putTap, up, free, reports, Option.isNone_none, Bool.and_self, if_true, State.modSource,
    State.modTap, State.modPlayout, taken]

end

end Sys2Proof.Machine

open Sys2Proof Sys2Proof.Machine

/-- Settles O47: the directives by the tap's state, the tap block by what waits on the Source Link. -/
theorem levelAndTapTaken : Obligations.LevelAndTapTaken := by
  refine ⟨fun s d z h admits => ?directives, fun s z e => ?issue⟩
  case directives =>
    intro tap
    refine ⟨fun target gainStep present => ?_, fun present free => ?_, fun free => ?_, fun serves => ?_⟩
    · exact (h.onSource _).trans (congrArg _ (setLevel_taken h admits present target gainStep))
    · exact (h.onSource _).trans (congrArg _ (armTap_taken h admits present free))
    · exact h.answers (disarmTap_disarmed h admits free)
    · exact (h.onSource _).trans (congrArg _ (disarmTap_serving h admits serves))
  case issue =>
    intro tap
    refine ⟨tapIssue_other e, fun serves => ⟨_, tapSamples_length (s.entryCell e) e, fun i inside => ?sample, ?_⟩⟩
    case sample =>
      rw [tapSamples_get _ _ inside, applyGain_toInt, selectLane_mono]
      rfl
    intro made put
    rw [tapIssue_serving e serves]
    refine ⟨fun down => bufferTap_down _ down, fun up sending => ?_, fun up free reports empty => ?_⟩
    · refine (bufferTap_sending (s := s.tapActive z) _ up sending).trans ?_
      exact apply_ite s.putTap _ _ _
    · have left : put [] tap.overruns = put tap.buffer tap.overruns := congrArg (put · tap.overruns) empty.symm
      rw [left]
      exact bufferTap_free (s := s.tapActive z) _ up free reports empty
end

section
/-! A member judged for a claim, and the claims of an overlay that ends (R126, R130, R141 to R147). -/

namespace Sys2Proof.Machine

open Sys2Proof

/-! ### A speaker that follows its stack (R126) -/

/-- A speaker written as `r`, its zone and role as R126 gives them. -/
def State.returning (s : State) (air : AirLink) (sp : SpeakerNo) (r : SpeakerRun) : State :=
  s.withSpeakers air
    (tblSet s.playout.speakers sp { r with zone := s.effectiveZone sp, role := s.effectiveRole sp })

/-- A speaker that follows its zone and role joins where the zone is new to it. -/
theorem refresh_withSpeakers (sp : SpeakerNo) (s : State) (air : AirLink) (r : SpeakerRun) :
    refresh sp (s.withSpeakers air (tblSet s.playout.speakers sp r)) =
      if s.effectiveZone sp ≠ r.zone ∧ s.effectiveZone sp ≠ none then join sp (s.returning air sp r)
      else s.returning air sp r := by
  have own : (s.withSpeakers air (tblSet s.playout.speakers sp r)).speaker sp = r := tblGet_tblSet_same _ _ _
  unfold refresh
  simp only [own, recompute_withSpeakers]
  rfl

theorem refresh_eq (sp : SpeakerNo) (s : State) :
    refresh sp s =
      if s.effectiveZone sp ≠ (s.speaker sp).zone ∧ s.effectiveZone sp ≠ none then
        join sp (s.returning s.air sp (s.speaker sp))
      else s.returning s.air sp (s.speaker sp) := by
  have followed := refresh_withSpeakers sp s s.air (s.speaker sp)
  rwa [s.withSpeakers_self] at followed

/-! ### A claim made (R142) -/

/-- The record of a claim at the current block. -/
def State.claimRecord (s : State) (z : ZoneNo) (q : Nat) (role : Role) : ClaimCell :=
  { zone := z, priority := q, role := role, claimedAt := s.timeline.block }

/-- A record written to a cell, pushed on a stack and counted. -/
def State.withClaim (s : State) (sp : SpeakerNo) (c : CellNo) (r : ClaimCell) : State :=
  let k := tblGet s.overlay.counters r.zone
  { s with
    store := { s.store with cells := tblSet s.store.cells c (.claim r) }
    overlay :=
      { s.overlay with
        claimStacks := tblSet s.overlay.claimStacks sp (c :: s.claimStack sp)
        counters := tblSet s.overlay.counters r.zone { k with made := counted k.made 1 } } }

theorem claimMade_eq (z : ZoneNo) (q : Nat) (role : Role) (sp : SpeakerNo) (c : CellNo) (s : State) :
    claimMade z q role sp c s = refresh sp (cut sp (s.withClaim sp c (s.claimRecord z q role))) := rfl

/-- A claim made with the head of the free list, before the report of its take. -/
def State.claimPushed (s : State) (sp : SpeakerNo) (c : CellNo) (rest : List CellNo) (r : ClaimCell) : State :=
  let low := s.store.depletionArmed && decide (rest.length ≤ s.store.depletionMark)
  (s.withTaken rest (s.store.depletionArmed && !low)).withClaim sp c r

/-- The same after the report of its take (R29). -/
def State.claimTold (s : State) (sp : SpeakerNo) (c : CellNo) (rest : List CellNo) (r : ClaimCell) : State :=
  if s.store.depletionArmed && decide (rest.length ≤ s.store.depletionMark) then
    offerEvent .storeDepletion 0 [⟨4, rest.length⟩, ⟨4, s.store.depletionMark⟩] (s.claimPushed sp c rest r)
  else s.claimPushed sp c rest r

theorem depletionCheck_withClaim (s : State) (sp : SpeakerNo) (c : CellNo) (rest : List CellNo) (r : ClaimCell) :
    (depletionCheck (s.withFree rest)).withClaim sp c r = s.claimTold sp c rest r := by
  rw [depletionCheck_taken, State.claimTold]
  dsimp only
  split
  · exact offerEvent_after (fun u => u.withClaim sp c r) _ rfl rfl rfl (fun _ _ => rfl) _ _ _
  · rfl

theorem judgeClaim_outranked {z : ZoneNo} {q : Nat} {role : Role} {sp : SpeakerNo} {s : State}
    (outranked : q ≤ s.stackPriority sp) : judgeClaim z q role sp s = claimOutranked z q sp s := if_pos outranked

theorem judgeClaim_failed {z : ZoneNo} {q : Nat} {role : Role} {sp : SpeakerNo} {s : State}
    (above : s.stackPriority sp < q) (empty : s.store.freeList = []) :
    judgeClaim z q role sp s = claimFailed z q sp s := by
  have refused : takeCell .claimRecord s = none := takeCell_refused (by simp [empty])
  unfold judgeClaim
  rw [if_neg (not_le.mpr above), refused]

/-- A CUT reads the Air Link, the clocks, the plan and the speaker's own run alone (R130). -/
theorem cut_agrees {u s : State} (sp : SpeakerNo) (same : SameAir u s) (tracker : u.tracker = s.tracker)
    (plan : u.plan = s.plan) (run : u.speaker sp = s.speaker sp) :
    cut sp u =
      u.withSpeakers (s.cutAir sp (s.activeSpeaker sp).address)
        (tblSet u.playout.speakers sp ((s.speaker sp).wasCut s.cutLimit)) := by
  have limit : u.cutLimit = s.cutLimit := by rw [State.cutLimit, same.block, same.margin, State.cutLimit]
  have stamp (block : Nat) : u.stamp sp block = s.stamp sp block := by
    unfold State.stamp State.entry State.trim
    rw [tracker, plan]
  have air (address : AirAddress) : u.cutAir sp address = s.cutAir sp address := by
    rw [State.cutAir, limit, stamp, handCut_reads _ _ _ _ u s same, State.cutAir]
  have own : u.activeSpeaker sp = s.activeSpeaker sp := by rw [State.activeSpeaker, plan, State.activeSpeaker]
  rw [cut, own, cutAt_withSpeakers, air, run, limit]
  rfl

section
variable {z : ZoneNo} {q : Nat} {role : Role} {sp : SpeakerNo} {s : State} {c : CellNo} {rest : List CellNo}

theorem judgeClaim_made (above : s.stackPriority sp < q) (free : s.store.freeList = c :: rest) :
    judgeClaim z q role sp s = refresh sp (cut sp (s.claimTold sp c rest (s.claimRecord z q role))) := by
  have block : (depletionCheck (s.withFree rest)).block = s.block := (Only.depletionCheck (s.withFree rest)).block_eq
  have record : (depletionCheck (s.withFree rest)).claimRecord z q role = s.claimRecord z q role := by
    unfold State.claimRecord
    rw [show (depletionCheck (s.withFree rest)).timeline.block = s.timeline.block from block]
  unfold judgeClaim
  rw [if_neg (not_le.mpr above), takeCell_granted (kind := .claimRecord) free (Nat.succ_pos _)]
  show claimMade z q role sp c (depletionCheck (s.withFree rest)) = _
  rw [claimMade_eq, record, depletionCheck_withClaim]

variable {r : ClaimCell}

theorem claimTold_only (s : State) (sp : SpeakerNo) (c : CellNo) (rest : List CellNo) (r : ClaimCell) :
    OnlyReports (s.claimPushed sp c rest r) (s.claimTold sp c rest r) := by
  unfold State.claimTold
  split
  · exact offerEvent_only _ _ _ _
  · exact .refl _

theorem claimTold_topClaim : (s.claimTold sp c rest r).topClaim sp = some r := by
  obtain ⟨source, buffer, told⟩ := claimTold_only s sp c rest r
  have stack : (s.claimTold sp c rest r).claimStack sp = c :: s.claimStack sp := by
    rw [told]
    exact tblGet_tblSet_same _ _ _
  have cell : (s.claimTold sp c rest r).cell c = .claim r := by
    rw [told]
    exact tblGet_tblSet_same _ _ _
  rw [State.topClaim, stack, List.head?_cons, Option.bind_some, State.claimCell, cell]

theorem claimTold_effectiveRole : (s.claimTold sp c rest r).effectiveRole sp = r.role := by
  rw [State.effectiveRole, claimTold_topClaim]

theorem claimTold_effectiveZone :
    (s.claimTold sp c rest r).effectiveZone sp = if (s.activeSpeaker sp).present then some r.zone else none := by
  obtain ⟨source, buffer, told⟩ := claimTold_only s sp c rest r
  have plan : (s.claimTold sp c rest r).activeSpeaker sp = s.activeSpeaker sp := by
    rw [told]
    rfl
  rw [State.effectiveZone, claimTold_topClaim, plan]

/-- The claimed speaker CUT: neither the claim nor its report reaches what a CUT reads (R130). -/
theorem cut_claimTold :
    cut sp (s.claimTold sp c rest r) =
      (s.claimTold sp c rest r).withSpeakers (s.cutAir sp (s.activeSpeaker sp).address)
        (tblSet (s.claimTold sp c rest r).playout.speakers sp ((s.speaker sp).wasCut s.cutLimit)) := by
  obtain ⟨source, buffer, told⟩ := claimTold_only s sp c rest r
  rw [told]
  exact cut_agrees sp ⟨rfl, rfl, rfl⟩ rfl rfl rfl

/-- The claimed speaker after its CUT, in the zone and role of the claim where it is present. -/
def State.claimTaken (s : State) (sp : SpeakerNo) (c : CellNo) (rest : List CellNo) (r : ClaimCell) : State :=
  (s.claimTold sp c rest r).withSpeakers (s.cutAir sp (s.activeSpeaker sp).address)
    (tblSet (s.claimTold sp c rest r).playout.speakers sp
      { (s.speaker sp).wasCut s.cutLimit with
        zone := if (s.activeSpeaker sp).present then some r.zone else none, role := r.role })

/-- The claimed speaker joins the overlay where it was not there. -/
theorem refresh_claimed :
    refresh sp (cut sp (s.claimTold sp c rest r)) =
      if (s.activeSpeaker sp).present = true ∧ (s.speaker sp).zone ≠ some r.zone then
        join sp (s.claimTaken sp c rest r)
      else s.claimTaken sp c rest r := by
  have taken : (s.claimTold sp c rest r).returning (s.cutAir sp (s.activeSpeaker sp).address) sp
      ((s.speaker sp).wasCut s.cutLimit) = s.claimTaken sp c rest r := by
    rw [State.returning, claimTold_effectiveZone, claimTold_effectiveRole]
    rfl
  rw [cut_claimTold, refresh_withSpeakers, taken, claimTold_effectiveZone]
  refine if_congr ?_ rfl rfl
  show _ ≠ (s.speaker sp).zone ∧ _ ↔ _
  cases (s.activeSpeaker sp).present <;> simp [eq_comm]

/-- After the push, a claim changes no stack, no cell and no counter. -/
theorem refresh_claimed_only :
    Only [.speakers, .air, .source, .tap] (s.claimPushed sp c rest r)
      (refresh sp (cut sp (s.claimTold sp c rest r))) := by
  have told : Only [.speakers, .air, .source, .tap] (s.claimPushed sp c rest r) (s.claimTold sp c rest r) := by
    unfold State.claimTold
    split
    · exact (Only.offerEvent _ _ _ _).widen
    · exact .refl _ _
  exact told.then ((Only.cut sp _).then (m := [.speakers, .air]) (Only.refresh sp _))

theorem claimPushed_claimStack (o : SpeakerNo) :
    (s.claimPushed sp c rest r).claimStack o = if sp = o then c :: s.claimStack sp else s.claimStack o :=
  tblGet_tblSet _ _ _ _

/-- The claimed speaker has the zone and role that its new top gives it, also after its join. -/
theorem refresh_claimed_speaker :
    ((refresh sp (cut sp (s.claimTold sp c rest r))).speaker sp).zone =
        (if (s.activeSpeaker sp).present then some r.zone else none)
      ∧ ((refresh sp (cut sp (s.claimTold sp c rest r))).speaker sp).role = r.role := by
  have followed := (refresh_followed sp (cut sp (s.claimTold sp c rest r))).own
  refine ⟨followed.zone.trans ?_, followed.role.trans ?_⟩
  · rw [← claimTold_effectiveZone (c := c) (rest := rest), cut_claimTold]
    rfl
  · rw [← claimTold_effectiveRole (s := s) (sp := sp) (c := c) (rest := rest), cut_claimTold]
    rfl

end

/-! ### A claim released (R145 to R147) -/

/-- A cell released, and a speaker's stack without it. -/
def State.unlinked (s : State) (sp : SpeakerNo) (c : CellNo) (stack : List CellNo) : State :=
  { s with
    store := s.store.released [c]
    overlay := { s.overlay with claimStacks := tblSet s.overlay.claimStacks sp stack } }

theorem releaseRecord_eq (sp : SpeakerNo) (c : CellNo) (s : State) :
    releaseRecord sp c s = s.unlinked sp c ((s.claimStack sp).erase c) :=
  releaseCells_eq [c] (s.setClaimStack sp ((s.claimStack sp).erase c))

section
variable {z : ZoneNo} {sp : SpeakerNo} {s : State}

theorem endClaim_unnamed (unnamed : ∀ c ∈ s.claimStack sp, ¬ s.namesZone z c = true) : endClaim z sp s = s := by
  unfold endClaim
  rw [List.find?_eq_none.mpr unnamed]

/-- The first record of a stack that names the zone leaves it; the speaker returns where that was the top. -/
theorem endClaim_named {above : List CellNo} {c : CellNo} {below : List CellNo}
    (stack : s.claimStack sp = above ++ c :: below) (unnamed : ∀ x ∈ above, ¬ s.namesZone z x = true)
    (names : s.namesZone z c = true) :
    endClaim z sp s =
      if above = [] then refresh sp (s.unlinked sp c (above ++ below)) else s.unlinked sp c (above ++ below) := by
  have found : (s.claimStack sp).find? (s.namesZone z) = some c :=
    List.find?_eq_some_iff_append.mpr ⟨names, above, below, stack, fun x member => by simpa using unnamed x member⟩
  have apart : c ∉ above := fun member => unnamed c member names
  have left : (s.claimStack sp).erase c = above ++ below := by
    rw [stack, List.erase_append_right _ apart, List.erase_cons_head]
  have top : (s.claimStack sp).head? = some c ↔ above = [] := by
    rw [stack]
    cases above with
    | nil => simp
    | cons x above => simpa using fun same : x = c => apart (same ▸ List.mem_cons_self)
  unfold endClaim
  rw [found]
  simp only [releaseRecord_eq, left]
  exact if_congr top rfl rfl

theorem unlinked_topClaim (c : CellNo) (stack : List CellNo) :
    (s.unlinked sp c stack).topClaim sp = stack.head?.bind s.claimCell := by
  have own : (s.unlinked sp c stack).claimStack sp = stack := tblGet_tblSet_same _ _ _
  rw [State.topClaim, own]
  rfl

end

end Sys2Proof.Machine

open Sys2Proof Sys2Proof.Machine

/-- Settles O49: the three judgements of a member, and the record that leaves a stack as its top or from below. -/
theorem claimJudged : Obligations.ClaimJudged := by
  refine ⟨fun s z q role sp => ?judged, fun s z sp => ?ended⟩
  case judged =>
    intro k put
    refine ⟨judgeClaim_outranked, fun above empty => ?failed, fun c rest above free => ?made⟩
    case failed =>
      rw [judgeClaim_failed above empty, claimFailed, State.freeCount, empty]
      rfl
    case made =>
      intro t
      have claimed : t = refresh sp (cut sp (s.claimTold sp c rest (s.claimRecord z q role))) :=
        judgeClaim_made above free
      have only : Only [.speakers, .air, .source, .tap] (s.claimPushed sp c rest (s.claimRecord z q role)) t :=
        claimed ▸ refresh_claimed_only
      have stackOf (o : SpeakerNo) : t.claimStack o = if sp = o then c :: s.claimStack sp else s.claimStack o :=
        (congrArg (fun v : Overlay => tblGet v.claimStacks o) only.overlay_eq).trans (claimPushed_claimStack o)
      have cell : t.cell c = .claim (s.claimRecord z q role) :=
        (congrArg (fun v : CellStore => tblGet v.cells c) only.store_eq).trans (tblGet_tblSet_same _ _ _)
      obtain ⟨inZone, inRole⟩ := claimed ▸ refresh_claimed_speaker (s := s) (sp := sp) (c := c) (rest := rest)
        (r := s.claimRecord z q role)
      refine ⟨⟨(stackOf sp).trans (if_pos rfl), ?_, fun o other => (stackOf o).trans (if_neg other.symm),
        congrArg CellStore.freeList only.store_eq, ?_, fun present => ⟨inZone.trans (if_pos present), inRole⟩⟩, ?_⟩
      · rw [State.claimCell, cell]
        rfl
      · rw [only.overlay_eq]
        exact tblGet_tblSet_same _ _ _
      · exact claimed.trans refresh_claimed
  case ended =>
    intro names
    have named (c : CellNo) : s.namesZone z c = true ↔ names c := s.namesZone_iff z c
    refine ⟨fun unnamed => endClaim_unnamed fun c member => mt (named c).mp (unnamed c member), ?_⟩
    intro above c below stack unnamed naming released
    have gone := endClaim_named stack (fun x member => mt (named x).mp (unnamed x member)) ((named c).mpr naming)
    refine ⟨fun deeper => gone.trans (if_neg deeper), fun top => ?_⟩
    subst top
    have back := gone.trans ((if_pos rfl).trans (refresh_eq sp (s.unlinked sp c below)))
    rw [State.returning, State.effectiveZone, State.effectiveRole, unlinked_topClaim] at back
    exact back
end

section
/-! WRITE CUES, and the directives of a present zone's cue program, on a part that listens (R165 to R168). -/

namespace Sys2Proof.Machine

open Sys2Proof

/-! ### The words written (R165) -/

/-- A place other than the start lies one further from the start than from the place after it. -/
theorem cueOffset_succ {i j : CueIndex} (other : j ≠ i) : (j - i).toNat = (j - (i + 1)).toNat + 1 := by
  bv_omega

/-- Each place holds the word that its distance from the start, counted round the memory, selects; a place that no
word reaches is as it was. No two of at most 512 words reach one place. -/
theorem tblGet_writeCueWords (words : List CueWord) (fits : words.length ≤ 512) (i j : CueIndex)
    (memory : Vector CueWord 512) :
    tblGet (writeCueWords words i memory) j.toFin = words.getD (j - i).toNat (tblGet memory j.toFin) := by
  induction words generalizing i memory with
  | nil => rfl
  | cons w rest ih =>
    have shorter : rest.length < 512 := fits
    rw [writeCueWords, ih shorter.le]
    by_cases here : j = i
    · have last : (i - (i + 1)).toNat = 511 := by bv_omega
      have beyond : rest.length ≤ 511 := Nat.le_of_lt_succ shorter
      rw [here, last, List.getD_eq_default _ _ beyond, tblGet_tblSet_same, BitVec.sub_self]
      rfl
    · have apart : i.toFin ≠ j.toFin := fun same => here (BitVec.eq_of_toFin_eq same.symm)
      rw [tblGet_tblSet_other _ _ apart, cueOffset_succ here, List.getD_cons_succ]

/-! ### WRITE CUES (R165, R190, R191, R203) -/

/-- One to 32 words pass the two checks of the body's length. -/
theorem wordCount_received {words : List CueWord} (nonempty : 1 ≤ words.length) (fits : words.length ≤ 32) :
    ¬ maxDirectiveBody < 6 + 4 * words.length ∧ ¬ words.isEmpty = true := by
  refine ⟨?_, by simpa using List.ne_nil_of_length_pos nonempty⟩
  unfold maxDirectiveBody
  omega

section
variable {s : State} {d : Header} {start : BitVec 16} {words : List CueWord} (h : s.Listening)
include h

theorem writeCues_none : writeCues d start [] s = s.answered 0x60 d .form [] := h.reply _ _ _ _

/-- A body of more than 32 words is longer than a DIRECTIVE frame: malformed, and answered FORM besides. -/
theorem writeCues_long (long : 32 < words.length) :
    writeCues d start words s =
      { s.answered 0x60 d .form [] with
        intake := { s.intake with malformedFrames := counted s.intake.malformedFrames 1 } } := by
  have counting : s.countMalformed.Listening := h
  have body : maxDirectiveBody < 6 + 4 * words.length := by
    unfold maxDirectiveBody
    omega
  exact (if_pos body).trans (counting.reply _ _ _ _)

section
variable (nonempty : 1 ≤ words.length) (fits : words.length ≤ 32)
include nonempty fits

theorem writeCues_rank (rank : d.rank ≠ 0) : writeCues d start words s = s.answered 0x60 d .rank [] := by
  obtain ⟨short, filled⟩ := wordCount_received nonempty fits
  have refused : (!Header.rankZero d) = true := by simpa [Header.rankZero] using rank
  rw [writeCues, if_neg short, if_neg filled, if_pos refused, h.reply]

theorem writeCues_index (rank : d.rank = 0) (outside : 512 ≤ start.toNat) :
    writeCues d start words s = s.answered 0x60 d .index [] := by
  obtain ⟨short, filled⟩ := wordCount_received nonempty fits
  rw [writeCues, if_neg short, if_neg filled, if_neg (not_rankRefused rank), cueIndex_outside outside, h.reply]

theorem writeCues_taken (rank : d.rank = 0) (inside : start.toNat < 512) :
    writeCues d start words s =
      { s.answered 0x60 d .ok [] with
        cue := { s.cue with memory := writeCueWords words (BitVec.ofNat 9 start.toNat) s.cue.memory } } := by
  obtain ⟨short, filled⟩ := wordCount_received nonempty fits
  rw [writeCues, if_neg short, if_neg filled, if_neg (not_rankRefused rank), cueIndex, if_pos inside]
  simp only [h.reply]
  rfl

end
end

/-! ### The directives of a zone's cue program (R166 to R168) -/

section
variable {s : State} {d : Header} {z : ZoneNo} (h : s.Listening) (admits : s.ZoneAdmits d z)
  (present : (s.activeZone z).present = true)
include h admits present

theorem cueGo_taken {index : BitVec 16} (inside : index.toNat < 512) :
    cueGo d (operandOf z) index s = (s.answered 0x61 d .ok []).putRun z
      { s.cueRun z with pointer := BitVec.ofNat 9 index.toNat, status := .running } := by
  have operands : cueGoOperands (operandOf z) index = some (z, BitVec.ofNat 9 index.toNat) := by
    rw [cueGoOperands, zoneIndex_operandOf, cueIndex, if_pos inside]
  rw [cueGo, operands]
  show onPresentZone 0x61 d (some z) s _ = _
  rw [← zoneIndex_operandOf z, onPresentZone_taken admits present, h.reply]
  rfl

/-- HALT and RESUME of a program that is RUNNING or HALTED put it into the state they name (Table 60). -/
theorem haltOrResume_taken (live : (s.cueRun z).status = .running ∨ (s.cueRun z).status = .halted) (kind : Byte)
    (status : CueStatus) :
    haltOrResume kind d (operandOf z) status s =
      (s.answered kind d .ok []).putRun z { s.cueRun z with status := status } := by
  rw [haltOrResume, onPresentZone_taken admits present, h.reply]
  rcases live with was | was <;> rw [was] <;> rfl

/-- A program that is STOPPED or FAULTED takes neither (Table 60). -/
theorem haltOrResume_busy (dead : (s.cueRun z).status = .stopped ∨ (s.cueRun z).status = .faulted) (kind : Byte)
    (status : CueStatus) : haltOrResume kind d (operandOf z) status s = s.answered kind d .busy [] := by
  rw [haltOrResume, onPresentZone_taken admits present, ← h.reply]
  rcases dead with was | was <;> rw [was]

theorem setPrescale_taken (prescale : BitVec 16) :
    setPrescale d (operandOf z) prescale s =
      (s.answered 0x64 d (if prescale.toNat ≤ 255 then .ok else .clamped) []).putRun z
        { s.cueRun z with prescale := min 255 prescale.toNat } := by
  have status : takenStatus (decide (min 255 prescale.toNat ≠ prescale.toNat)) =
      if prescale.toNat ≤ 255 then .ok else .clamped := by
    rw [takenStatus_of_iff decide_eq_true_iff, ite_not]
    exact if_congr min_eq_right_iff rfl rfl
  rw [setPrescale, onPresentZone_taken admits present]
  simp only [clampNat_zero, status, h.reply]
  rfl

end

end Sys2Proof.Machine

open Sys2Proof Sys2Proof.Machine

/-- Settles O50: the checks in their order, and the words by their distance from the start, counted round the
memory. -/
theorem cuesWritten : Obligations.CuesWritten := by
  intro s d start words h
  refine ⟨fun empty => ?empty, fun long => (h.onSource _).trans (congrArg _ (writeCues_long h long)),
    fun nonempty fits => ⟨fun rank => h.answers (writeCues_rank h nonempty fits rank),
      fun rank outside => h.answers (writeCues_index h nonempty fits rank outside), fun rank inside => ?written⟩⟩
  case empty =>
    subst empty
    exact h.answers (writeCues_none h)
  case written =>
    have room : words.length ≤ 512 := fits.trans (by decide)
    exact ⟨_, (h.onSource _).trans (congrArg _ (writeCues_taken h nonempty fits rank inside)),
      fun i => tblGet_writeCueWords words room _ i _⟩

/-- Settles O51: each directive of a zone that admits it writes that zone's cue program alone. -/
theorem cueDirectivesTaken : Obligations.CueDirectivesTaken := by
  intro s d z index prescale h present admits u c
  refine ⟨fun inside => ?go, fun live => ⟨?halt, ?resume⟩, fun dead => ⟨?haltBusy, ?resumeBusy⟩, ?prescale⟩
  case go => exact (h.onSource _).trans (congrArg _ (cueGo_taken h admits present inside))
  case halt => exact (h.onSource _).trans (congrArg _ (haltOrResume_taken h admits present live 0x62 .halted))
  case resume => exact (h.onSource _).trans (congrArg _ (haltOrResume_taken h admits present live 0x63 .running))
  case haltBusy => exact h.answers (haltOrResume_busy h admits present dead 0x62 .halted)
  case resumeBusy => exact h.answers (haltOrResume_busy h admits present dead 0x63 .running)
  case prescale => exact (h.onSource _).trans (congrArg _ (setPrescale_taken h admits present prescale))

end

section
/-! The Air Link's transmit side on one hand-off, one completed send and one change of the link (R173 to R179, R183,
R184): what is selected, what is placed, and what each counts. -/

namespace Sys2Proof.Machine

open Sys2Proof

/-! ### The link goes DOWN and comes UP (R183, R184) -/

/-- The frame being sent counts as one of those discarded. -/
theorem length_sending (a : AirLink) : a.sending.toList.length = if a.sending.isSome then 1 else 0 := by
  cases a.sending <;> rfl

theorem airDown_up {s : State} (up : s.air.up = true) :
    airDown s = s.modAir fun a =>
      { a with
        up := false, sending := none, control := [], audio := []
        downDiscards :=
          counted a.downDiscards (a.control.length + a.audio.length + a.sending.toList.length) } := by
  rw [airDown, if_pos up]
  simp only [length_sending]
  rfl

theorem airUp_down {s : State} (down : s.air.up = false) :
    airUp s = s.modAir fun a => { a with up := true, sending := none, control := [], audio := [] } :=
  if_neg (by simp [down])

/-! ### The late judgement (R175) -/

/-- An audio frame is late by the block and the refill margin of the state. -/
def State.late (s : State) (i : AudioItem) : Bool := i.late s.block s.store.refillMargin

theorem State.late_iff (s : State) (i : AudioItem) :
    s.late i = true ↔ ¬ s.timeline.block + s.store.refillMargin ≤ i.block :=
  decide_eq_true_iff.trans Nat.not_le.symm

/-- The counters after these frames were discarded as late. -/
def countLate (l : List AudioItem) (counters : Vector AirCounters 24) : Vector AirCounters 24 :=
  l.foldl (fun k i => tblMod k i.speaker fun c => { c with lateDiscards := bump c.lateDiscards 1 }) counters

/-- Two increases of a saturating counter are one. -/
theorem counted_counted (n j k : Nat) : counted (counted n j) k = counted n (j + k) := by
  unfold counted
  omega

/-- Each speaker counts its own of the frames, a speaker without any nothing. -/
theorem tblGet_countLate (l : List AudioItem) (counters : Vector AirCounters 24) (sp : SpeakerNo) :
    tblGet (countLate l counters) sp =
      let lost := l.countP fun i => i.speaker == sp
      let k := tblGet counters sp
      if lost = 0 then k else { k with lateDiscards := counted k.lateDiscards lost } := by
  induction l generalizing counters with
  | nil => rfl
  | cons i rest ih =>
    rw [countLate, List.foldl_cons, ← countLate, ih, tblGet_tblMod]
    by_cases own : i.speaker = sp
    · subst own
      have here := List.countP_cons_of_pos (p := fun x : AudioItem => x.speaker == i.speaker) (l := rest)
        (beq_self_eq_true i.speaker)
      simp only [if_true, here, bump_eq_counted, counted_counted, Nat.add_comm 1]
      split
      · next noneLater => rw [noneLater, if_neg (by decide)]
      · rfl
    · have other := List.countP_cons_of_neg (p := fun x : AudioItem => x.speaker == sp) (l := rest)
        (a := i) (by simpa using own)
      simp only [if_neg own, other]

/-! ### The selection (R174) -/

theorem selectAir_busy {s : State} (busy : s.air.sending.isSome = true) : selectAir s = s := by
  have taken : (s.air.up && s.air.sending.isNone) = false := by
    rw [Option.isNone_eq_false_iff.mpr busy, Bool.and_false]
  rw [selectAir, taken, if_neg Bool.false_ne_true]

theorem selectAudio_cons (i : AudioItem) (rest : List AudioItem) (s : State) :
    selectAudio (i :: rest) s =
      if s.late i then
        selectAudio rest (s.modAirCounters i.speaker fun c => { c with lateDiscards := counted c.lateDiscards 1 })
      else s.modAir fun a => { a with audio := rest, sending := some (.audio i) } := rfl

/-- The frames at the head of the audio class that are late leave it and are counted; the first that is not is
selected. -/
theorem selectAudio_eq (l : List AudioItem) {s : State} (free : s.air.sending = none) :
    selectAudio l s = s.modAir fun a =>
      { a with
        sending := (l.dropWhile s.late).head?.map .audio, audio := (l.dropWhile s.late).tail
        counters := countLate (l.takeWhile s.late) a.counters } := by
  induction l generalizing s with
  | nil =>
    rw [selectAudio, State.modAir]
    simp only [List.dropWhile_nil, List.head?_nil, Option.map_none, ← free]
    rfl
  | cons i rest ih =>
    rw [selectAudio_cons]
    cases late : s.late i with
    | true =>
      rw [if_pos rfl, List.dropWhile_cons_of_pos late, List.takeWhile_cons_of_pos late]
      exact ih free
    | false =>
      have fresh : ¬ s.late i = true := by simp [late]
      rw [if_neg Bool.false_ne_true, List.dropWhile_cons_of_neg fresh, List.takeWhile_cons_of_neg fresh]
      rfl

section
variable {s : State} (up : s.air.up = true) (free : s.air.sending = none)
include up free

theorem selectAir_control {f : ControlFrame} {rest : List ControlFrame} (oldest : s.air.control = f :: rest) :
    selectAir s = s.modAir fun a => { a with control := rest, sending := some (.control f) } := by
  simp [selectAir, up, free, oldest]

theorem selectAir_audio (noControl : s.air.control = []) :
    selectAir s = s.modAir fun a =>
      { a with
        sending := (a.audio.dropWhile s.late).head?.map .audio, audio := (a.audio.dropWhile s.late).tail
        counters := countLate (a.audio.takeWhile s.late) a.counters } := by
  have chosen : selectAir s = selectAudio s.air.audio s := by simp [selectAir, up, free, noControl]
  rw [chosen, selectAudio_eq _ free]
  rfl

end

/-! ### A completed send (R174) -/

/-- A sent frame counted by its class. -/
def AirLink.countSent (a : AirLink) : AirSend → AirLink
  | .control _ => { a with controlSent := counted a.controlSent 1 }
  | .audio _ => { a with audioSent := counted a.audioSent 1 }

/-- The link after a send is counted: the side FREE, and only the two counters changed besides. -/
def AirLink.afterSend (a : AirLink) (x : AirSend) : AirLink :=
  { a with
    sending := none, controlSent := (a.countSent x).controlSent, audioSent := (a.countSent x).audioSent }

theorem completeAir_sending {s : State} {x : AirSend} (sending : s.air.sending = some x) :
    completeAir s = selectAir (s.modAir (·.afterSend x)) := by
  rw [completeAir, sending]
  cases x <;> rfl

/-! ### The queue with nothing waiting -/

theorem AirLink.room_of_empty {a : AirLink} (noControl : a.control = []) (noAudio : a.audio = []) :
    a.queueCount < Config.airCapacity := by
  rw [AirLink.queueCount, noControl, noAudio]
  decide

/-! ### A control frame placed (R173, R176) -/

section
variable {s : State} (f : ControlFrame) {older : List AudioItem} {newest : AudioItem}

theorem placeControl_room (room : s.air.queueCount < Config.airCapacity) :
    placeControl f s = s.modAir fun a => { a with control := a.control ++ [f] } := if_pos room

section
variable (full : ¬ s.air.queueCount < Config.airCapacity)
include full

theorem placeControl_dropped (noAudio : s.air.audio = []) :
    placeControl f s = s.modAir fun a => { a with controlDrops := counted a.controlDrops 1 } := by
  rw [placeControl, if_neg full, noAudio]
  rfl

theorem placeControl_displaces (audio : s.air.audio = older ++ [newest]) :
    placeControl f s = s.modAir fun a =>
      { a with
        control := a.control ++ [f], audio := older
        counters := tblMod a.counters newest.speaker fun k => { k with drops := counted k.drops 1 } } := by
  rw [placeControl, if_neg full, audio, List.getLast?_concat]
  simp only [queueControl, countAirDrop, State.modAirCounters, State.modAir, audio, List.dropLast_concat]
  rfl

end

theorem placeControl_sending : (placeControl f s).air.sending = s.air.sending := by
  unfold placeControl
  split
  · rfl
  · split <;> rfl

/-- While a frame is sent, a control frame is placed and nothing selected. -/
theorem selectAir_placeControl_busy (busy : s.air.sending.isSome = true) :
    selectAir (placeControl f s) = placeControl f s := selectAir_busy (by rwa [placeControl_sending])

/-- On a FREE side with nothing waiting, a control frame is sent at once. -/
theorem selectAir_placeControl_free (up : s.air.up = true) (free : s.air.sending = none)
    (noControl : s.air.control = []) (noAudio : s.air.audio = []) :
    selectAir (placeControl f s) = s.modAir fun a => { a with sending := some (.control f) } := by
  have room := AirLink.room_of_empty noControl noAudio
  have oldest : s.air.control ++ [f] = f :: [] := congrArg (· ++ [f]) noControl
  rw [placeControl_room f room]
  refine (selectAir_control (s := s.modAir fun a => { a with control := a.control ++ [f] }) up free oldest).trans ?_
  rw [State.modAir, ← noControl]
  rfl

end

/-! ### The purge of a CUT (R179) -/

/-- The waiting audio frames that a CUT leaves. -/
def State.cutKeeps (s : State) (address : AirAddress) (block : Nat) : List AudioItem :=
  s.air.audio.filter fun i => !(i.frame.address == address && decide (block ≤ i.block))

theorem purge_eq (sp : SpeakerNo) (address : AirAddress) (block : Nat) (s : State) :
    purge sp address block s = s.modAir fun a =>
      { a with
        audio := s.cutKeeps address block
        counters := tblMod a.counters sp fun k =>
          { k with cutPurges := counted k.cutPurges (a.audio.length - (s.cutKeeps address block).length) } } := by
  have gone : (s.air.audio.filter (·.purgedBy address block)).length =
      s.air.audio.length - (s.cutKeeps address block).length :=
    Nat.eq_sub_of_add_eq (List.length_eq_length_filter_add (AudioItem.purgedBy · address block)).symm
  rw [purge, gone]
  rfl

/-- A CUT that finds no audio frame purges nothing, and a counter within 32 bits counts nothing. -/
theorem purge_noAudio {sp : SpeakerNo} {s : State} (address : AirAddress) (block : Nat) (noAudio : s.air.audio = [])
    (bounded : (tblGet s.air.counters sp).cutPurges ≤ 4294967295) : purge sp address block s = s := by
  have counters : (tblMod s.air.counters sp fun k => { k with cutPurges := counted k.cutPurges 0 }) =
      s.air.counters := by
    rw [tblMod, counted, Nat.add_zero, min_eq_left bounded]
    exact tblSet_get _ _
  rw [purge_eq, State.cutKeeps, State.modAir]
  simp only [noAudio, List.filter_nil, List.length_nil, Nat.sub_self, counters]
  rw [← noAudio]

/-- While a frame is sent, a CUT is placed after its purge and nothing selected. -/
theorem handCut_busy {s : State} (up : s.air.up = true) (busy : s.air.sending.isSome = true) (sp : SpeakerNo)
    (address : AirAddress) (stamp : LocalCount) (block : Nat) :
    handCut sp address stamp block s = placeControl (.cut address stamp) (purge sp address block s) :=
  (if_pos up).trans (selectAir_placeControl_busy (s := purge sp address block s) _ busy)

/-! ### An audio frame placed (R173, R177, R178) -/

theorem AudioItem.isExtra_iff (i : AudioItem) : i.isExtra = true ↔ i.frame.audioKind ≠ .firstSend := bne_iff_ne

section
variable {s : State} (i : AudioItem)

theorem placeAudio_room (room : s.air.queueCount < Config.airCapacity) :
    placeAudio i s = s.modAir fun a => { a with audio := a.audio ++ [i] } := if_pos room

section
variable (full : ¬ s.air.queueCount < Config.airCapacity)
include full

/-- A BACKFILL or REFILL, and a first-send that finds none waiting, is dropped by a full queue. -/
theorem placeAudio_dropped (shedsNone : i.isExtra = true ∨ ∀ x ∈ s.air.audio, ¬ x.isExtra = true) :
    placeAudio i s = countAirDrop i.speaker s := by
  rw [placeAudio, if_neg full]
  split
  · rfl
  · next first =>
    have noExtra : s.air.audio.reverse.find? AudioItem.isExtra = none :=
      List.find?_eq_none.mpr fun x member => shedsNone.resolve_left first x (List.mem_reverse.mp member)
    rw [noExtra]

/-- A first-send takes the place of the newest BACKFILL or REFILL of a full queue. -/
theorem placeAudio_sheds (first : ¬ i.isExtra = true) {older newer : List AudioItem} {shed : AudioItem}
    (audio : s.air.audio = older ++ shed :: newer) (extra : shed.isExtra = true)
    (newest : ∀ x ∈ newer, ¬ x.isExtra = true) :
    placeAudio i s = s.modAir fun a =>
      { a with
        audio := older ++ newer ++ [i]
        counters := tblMod a.counters shed.speaker fun k => { k with drops := counted k.drops 1 } } := by
  have backwards : (older ++ shed :: newer).reverse = newer.reverse ++ shed :: older.reverse := by simp
  have before : ∀ x ∈ newer.reverse, ¬ x.isExtra = true := fun x member => newest x (List.mem_reverse.mp member)
  have found : (older ++ shed :: newer).reverse.find? AudioItem.isExtra = some shed := by
    rw [backwards, List.find?_append, List.find?_eq_none.mpr before, List.find?_cons_of_pos extra]
    rfl
  have left : dropNewestExtra (older ++ shed :: newer) = older ++ newer := by
    rw [dropNewestExtra, backwards, List.eraseP_append_right _ before, List.eraseP_cons_of_pos extra]
    simp
  rw [placeAudio, if_neg full, if_neg first, audio, found]
  simp only [queueAudio, countAirDrop, State.modAirCounters, State.modAir, audio, left]
  rfl

end

theorem placeAudio_sending : (placeAudio i s).air.sending = s.air.sending := by
  unfold placeAudio
  split
  · rfl
  · split
    · rfl
    · split <;> rfl

/-- While a frame is sent, an audio frame is placed and nothing selected. -/
theorem handAudio_busy (up : s.air.up = true) (busy : s.air.sending.isSome = true) :
    handAudio i s = placeAudio i s :=
  (if_pos up).trans (selectAir_busy (by rwa [placeAudio_sending]))

/-- On a FREE side with nothing waiting, an audio frame that is not late is sent at once, and a late one discarded. -/
theorem handAudio_free (up : s.air.up = true) (free : s.air.sending = none) (noControl : s.air.control = [])
    (noAudio : s.air.audio = []) :
    handAudio i s =
      if s.late i then
        s.modAirCounters i.speaker fun k => { k with lateDiscards := counted k.lateDiscards 1 }
      else s.modAir fun a => { a with sending := some (.audio i) } := by
  have room := AirLink.room_of_empty noControl noAudio
  have audio : s.air.audio ++ [i] = [i] := congrArg (· ++ [i]) noAudio
  have selected : handAudio i s = selectAudio [i] s := by
    rw [handAudio, if_pos up, placeAudio_room i room, selectAudio_eq _ free]
    refine Eq.trans (selectAir_audio up free noControl) ?_
    simp only [State.modAir, audio]
    rfl
  rw [selected, selectAudio_cons]
  refine if_congr Iff.rfl ?_ ?_
  · rw [selectAudio, State.modAir, ← noAudio]
    rfl
  · rw [State.modAir, ← noAudio]
    rfl

end

end Sys2Proof.Machine

open Sys2Proof Sys2Proof.Machine

/-- Settles O53: both events do their work with RST_N high, each on the link that it changes. -/
theorem airLinkChanges : Obligations.AirLinkChanges := fun _ high =>
  ⟨fun up => (State.awake_high high airDown).trans (congrArg _ (airDown_up up)),
    fun down => (State.awake_high high airUp).trans (congrArg _ (airUp_down down))⟩

/-- Settles O54: the send is counted and leaves the side FREE, and the selection follows by what waits. -/
theorem airSendCompletes : Obligations.AirSendCompletes := by
  intro s x high up sending late fresh lost
  have completed : exec .airSendComplete s = .next (selectAir (s.modAir (·.afterSend x))) :=
    (State.awake_high high completeAir).trans (congrArg _ (completeAir_sending sending))
  have control : ∀ f, x = .control f → (s.air.countSent x).controlSent = counted s.air.controlSent 1
      ∧ (s.air.countSent x).audioSent = s.air.audioSent := by
    rintro f rfl
    exact ⟨rfl, rfl⟩
  have audio : ∀ i, x = .audio i → (s.air.countSent x).audioSent = counted s.air.audioSent 1
      ∧ (s.air.countSent x).controlSent = s.air.controlSent := by
    rintro i rfl
    exact ⟨rfl, rfl⟩
  rcases queue : s.air.control with _ | ⟨oldest, others⟩
  case nil =>
    have selected := selectAir_audio (s := s.modAir (·.afterSend x)) up rfl queue
    exact ⟨_, completed.trans (congrArg _ selected), rfl, control, audio, nofun,
      fun _ => ⟨rfl, queue, rfl, tblGet_countLate _ _⟩⟩
  case cons =>
    have selected := selectAir_control (s := s.modAir (·.afterSend x)) up rfl queue
    refine ⟨_, completed.trans (congrArg _ selected), rfl, control, audio, ?_, nofun⟩
    rintro f rest ⟨⟩
    exact ⟨rfl, rfl, rfl, rfl⟩

/-- Settles O57: for each sort of frame the DOWN link, the FREE side with nothing waiting, and the queue with room or
full behind a frame being sent. -/
theorem cutPurgesQueue : Obligations.CutPurgesQueue := by
  refine ⟨?purge, fun s => ⟨fun n block interval => ?beacon, fun sp address stamp block => ?cut, fun i => ?audio⟩⟩
  case purge =>
    intro s sp address stamp block x up sending kept room
    refine ⟨_, (handCut_busy up (Option.isSome_of_eq_some sending) sp address stamp block).trans ?_,
      fun o other => tblGet_tblSet_other _ _ other.symm, tblGet_tblSet_same _ _ _⟩
    rw [purge_eq]
    exact placeControl_room _ room
  case beacon =>
    refine ⟨fun down => if_neg (by simp [down]), fun up free noControl noAudio =>
      (if_pos up).trans (selectAir_placeControl_free _ up free noControl noAudio), fun up busy => ?_⟩
    have placed := (if_pos up : handBeacon n block interval s = _).trans (selectAir_placeControl_busy _ busy)
    exact ⟨fun room => placed.trans (placeControl_room _ room),
      fun full noAudio => placed.trans (placeControl_dropped _ (Nat.not_lt.mpr full) noAudio),
      fun older newest full audio => placed.trans (placeControl_displaces _ (Nat.not_lt.mpr full) audio)⟩
  case cut =>
    intro f kept purged
    refine ⟨fun down => if_neg (by simp [down]), fun up free noControl noAudio bounded => ?free,
      fun up busy full => ?full⟩
    case free =>
      rw [handCut, if_pos up, purge_noAudio address block noAudio bounded]
      exact selectAir_placeControl_free f up free noControl noAudio
    case full =>
      have crowded : ¬ s.air.control.length + kept.length < 96 := Nat.not_lt.mpr full
      rw [handCut_busy up busy, purge_eq]
      refine ⟨fun empty => ?dropped, fun older newest audio => ?displaced⟩
      case dropped =>
        refine Eq.trans (placeControl_dropped f crowded empty) ?_
        rw [← empty]
        rfl
      case displaced => exact placeControl_displaces f crowded audio
  case audio =>
    refine ⟨fun down => if_neg (by simp [down]), fun up free noControl noAudio => ?free, fun up busy => ?busy⟩
    case free =>
      rw [handAudio_free i up free noControl noAudio]
      exact (if_congr (State.late_iff s i) rfl rfl).trans (ite_not _ _ _)
    case busy =>
      have placed := handAudio_busy i up busy
      exact ⟨fun room => placed.trans (placeAudio_room i room),
        fun full shedsNone => placed.trans (placeAudio_dropped i (Nat.not_lt.mpr full)
          (shedsNone.imp i.isExtra_iff.mpr fun first x member => mt x.isExtra_iff.mp (first x member))),
        fun older shed newer full first audio extra newest => placed.trans
          (placeAudio_sheds i (Nat.not_lt.mpr full) (mt i.isExtra_iff.mp first) audio (shed.isExtra_iff.mpr extra)
            fun x member => mt x.isExtra_iff.mp (newest x member))⟩

end

section
/-! The directives at the wire and at dispatch: each is read back from its bytes (Tables 81 and 85), a frame of no
form is refused (R190), a directive that rank 0 alone may give is refused at any other (R191), and IDENTIFY (R193). -/

namespace Sys2Proof

open Laws.DirectiveLength (toBytes_length)

/-! ### Fields of a frame (5.4) -/

/-- A number's low `n` bytes are read back. -/
theorem fromBytes_toBytes (n v acc : Nat) : fromBytes (toBytes n v) acc = acc * 256 ^ n + v % 256 ^ n := by
  induction n generalizing acc with
  | zero => simp [toBytes, fromBytes, Nat.mod_one]
  | succ n ih =>
    rw [toBytes, fromBytes, ih, BitVec.toNat_ofNat, Nat.mod_pow_succ (b := 256)]
    ring

/-- A word that `n` bytes hold is read back from them. -/
theorem ofNat_fromBytes_toBytes {w n : Nat} (fits : w ≤ 8 * n) (x : BitVec w) :
    BitVec.ofNat w (fromBytes (toBytes n x.toNat) 0) = x := by
  have bound : x.toNat < 256 ^ n :=
    calc x.toNat < 2 ^ w := x.isLt
      _ ≤ 2 ^ (8 * n) := Nat.pow_le_pow_right (by decide) fits
      _ = 256 ^ n := Nat.pow_mul 2 8 n
  rw [fromBytes_toBytes, Nat.zero_mul, Nat.zero_add, Nat.mod_eq_of_lt bound, BitVec.ofNat_toNat, BitVec.setWidth_eq]

/-- A field of one byte at the front. -/
@[simp] theorem fieldAt_byte (b : Byte) (rest : List Byte) : fieldAt 8 (b :: rest) 0 1 = b := by
  simp [fieldAt, fromBytes]

/-- A field of several bytes at the front, which hold the whole word. -/
@[simp] theorem fieldAt_word {w n : Nat} (fits : w ≤ 8 * n) (x : BitVec w) (rest : List Byte) :
    fieldAt w (toBytes n x.toNat ++ rest) 0 n = x := by
  rw [fieldAt, List.drop_zero, List.take_left' (toBytes_length n _), ofNat_fromBytes_toBytes fits]

/-- The same where nothing follows. -/
@[simp] theorem fieldAt_word_last {w n : Nat} (fits : w ≤ 8 * n) (x : BitVec w) :
    fieldAt w (toBytes n x.toNat) 0 n = x := by simpa using fieldAt_word fits x []

/-- A field is read past a byte that stands before it. -/
@[simp] theorem fieldAt_past_byte (w : Nat) (b : Byte) (rest : List Byte) (offset n : Nat) :
    fieldAt w (b :: rest) (offset + 1) n = fieldAt w rest offset n := rfl

/-- A field is read past a word that stands before it. -/
@[simp] theorem fieldAt_past_word {k offset : Nat} (past : k ≤ offset) (w v n : Nat) (rest : List Byte) :
    fieldAt w (toBytes k v ++ rest) offset n = fieldAt w rest (offset - k) n := by
  have before : (toBytes k v).drop offset = [] := List.drop_eq_nil_of_le (by rwa [toBytes_length])
  rw [fieldAt, fieldAt, List.drop_append, before, toBytes_length, List.nil_append]

/-- Cue words are read back from their bytes, four to a word. -/
theorem cueWordsOf_flatMap (words : List CueWord) :
    cueWordsOf (words.flatMap fun w => toBytes 4 w.toNat) = some words := by
  induction words with
  | nil => rfl
  | cons w rest ih =>
    have word : BitVec.ofNat 32 (fromBytes (toBytes 4 w.toNat) 0) = w := ofNat_fromBytes_toBytes (by decide) w
    show (cueWordsOf (rest.flatMap fun w => toBytes 4 w.toNat)).map
      (BitVec.ofNat 32 (fromBytes (toBytes 4 w.toNat) 0) :: ·) = _
    rw [ih, word, Option.map_some]

/-! ### Directives (Table 85) -/

theorem timebaseDirective_local {mode : Byte} (other : mode ≠ 1) (d : Header) (tau candidates : BitVec 16) :
    timebaseDirective d mode tau candidates = .setTimebaseLocal d mode tau candidates := if_neg other

theorem stopDirective_soft {mode : Byte} (other : mode ≠ 1) (d : Header) (zone : Byte) :
    stopDirective d zone mode = .stopZoneSoft d zone mode := if_neg other

theorem wordCountPasses_iff {words : List CueWord} :
    wordCountPasses words = true ↔ 1 ≤ words.length ∧ words.length ≤ 32 := by simp [wordCountPasses]

theorem parseWriteCues_some (d : Header) (a b : Byte) {rest : List Byte} {words : List CueWord}
    (read : cueWordsOf rest = some words) (received : 1 ≤ words.length ∧ words.length ≤ 32) :
    parseWriteCues d (a :: b :: rest) = some (.writeCues d (BitVec.ofNat 16 (fromBytes [a, b] 0)) words) := by
  simp only [parseWriteCues, read]
  exact if_pos received

theorem parseWriteCues_words (d : Header) (start : BitVec 16) {words : List CueWord}
    (received : 1 ≤ words.length ∧ words.length ≤ 32) :
    parseWriteCues d (toBytes 2 start.toNat ++ words.flatMap fun w => toBytes 4 w.toNat) =
      some (.writeCues d start words) := by
  have first : BitVec.ofNat 16 (fromBytes (toBytes 2 start.toNat) 0) = start :=
    ofNat_fromBytes_toBytes (by decide) start
  exact (parseWriteCues_some d _ _ (cueWordsOf_flatMap words) received).trans
    (congrArg (fun x => some (Instr.writeCues d x words)) first)

/-- A directive of Table 85 is what its kind code and operand bytes spell. -/
theorem parseDirective_directiveBytes {i : Instr} {kind : Byte} {d : Header} {ops : List Byte}
    (wf : i.wellFormed = true) (bytes : directiveBytes i = some (kind, d, ops))
    (named : ∀ k e o, i ≠ .unknownDirectiveKind k e o) : parseDirective kind d ops = some i := by
  cases i <;> cases bytes
  case unknownDirectiveKind => exact absurd rfl (named _ _ _)
  case setTimebaseLocal =>
    simp [parseDirective, toBytes_length, timebaseDirective_local (bne_iff_ne.mp wf)]
  case stopZoneSoft => simp [parseDirective, stopDirective_soft (bne_iff_ne.mp wf)]
  case writeCues => exact parseWriteCues_words _ _ (wordCountPasses_iff.mp wf)
  case setTimebaseFastest => simp [parseDirective, toBytes_length, timebaseDirective]
  case stopZoneHard => simp [parseDirective, stopDirective]
  -- What is left has no operand, one operand byte, or fields of fixed places.
  all_goals simp [parseDirective, operands0, operands1, toBytes_length]

end Sys2Proof

namespace Sys2Proof.Machine

open Sys2Proof

/-! ### Refusals of form and rank (R190, R191) -/

/-- A frame that spells no directive, and is no longer than a DIRECTIVE frame, is answered FORM (R190). -/
theorem directiveFrame_form {kind : Byte} {d : Header} {ops : List Byte} (fits : ops.length ≤ 130)
    (unspelt : parseDirective kind d ops = none) (s : State) :
    directiveFrame kind d ops s = reply kind d .form [] s := by
  have short : ¬ maxDirectiveBody < 4 + ops.length := by
    unfold maxDirectiveBody
    omega
  rw [directiveFrame, if_neg short, directiveArrives, unspelt, refuseForm]

/-- The kind codes of the directives that Table 72 marks rank 0, as `RankZeroDirectivesRefused` lists them. -/
def rankZeroKinds : List Byte :=
  [0x03, 0x10, 0x11, 0x12, 0x13, 0x20, 0x21, 0x22, 0x32, 0x50, 0x51, 0x60]

/-- At another rank a directive that rank 0 alone may give does nothing but reply RANK (R191 step 1). -/
theorem dispatch_ranked {i : Instr} {kind : Byte} {d : Header} {ops : List Byte} (rank : d.rank ≠ 0)
    (wf : i.wellFormed = true) (bytes : directiveBytes i = some (kind, d, ops)) (listed : kind ∈ rankZeroKinds)
    (named : ∀ k o, i ≠ .unknownDirectiveKind k d o) {s : State} (h : s.Listening) :
    dispatch i s = s.answered kind d .rank [] := by
  have refused : (!Header.rankZero d) = true := by simpa [Header.rankZero] using rank
  have answered (t : State) :
      (if !Header.rankZero d then reply kind d .rank [] s else t) = s.answered kind d .rank [] :=
    (if_pos refused).trans (h.reply _ _ _ _)
  cases i <;> cases bytes
  case unknownDirectiveKind => exact absurd rfl (named _ _)
  case writeCues =>
    obtain ⟨nonempty, fits⟩ := wordCountPasses_iff.mp wf
    exact writeCues_rank h nonempty fits rank
  case restart => exact answered _
  case setTimebaseLocal => exact answered _
  case setTimebaseFastest => exact answered _
  case setBeacon => exact answered _
  case armMark => exact answered _
  case disarmMark => exact answered _
  case openStream => exact answered _
  case closeStream => exact answered _
  case flushStream => exact answered _
  case unstage => exact answered _
  case setTracking => exact answered _
  case setStore => exact answered _
  -- The others act on one object or may be given at any rank (Table 72).
  all_goals exact absurd listed (by decide)

end Sys2Proof.Machine

open Sys2Proof Sys2Proof.Machine

/-- Settles O14: a directive of Table 85 by `parseDirective_directiveBytes`, a frame of no directive as itself. -/
theorem directiveBytesRoundTrip : Obligations.DirectiveBytesRoundTrip := by
  intro i kind d ops wf bytes
  by_cases raw : ∃ k e o, i = .unknownDirectiveKind k e o
  · obtain ⟨k, e, o, rfl⟩ := raw
    cases bytes
    have spelt : (parseDirective kind d ops).isNone = true := (Bool.and_eq_true_iff.mp wf).1
    rw [directiveOf, Option.isNone_iff_eq_none.mp spelt, Option.getD_none]
  · have named : ∀ k e o, i ≠ .unknownDirectiveKind k e o := fun k e o same => raw ⟨k, e, o, same⟩
    rw [directiveOf, parseDirective_directiveBytes wf bytes named, Option.getD_some]

/-- Settles O15: a directive reaches dispatch, and `dispatch_ranked` says what it does there. -/
theorem rankZeroDirectivesRefused : Obligations.RankZeroDirectivesRefused := by
  intro i kind d ops s h rank wf bytes listed named
  rcases exec_directive (by rw [bytes]; rfl) s with reaches | ⟨k, e, o, rfl⟩
  · exact reaches.trans (h.answers (dispatch_ranked rank wf bytes listed named h))
  · cases bytes
    exact absurd rfl (named _ _)

/-- Settles O16: the payload of R193 is the model's, field by field. -/
theorem identifyReplies : Obligations.IdentifyReplies := fun _ d h =>
  h.answers (h.reply 0x01 d .ok identifyPayload)

/-- Settles O18. -/
theorem unknownDirectiveRefused : Obligations.UnknownDirectiveRefused := fun s _ _ _ h fits unspelt =>
  h.answers ((directiveFrame_form fits unspelt s).trans (h.reply _ _ _ _))
end

section
/-! The Source Link: reports offered to its queue (R195, R196), a completed send (R197), and the link that goes DOWN or
comes UP (R199, R200). -/

namespace Sys2Proof.Machine

open Sys2Proof

/-! ### Reports offered (R195, R196) -/

theorem Report.isEvent_iff (r : Report) (code : EventCode) (subject : Nat) :
    r.isEvent code subject = true ↔ r.sort = .event code subject := beq_iff_eq

section
variable {l : SourceLink} {pre post : List Report} {r : Report} (payload : List Field) (block : Nat)

section
variable {code : EventCode} {subject : Nat}

/-- An event report merges with its queued equal, which keeps its place (R195 step 1). -/
theorem SourceLink.offerEvent_merges (queue : l.reports = pre ++ r :: post) (equal : r.sort = .event code subject)
    (others : ∀ x ∈ pre ++ post, x.sort ≠ .event code subject) :
    l.offerEvent code subject payload block = { l with reports := pre ++ r.merged payload block :: post } := by
  have merges : r.isEvent code subject = true := (r.isEvent_iff code subject).mpr equal
  have found : l.reports.any (·.isEvent code subject) = true :=
    List.any_eq_true.mpr ⟨r, by simp [queue], merges⟩
  have kept (part : List Report) (sub : ∀ x ∈ part, x ∈ pre ++ post) :
      part.map (fun x => if x.isEvent code subject then x.merged payload block else x) = part :=
    (List.map_congr_left fun x member =>
      if_neg (mt (x.isEvent_iff code subject).mp (others x (sub x member)))).trans (List.map_id part)
  rw [offerEvent, if_pos found, queue, List.map_append, List.map_cons, if_pos merges,
    kept pre fun _ => List.mem_append_left _, kept post fun _ => List.mem_append_right _]

section
variable (single : ∀ x ∈ l.reports, x.sort ≠ .event code subject)
include single

theorem SourceLink.no_equal : ¬ l.reports.any (·.isEvent code subject) = true := fun found => by
  obtain ⟨x, member, equal⟩ := List.any_eq_true.mp found
  exact single x member ((x.isEvent_iff code subject).mp equal)

theorem SourceLink.offerEvent_enters (room : l.reports.length < Config.reportCapacity) :
    l.offerEvent code subject payload block = l.enter (.event code subject) payload block :=
  (if_neg (no_equal single)).trans (if_pos room)

theorem SourceLink.offerEvent_lost (full : ¬ l.reports.length < Config.reportCapacity) :
    l.offerEvent code subject payload block =
      { l with eventDrops := counted l.eventDrops 1, lossPending := true } :=
  (if_neg (no_equal single)).trans (if_neg full)

end
end

/-- The newest event report is the one behind which no other waits. -/
theorem dropNewestEvent_append (event : r.isAnyEvent = true) (newest : ∀ x ∈ post, ¬ x.isAnyEvent = true) :
    dropNewestEvent (pre ++ r :: post) = pre ++ post := by
  have backwards : (pre ++ r :: post).reverse = post.reverse ++ r :: pre.reverse := by simp
  have before : ∀ x ∈ post.reverse, ¬ x.isAnyEvent = true := fun x member => newest x (List.mem_reverse.mp member)
  rw [dropNewestEvent, backwards, List.eraseP_append_right _ before, List.eraseP_cons_of_pos event]
  simp

section
variable (sort : ReportSort)

theorem SourceLink.offerFirm_enters (room : l.reports.length < Config.reportCapacity) :
    l.offerFirm sort payload block = l.enter sort payload block := if_pos room

section
variable (full : ¬ l.reports.length < Config.reportCapacity)
include full

/-- A REPLY or READY takes the place of the newest event report of a full queue, and carries LOSS (R196). -/
theorem SourceLink.offerFirm_displaces (queue : l.reports = pre ++ r :: post) (event : r.isAnyEvent = true)
    (newest : ∀ x ∈ post, ¬ x.isAnyEvent = true) :
    l.offerFirm sort payload block =
      ({ l with
         reports := pre ++ post, eventDrops := counted l.eventDrops 1
         lossPending := true } : SourceLink).enter sort payload block := by
  have found : l.reports.any Report.isAnyEvent = true := List.any_eq_true.mpr ⟨r, by simp [queue], event⟩
  rw [offerFirm, if_neg full, if_pos found, queue, dropNewestEvent_append event newest]
  rfl

/-- A full queue without an event report has no place for a REPLY or READY (R196). -/
theorem SourceLink.offerFirm_lost (firm : ∀ x ∈ l.reports, x.isAnyEvent = false) :
    l.offerFirm sort payload block = { l with replyDrops := counted l.replyDrops 1, lossPending := true } := by
  have absent : ¬ l.reports.any Report.isAnyEvent = true := by simpa using firm
  exact (if_neg full).trans (if_neg absent)

end
end
end

/-! ### The selection (R197) -/

section
variable {s : State} (up : s.source.up = true) (free : s.source.sending = none)
include up free

/-- A selection among waiting reports takes the oldest. -/
theorem selectSource_reports (waiting : s.source.reports ≠ []) :
    selectSource s =
      { s with
        source :=
          { s.source with
            reports := s.source.reports.tail, sending := s.source.reports.head?.map .report } } := by
  obtain ⟨r, rest, queue⟩ := List.exists_cons_of_ne_nil waiting
  rw [selectSource_report s r rest up free queue, queue]
  rfl

/-- With no report waiting the oldest tap block is taken. -/
theorem selectSource_tap (reports : s.source.reports = []) {b : TapBlock} {rest : List TapBlock}
    (buffer : s.playout.tap.buffer = b :: rest) :
    selectSource s =
      { s with
        source := { s.source with sending := some (.tap b) }
        playout := { s.playout with tap := { s.playout.tap with buffer := rest } } } := by
  simp [selectSource, up, free, reports, buffer, State.modSource, State.modTap, State.modPlayout]

end

/-! ### A completed send (R197) -/

/-- The link with a sent frame counted by its sort. -/
def SourceLink.countSent (l : SourceLink) : SourceSend → SourceLink
  | .report _ => { l with reportsSent := counted l.reportsSent 1 }
  | .tap _ => { l with tapSent := counted l.tapSent 1 }

/-- A count leaves the link's state and its queue. -/
theorem SourceLink.countSent_link (l : SourceLink) (x : SourceSend) :
    (l.countSent x).up = l.up ∧ (l.countSent x).reports = l.reports := by
  cases x <;> exact ⟨rfl, rfl⟩

theorem completeSource_sending {s : State} {x : SourceSend} (sending : s.source.sending = some x) :
    completeSource s = selectSource (s.modSource fun l => { l.countSent x with sending := none }) := by
  rw [completeSource, sending]
  cases x <;> rfl

/-! ### The link goes DOWN (R199) and comes UP (R200) -/

theorem counted_zero {n : Nat} (bounded : n ≤ 4294967295) : counted n 0 = n := min_eq_left bounded

section
variable {s : State}

theorem sourceDown_up (up : s.source.up = true) :
    sourceDown s = (discardTaps (abandonSend s)).modSource fun l => { l with up := false } := if_pos up

theorem abandonSend_free (free : s.source.sending = none) :
    abandonSend s = s.modSource fun l => { l with sending := none } := by
  have same : { s.source with sending := none } = s.source := by rw [← free]
  rw [abandonSend, free, State.modSource, same]

theorem abandonSend_event {r : Report} (sending : s.source.sending = some (.report r)) (event : r.isAnyEvent = true) :
    abandonSend s = s.modSource fun l =>
      { l with sending := none, eventDrops := counted l.eventDrops 1, lossPending := true } := by
  rw [abandonSend, sending]
  exact congrArg (fun l => { s with source := l }) (if_pos event)

theorem abandonSend_firm {r : Report} (sending : s.source.sending = some (.report r)) (firm : r.isAnyEvent = false) :
    abandonSend s = s.modSource fun l =>
      { l with sending := none, replyDrops := counted l.replyDrops 1, lossPending := true } := by
  rw [abandonSend, sending]
  exact congrArg (fun l => { s with source := l }) (if_neg (Bool.eq_false_iff.mp firm))

theorem abandonSend_tap {b : TapBlock} (sending : s.source.sending = some (.tap b)) :
    abandonSend s = (s.modSource fun l => { l with sending := none }).modTap fun t =>
      { t with overruns := counted t.overruns 1 } := by
  rw [abandonSend, sending]
  rfl

/-- A link that comes UP with room in its queue enters READY at the tail and sends the oldest report. -/
theorem sourceUp_down (down : s.source.up = false) (free : s.source.sending = none)
    (room : s.source.reports.length < Config.reportCapacity) :
    let ready : Report :=
      { sort := .ready, count := 1, block := s.timeline.block, payload := [f6 s.timeline.block]
        loss := s.source.lossPending }
    sourceUp s =
      { s with
        source :=
          { s.source with
            up := true, lossPending := false
            sending := (s.source.reports ++ [ready]).head?.map .report
            reports := (s.source.reports ++ [ready]).tail } } := by
  intro ready
  have stays : ¬ s.source.up = true := by simp [down]
  have enters : sourceUp s = selectSource (s.modSource fun l =>
      ({ l with up := true } : SourceLink).enter .ready [f6 s.timeline.block] s.timeline.block) :=
    (if_neg stays).trans (congrArg (fun l => selectSource { s with source := l })
      (SourceLink.offerFirm_enters (l := { s.source with up := true }) _ _ _ room))
  exact enters.trans
    (selectSource_reports rfl free (List.append_ne_nil_of_right_ne_nil _ (List.cons_ne_nil ready [])))

end

end Sys2Proof.Machine

open Sys2Proof Sys2Proof.Machine

/-- Settles O56. -/
theorem reportsOffered : Obligations.ReportsOffered := by
  intro l code subject sort payload block
  have crowded (full : l.reports.length = 32) : ¬ l.reports.length < Config.reportCapacity := full.not_lt
  refine ⟨fun pre r post queue equal others => SourceLink.offerEvent_merges payload block queue equal others,
    fun single => ⟨fun room => SourceLink.offerEvent_enters payload block single room,
      fun full => SourceLink.offerEvent_lost payload block single (crowded full)⟩,
    fun pre r post queue full event newest => ?_,
    fun full firm => SourceLink.offerFirm_lost payload block sort (crowded full) firm⟩
  exact SourceLink.offerFirm_displaces payload block sort (crowded full) queue event fun x member =>
    Bool.eq_false_iff.mp (newest x member)

/-- Settles O55: the send is counted and leaves the side FREE, and the selection follows by what waits. -/
theorem sourceSendCompletes : Obligations.SourceSendCompletes := by
  intro s x high up sending
  have completed := (State.awake_high high completeSource).trans (congrArg _ (completeSource_sending sending))
  obtain ⟨link, queue⟩ := s.source.countSent_link x
  rcases reports : s.source.reports with _ | ⟨r, rest⟩
  case cons =>
    exact completed.trans (congrArg _ (selectSource_report _ r rest (link.trans up) rfl (queue.trans reports)))
  case nil =>
    have empty := queue.trans reports
    rcases buffer : s.playout.tap.buffer with _ | ⟨b, rest⟩
    case cons => exact completed.trans (congrArg _ (selectSource_tap (link.trans up) rfl empty buffer))
    case nil => exact completed.trans (congrArg _ (selectSource_idle _ (.inr (.inr ⟨empty, buffer⟩))))

/-- Settles O52: what is sent is abandoned by its sort and the tap buffer discarded; READY enters and the oldest report
is selected. -/
theorem sourceLinkChanges : Obligations.SourceLinkChanges := by
  intro s high
  refine ⟨fun up => ?down, fun down free room =>
    (State.awake_high high sourceUp).trans (congrArg _ (sourceUp_down down free room))⟩
  refine ⟨_, (State.awake_high high sourceDown).trans (congrArg _ (sourceDown_up up)), ?_⟩
  have discarded (n : Nat) : counted n s.playout.tap.buffer.length = counted n (0 + s.playout.tap.buffer.length) := by
    rw [Nat.zero_add]
  rcases sending : s.source.sending with _ | ⟨r⟩ | ⟨b⟩
  case none =>
    rw [abandonSend_free sending]
    exact ⟨rfl, (Bool.or_false _).symm, fun bounded => (counted_zero bounded).symm,
      fun bounded => (counted_zero bounded).symm, discarded _⟩
  case some.report =>
    by_cases sort : r.isAnyEvent = true
    case pos =>
      rw [abandonSend_event sending sort]
      simp only [if_pos sort, if_neg (ne_false_of_eq_true sort)]
      exact ⟨rfl, (Bool.or_true _).symm, fun _ => rfl, fun bounded => (counted_zero bounded).symm, discarded _⟩
    case neg =>
      have firm : r.isAnyEvent = false := Bool.eq_false_iff.mpr sort
      rw [abandonSend_firm sending firm]
      simp only [if_neg sort, if_pos firm]
      exact ⟨rfl, (Bool.or_true _).symm, fun bounded => (counted_zero bounded).symm, fun _ => rfl, discarded _⟩
  case some.tap =>
    rw [abandonSend_tap sending]
    exact ⟨rfl, (Bool.or_false _).symm, fun bounded => (counted_zero bounded).symm,
      fun bounded => (counted_zero bounded).symm, counted_counted _ 1 _⟩
end

section
/-! Raw frames that fail the reception check on an UP link: dropped and counted, a DIRECTIVE frame too long answered
with FORM besides (R203). -/

namespace Sys2Proof

/-! ### The fields of a DIRECTIVE body (Table 81) -/

/-- A field of one byte is the byte at its offset, 0 past the end. -/
theorem fieldAt_getD (body : List Byte) (offset : Nat) : fieldAt 8 body offset 1 = body.getD offset 0 := by
  induction body generalizing offset with
  | nil => rw [fieldAt, List.drop_nil]; rfl
  | cons b rest ih =>
    cases offset with
    | zero => exact fieldAt_byte b rest
    | succ offset => exact ih offset

/-- A field of two bytes at the front, most significant byte first (5.4). -/
theorem fieldAt_two_bytes (a b : Byte) (rest : List Byte) : fieldAt 16 (a :: b :: rest) 0 2 = a ++ b := by
  have value : a.toNat * 256 + b.toNat = (a ++ b).toNat := by
    rw [BitVec.toNat_append, ← Nat.shiftLeft_add_eq_or_of_lt b.isLt, Nat.shiftLeft_eq]
  show BitVec.ofNat 16 ((0 * 256 + a.toNat) * 256 + b.toNat) = a ++ b
  rw [Nat.zero_mul, Nat.zero_add, value]
  exact (BitVec.ofNat_toNat _ _).trans (BitVec.setWidth_eq _)

/-- A body that holds its tag has the rank of its second byte and the tag of its third and fourth (Table 81). -/
theorem parseHeader_eq : ∀ {body : List Byte}, 4 ≤ body.length →
    parseHeader body =
      ⟨BitVec.ofNat 2 (body.getD 1 0).toNat, body.getD 2 0 ++ body.getD 3 0⟩
  | _ :: _ :: high :: low :: rest, _ => by
    rw [parseHeader, fieldAt_getD]
    exact congrArg (Header.mk _) (fieldAt_two_bytes high low rest)

end Sys2Proof

namespace Sys2Proof.Machine

open Sys2Proof

/-! ### A frame on an UP link (R203) -/

section
variable {s : State} {cls : Byte} {body : List Byte} (high : s.rstLow = false)
include high

theorem exec_malformedFrame_source (up : s.source.up = true) :
    exec (.malformedFrame .source cls body) s = .next (sourceLinkFrame cls body s) := by
  show s.onSource (sourceLinkFrame cls body) = _
  simp [State.onSource, high, up]

theorem exec_malformedFrame_air (up : s.air.up = true) :
    exec (.malformedFrame .air cls body) s = .next (airLinkFrame cls body s) := by
  show s.onAir (airLinkFrame cls body) = _
  simp [State.onAir, high, up]

end

section
variable {cls : Byte} {body : List Byte}

theorem sourceLinkFrame_unreceived (other : cls ≠ classDirective)
    (unreceived : receptionPasses .source cls body = false) (s : State) :
    sourceLinkFrame cls body s = s.countMalformed := by
  rw [sourceLinkFrame, if_neg other, unreceived]
  rfl

theorem airLinkFrame_unreceived (unreceived : receptionPasses .air cls body = false) (s : State) :
    airLinkFrame cls body s = s.countMalformed := by
  rw [airLinkFrame, unreceived]
  rfl

/-- Without a whole tag there is nothing to answer. -/
theorem sourceLinkFrame_short (short : body.length < 4) (s : State) :
    sourceLinkFrame classDirective body s = s.countMalformed :=
  (if_pos rfl).trans (if_pos short)

theorem sourceLinkFrame_long (long : 134 < body.length) {s : State} (h : s.Listening) :
    sourceLinkFrame classDirective body s =
      s.countMalformed.answered (body.getD 0 0)
        ⟨BitVec.ofNat 2 (body.getD 1 0).toNat, body.getD 2 0 ++ body.getD 3 0⟩ .form [] := by
  have counting : s.countMalformed.Listening := h
  have tagged : ¬ body.length < 4 := by omega
  have above : maxDirectiveBody < 4 + (body.drop 4).length := by
    rw [List.length_drop, maxDirectiveBody]
    omega
  rw [sourceLinkFrame, if_pos rfl, directiveBody, if_neg tagged, directiveFrame, if_pos above, fieldAt_getD,
    parseHeader_eq (Nat.not_lt.mp tagged)]
  exact counting.reply _ _ _ _

end

end Sys2Proof.Machine

open Sys2Proof Sys2Proof.Machine

/-- Settles O31: a frame on an UP link reaches reception, where each of these is counted as malformed. -/
theorem malformedFrameDropped : Obligations.MalformedFrameDropped := by
  intro s cls body high dropped
  refine ⟨fun up other unreceived => ?source, fun up short => ?short, fun h long => ?long,
    fun up unreceived => ?air⟩
  case source =>
    exact (exec_malformedFrame_source high up).trans (congrArg _ (sourceLinkFrame_unreceived other unreceived s))
  case short => exact (exec_malformedFrame_source high up).trans (congrArg _ (sourceLinkFrame_short short s))
  case long =>
    have ⟨_, up, _⟩ := h
    exact (exec_malformedFrame_source high up).trans (congrArg _ (sourceLinkFrame_long long h))
  case air => exact (exec_malformedFrame_air high up).trans (congrArg _ (airLinkFrame_unreceived unreceived s))
end
